-- ==== Sys2Proof/Word.lean ====
section
/-! DEFINITION. The unit of everything the part's ports carry: the byte (chapter 11). Tags, numbers,
times, counts and codes are numbers the part compares, adds and subtracts (00_scope.md 4.3, 4.4), so the
model holds them as natural numbers with stated bounds; only bytes on a wire and the CRC are bit vectors. -/

namespace Sys2Proof

/-- One byte on the Branch Link, the Kiosk Port or the Slot Bus. -/
abbrev Byte := BitVec 8

/-- The CRC-16 check value that closes every frame (R177, R181). -/
abbrev Crc := BitVec 16

end Sys2Proof
end

