-- ==== Sys2Proof/Config.lean ====
section
/-! DEFINITION. The numbers the data sheet fixes (00_scope.md section 5). The spec leaves no result open,
so there is no free value here. -/

namespace Sys2Proof.Config

/-- Highest value of a tag, a booking number and a cabinet time (00_scope.md 4.3, 4.4). -/
abbrev maxTime : Nat := 4294967295
/-- Counters reported by STATUS_QUERY stop here (00_scope.md 4.5, R159). -/
abbrev maxCount : Nat := 65535
/-- Key Directory capacity (R1). -/
abbrev directoryCap : Nat := 512
/-- Booking Table capacity (R59). -/
abbrev bookingCap : Nat := 256
/-- Release Queue capacity (R79). -/
abbrev releaseCap : Nat := 16
/-- Drop Bin List capacity (R99). -/
abbrev binCap : Nat := 64
/-- IN_BIN entries at which the flap locks and drops are no longer recorded (R104, R107). -/
abbrev binLock : Nat := 48
/-- Alert List capacity (R134). -/
abbrev alertCap : Nat := 8
/-- Report Queue capacity (R152). -/
abbrev reportCap : Nat := 32
/-- Answer Queue capacity (R150). -/
abbrev answerCap : Nat := 4
/-- Kiosk Notice Queue capacity (R162). -/
abbrev noticeCap : Nat := 4
/-- Service Removal List capacity (R173). -/
abbrev removalCap : Nat := 32
/-- Change entries a unit keeps (R25), and the most a POLL reply carries (R25). -/
abbrev changeCap : Nat := 32
abbrev pollMax : Nat := 16
/-- Consecutive missed replies before RECOVERY (R36). -/
abbrev missLimit : Nat := 3
/-- Recovery attempts before RETIRED (R35). -/
abbrev recoveryLimit : Nat := 5
/-- Slots of one module, and the quarantined count that retires it (R38). -/
abbrev moduleSlots : Nat := 16
/-- Presence changes in one window that quarantine a slot, and the window's seconds (R50, R51). -/
abbrev chatterLimit : Nat := 7
abbrev chatterWindow : Nat := 10
/-- Wrong codes before lockout (R73). -/
abbrev codeLimit : Nat := 5
/-- Highest release code (R58). -/
abbrev codeMax : Nat := 999999
/-- Highest grace and escalation, in minutes (R58). -/
abbrev graceMax : Nat := 240
abbrev escalationMax : Nat := 1440
/-- Highest age in hand, in seconds (R99). -/
abbrev ageMax : Nat := 7200
/-- Slow opens that make a slot QUARANTINE_PENDING (R48). -/
abbrev slowLimit : Nat := 3
/-- Frame completion limit and Slot Bus reply deadline, in milliseconds of the part's own clock (R146, R23). -/
abbrev frameLimit : Nat := 200
abbrev replyLimit : Nat := 25
/-- Largest body of a link frame, and largest payload of a Slot Bus frame (R177, R181). -/
abbrev bodyMax : Nat := 246
abbrev payloadMax : Nat := 119

end Sys2Proof.Config
end

