-- ==== Sys2Proof/Machine/Bytes.lean ====
section
/-! DEFINITION. Bytes: "Multi-byte values are sent most significant byte first" (chapter 11), presence bytes
(R178) and the CRC-16 of R177. -/

namespace Sys2Proof.Machine

/-- The number some bytes give, most significant byte first. -/
def beNat (bs : List Byte) : Nat := bs.foldl (fun a b => a * 256 + b.toNat) 0

/-- A number in `k` bytes, most significant byte first. -/
def beBytes : Nat → Nat → List Byte
  | 0, _ => []
  | k + 1, n => BitVec.ofNat 8 (n / 256 ^ k) :: beBytes k n

/-- Take a number of `k` bytes off the front. -/
def readNat (k : Nat) (bs : List Byte) : Option (Nat × List Byte) :=
  if bs.length < k then none else some (beNat (bs.take k), bs.drop k)

/-- Take a number of `k` bytes off the front when its presence bit is set (R178). -/
def readOpt (present : Bool) (k : Nat) (bs : List Byte) : Option (Option Nat × List Byte) :=
  if present then (readNat k bs).map fun r => (some r.1, r.2) else some (none, bs)

/-- Two cabinet times, when their presence bit is set: a window (R179). -/
def readWindow (present : Bool) (bs : List Byte) : Option (Option (Nat × Nat) × List Byte) :=
  if present then do
    let (a, bs) ← readNat 4 bs
    let (b, bs) ← readNat 4 bs
    some (some (a, b), bs)
  else some (none, bs)

/-- A body is read when nothing is left over: its "length must equal the fixed part plus the sizes of the
fields whose bits are set" (R178). -/
def whole {α : Type} (r : Option (α × List Byte)) : Option α :=
  match r with
  | some (a, []) => some a
  | _ => none

/-- The bytes of an optional field: left out when absent (R178). -/
def optBytes (k : Nat) (o : Option Nat) : List Byte :=
  match o with
  | some n => beBytes k n
  | none => []

/-- A truth value as one byte. -/
def boolByte (b : Bool) : List Byte := beBytes 1 b.toNat

/-- Flags packed into a number, the first in bit 0 (R180). -/
def packFlags : List Bool → Nat
  | [] => 0
  | b :: bs => b.toNat + 2 * packFlags bs

/-- Presence bytes: a bit for each optional field, the first in bit 0 (R178, R179); eight bits a byte. -/
def presence (flags : List Bool) : List Byte :=
  (List.range ((flags.length + 7) / 8)).map fun i => BitVec.ofNat 8 (packFlags ((flags.drop (8 * i)).take 8))

/-- One bit of the CRC register: polynomial 0x1021, most significant bit first (R177). -/
def crcBit (c : Crc) : Crc := if c.msb then (c <<< 1) ^^^ 0x1021#16 else c <<< 1

/-- One byte of the CRC, "with no reflection of input or output" (R177). -/
def crcByte (c : Crc) (b : Byte) : Crc :=
  crcBit (crcBit (crcBit (crcBit (crcBit (crcBit (crcBit (crcBit (c ^^^ (b.setWidth 16 <<< 8)))))))))

/-- The CRC-16 of R177: initial value 0xFFFF, final XOR of 0x0000. -/
def crc16 (bs : List Byte) : Crc := bs.foldl crcByte 0xFFFF#16

/-- The frame envelope of R177: marker, length, kind, tag, body, CRC over the length through the body. -/
def linkEnvelope (kind tag : Byte) (body : List Byte) : List Byte :=
  let inner := BitVec.ofNat 8 (body.length + 2) :: kind :: tag :: body
  0xA5#8 :: inner ++ beBytes 2 (crc16 inner).toNat

/-- The Slot Bus envelope of R181: marker, address, length, code, payload, CRC over the address through the
payload. -/
def busEnvelope (addr code : Byte) (payload : List Byte) : List Byte :=
  let inner := addr :: BitVec.ofNat 8 (payload.length + 1) :: code :: payload
  0x5A#8 :: inner ++ beBytes 2 (crc16 inner).toNat

end Sys2Proof.Machine
end

