-- ==== Sys2Proof/Syntax.lean ====
section
/-! DEFINITION. The commands: one constructor for each row of spec/opcode_table.json. A frame or a Slot Bus
reply is given as the bytes it carries; what those bytes mean is decided in the machine, by R178 to R181. -/

namespace Sys2Proof

/-- The two serial ports of section 2.3. -/
inductive Port where
  | branch
  | kiosk
  deriving DecidableEq, Repr

/-- The levels of the input pins a start-up reads (R169, steps 2, 3 and 7); true is high. -/
structure Pins where
  supa   : Bool
  supb   : Bool
  panel  : Bool
  strap0 : Bool
  strap1 : Bool
  strap2 : Bool
  deriving DecidableEq, Repr

/-- A command to the part. `tag` is the request tag of a frame, `body` its body, `payload` the payload of a
Slot Bus reply from `unit`, and `clock` a reading of the part's own millisecond clock. -/
inductive Instr where
  -- Branch Link requests (R148, R179)
  | keyLoad (tag : Byte) (body : List Byte)
  | keyDrop (tag : Byte) (body : List Byte)
  | bookingLoad (tag : Byte) (body : List Byte)
  | bookingAmend (tag : Byte) (body : List Byte)
  | bookingCancel (tag : Byte) (body : List Byte)
  | bookingRetire (tag : Byte) (body : List Byte)
  | policySet (tag : Byte) (body : List Byte)
  | paramSet (tag : Byte) (body : List Byte)
  | timeSet (tag : Byte) (body : List Byte)
  | release (tag : Byte) (body : List Byte)
  | alertAck (tag : Byte) (body : List Byte)
  | alertMask (tag : Byte) (body : List Byte)
  | alertUnmask (tag : Byte) (body : List Byte)
  | slotClear (tag : Byte) (body : List Byte)
  | slotQuarantine (tag : Byte) (body : List Byte)
  | moduleRevive (tag : Byte) (body : List Byte)
  | binDiscard (tag : Byte) (body : List Byte)
  | serviceBegin (tag : Byte) (body : List Byte)
  | serviceEnd (tag : Byte) (body : List Byte)
  | restart (tag : Byte) (body : List Byte)
  | statusQuery (tag : Byte) (body : List Byte)
  | statusQueryUnits (tag : Byte) (body : List Byte)
  | slotQuery (tag : Byte) (body : List Byte)
  | bookingQuery (tag : Byte) (body : List Byte)
  | bookingQueryList (tag : Byte) (body : List Byte)
  | keyQuery (tag : Byte) (body : List Byte)
  | alertQuery (tag : Byte) (body : List Byte)
  | alertQuerySubject (tag : Byte) (body : List Byte)
  | heartbeat (tag : Byte) (body : List Byte)
  | unknownKind (kind tag : Byte) (body : List Byte)
  -- Kiosk Port frames (R160, R161)
  | codeEntry (tag : Byte) (body : List Byte)
  | kioskUnknownKind (kind tag : Byte) (body : List Byte)
  -- Reception and transmission on either port (R145 to R147, R151, R162)
  | frameCrcError (port : Port)
  | frameTimeout (port : Port) (clock : Nat)
  | frameFormatError (port : Port)
  | linkFrameSent
  | kioskFrameSent
  -- Start-up and the RESET line (R168, R169)
  | restartRequest (pins : Pins)
  | powerOn (pins : Pins) (resetLow : Bool)
  | resetAsserted
  | resetLine (pins : Pins)
  -- Supply and panel (R163 to R167, R171); SUPA is high, low and high in the first three
  | supplyChange (supb : Bool)
  | holdEntry (supb : Bool)
  | holdExit (supb : Bool)
  | panelChange (isOpen : Bool)
  -- Time (R115) and the expiries a boundary brings
  | oneSecondBoundary
  | deadlineExpiry
  | windowExpiry (channel : Fin 4)
  | recoveryRetry (unit : Byte)
  | unslottedLimitReached
  | maskExpiry
  | supervisionExpiry
  | serviceLimitExpiry
  -- Slot Bus (R23, R26)
  | probeReply (unit : Byte) (payload : List Byte)
  | pollReply (unit : Byte) (payload : List Byte)
  | statusReply (unit : Byte) (payload : List Byte)
  | latchOpenReply (unit : Byte) (payload : List Byte)
  | latchCloseReply (unit : Byte) (payload : List Byte)
  | lampsReply (unit : Byte) (payload : List Byte)
  | flapReply (unit : Byte) (payload : List Byte)
  | badReply
  | replyDeadline (clock : Nat)
  | frameStartMarker (port : Port) (clock : Nat)
  | commandLastByteSent (clock : Nat)
  deriving DecidableEq, Repr

end Sys2Proof
end

