-- ==== Sys2Proof/WellFormed.lean ====
section
/-! DEFINITION. Well-formed commands: what the wire and the part's own layout allow a command to be (R145, R148, R160, R177,
R181), and which of two rows of one request kind a body belongs to. A meaning holds for every term; these checks say
which terms stand for something that can come in from outside. -/

namespace Sys2Proof

/-- The body of a frame is 0 to 246 bytes (R177). -/
def okBody (body : List Byte) : Bool := decide (body.length ≤ Config.bodyMax)

/-- The payload of a Slot Bus frame is 0 to 119 bytes (R181). -/
def okPayload (payload : List Byte) : Bool := decide (payload.length ≤ Config.payloadMax)

/-- The request kinds are 0x01 to 0x1A (R177). -/
def isRequestKind (kind : Byte) : Bool := decide (1 ≤ kind.toNat ∧ kind.toNat ≤ 26)

/-- The row of a kind with two rows: the second one's bodies begin with a byte of 1. -/
def secondForm (body : List Byte) : Bool := body.head? == some 1

/-- A unit address is 1 to 24, or 31 (section 4.2). -/
def isUnitAddr (a : Byte) : Bool := decide ((1 ≤ a.toNat ∧ a.toNat ≤ 24) ∨ a.toNat = 31)

/-- The well-formedness of a command, constructor by constructor. -/
def Instr.wf : Instr → Bool
  | .keyLoad _ b => okBody b
  | .keyDrop _ b => okBody b
  | .bookingLoad _ b => okBody b
  | .bookingAmend _ b => okBody b
  | .bookingCancel _ b => okBody b
  | .bookingRetire _ b => okBody b
  | .policySet _ b => okBody b
  | .paramSet _ b => okBody b
  | .timeSet _ b => okBody b
  | .release _ b => okBody b
  | .alertAck _ b => okBody b
  | .alertMask _ b => okBody b
  | .alertUnmask _ b => okBody b
  | .slotClear _ b => okBody b
  | .slotQuarantine _ b => okBody b
  | .moduleRevive _ b => okBody b
  | .binDiscard _ b => okBody b
  | .serviceBegin _ b => okBody b
  | .serviceEnd _ b => okBody b
  | .restart _ b => okBody b
  | .statusQuery _ b => okBody b && !secondForm b
  | .statusQueryUnits _ b => okBody b && secondForm b
  | .slotQuery _ b => okBody b
  | .bookingQuery _ b => okBody b && !secondForm b
  | .bookingQueryList _ b => okBody b && secondForm b
  | .keyQuery _ b => okBody b
  | .alertQuery _ b => okBody b && !secondForm b
  | .alertQuerySubject _ b => okBody b && secondForm b
  | .heartbeat _ b => okBody b
  | .unknownKind k _ b => okBody b && !isRequestKind k
  | .codeEntry _ b => okBody b
  | .kioskUnknownKind k _ b => okBody b && k != 0x61
  | .frameCrcError _ => true
  | .frameTimeout _ _ => true
  | .frameFormatError _ => true
  | .linkFrameSent => true
  | .kioskFrameSent => true
  | .restartRequest _ => true
  | .powerOn _ _ => true
  | .resetAsserted => true
  | .resetLine _ => true
  | .supplyChange _ => true
  | .holdEntry _ => true
  | .holdExit _ => true
  | .panelChange _ => true
  | .oneSecondBoundary => true
  | .deadlineExpiry => true
  | .windowExpiry _ => true
  | .recoveryRetry u => isUnitAddr u
  | .unslottedLimitReached => true
  | .maskExpiry => true
  | .supervisionExpiry => true
  | .serviceLimitExpiry => true
  | .probeReply _ p => okPayload p
  | .pollReply _ p => okPayload p
  | .statusReply _ p => okPayload p
  | .latchOpenReply _ p => okPayload p
  | .latchCloseReply _ p => okPayload p
  | .lampsReply _ p => okPayload p
  | .flapReply _ p => okPayload p
  | .badReply => true
  | .replyDeadline _ => true
  | .frameStartMarker _ _ => true
  | .commandLastByteSent _ => true

end Sys2Proof
end

