-- ==== Sys2Proof/Decode.lean ====
section
/-! DEFINITION. From bits to commands. No row of spec/opcode_table.json gives bits, so decodeTableWord answers none on every
word. The rest reads whole frames as they stand on the wire: a Branch Link or kiosk frame (R145, R147, R177) and a Slot Bus
reply (R23, R181), and lays a command's frame out in bytes. -/

namespace Sys2Proof

/-- The command a word spells by the table's bits: none, since no row gives bits. -/
def decodeTableWord (_nbits _w : Nat) : Option Instr := none

/-- The command a valid Branch Link frame stands for, by its kind (R148, R177), and by the part or form byte where one kind
has two rows. -/
def linkInstr (kind tag : Byte) (body : List Byte) : Instr :=
  match kind.toNat with
  | 0x01 => .keyLoad tag body
  | 0x02 => .keyDrop tag body
  | 0x03 => .bookingLoad tag body
  | 0x04 => .bookingAmend tag body
  | 0x05 => .bookingCancel tag body
  | 0x06 => .bookingRetire tag body
  | 0x07 => .policySet tag body
  | 0x08 => .paramSet tag body
  | 0x09 => .timeSet tag body
  | 0x0A => .release tag body
  | 0x0B => .alertAck tag body
  | 0x0C => .alertMask tag body
  | 0x0D => .alertUnmask tag body
  | 0x0E => .slotClear tag body
  | 0x0F => .slotQuarantine tag body
  | 0x10 => .moduleRevive tag body
  | 0x11 => .binDiscard tag body
  | 0x12 => .serviceBegin tag body
  | 0x13 => .serviceEnd tag body
  | 0x14 => .restart tag body
  | 0x15 => if secondForm body then .statusQueryUnits tag body else .statusQuery tag body
  | 0x16 => .slotQuery tag body
  | 0x17 => if secondForm body then .bookingQueryList tag body else .bookingQuery tag body
  | 0x18 => .keyQuery tag body
  | 0x19 => if secondForm body then .alertQuerySubject tag body else .alertQuery tag body
  | 0x1A => .heartbeat tag body
  | _ => .unknownKind kind tag body

/-- The command a valid kiosk frame stands for (R160). -/
def kioskInstr (kind tag : Byte) (body : List Byte) : Instr :=
  if kind = 0x61 then .codeEntry tag body else .kioskUnknownKind kind tag body

/-- What a receiver makes of a frame from its marker on: nothing while it is not completed; a bad length ends it (R147); the
CRC is checked over the length byte through the last body byte (R145). -/
def readFrame (port : Port) (bytes : List Byte) : Option Instr :=
  match bytes with
  | 0xA5 :: len :: rest =>
    if len.toNat < 2 ∨ Config.bodyMax + 2 < len.toNat then some (.frameFormatError port)
    else if rest.length ≠ len.toNat + 2 then none
    else if Machine.beNat (rest.drop len.toNat) ≠ (Machine.crc16 (len :: rest.take len.toNat)).toNat then
      some (.frameCrcError port)
    else
      match rest.take len.toNat with
      | kind :: tag :: body =>
        some (match port with
          | .branch => linkInstr kind tag body
          | .kiosk => kioskInstr kind tag body)
      | _ => none
  | _ => none

/-- The port, kind, tag and body of the frame a command comes in as, for the rows that are frames. -/
def Instr.frame : Instr → Option (Port × Byte × Byte × List Byte)
  | .keyLoad t b => some (.branch, 0x01, t, b)
  | .keyDrop t b => some (.branch, 0x02, t, b)
  | .bookingLoad t b => some (.branch, 0x03, t, b)
  | .bookingAmend t b => some (.branch, 0x04, t, b)
  | .bookingCancel t b => some (.branch, 0x05, t, b)
  | .bookingRetire t b => some (.branch, 0x06, t, b)
  | .policySet t b => some (.branch, 0x07, t, b)
  | .paramSet t b => some (.branch, 0x08, t, b)
  | .timeSet t b => some (.branch, 0x09, t, b)
  | .release t b => some (.branch, 0x0A, t, b)
  | .alertAck t b => some (.branch, 0x0B, t, b)
  | .alertMask t b => some (.branch, 0x0C, t, b)
  | .alertUnmask t b => some (.branch, 0x0D, t, b)
  | .slotClear t b => some (.branch, 0x0E, t, b)
  | .slotQuarantine t b => some (.branch, 0x0F, t, b)
  | .moduleRevive t b => some (.branch, 0x10, t, b)
  | .binDiscard t b => some (.branch, 0x11, t, b)
  | .serviceBegin t b => some (.branch, 0x12, t, b)
  | .serviceEnd t b => some (.branch, 0x13, t, b)
  | .restart t b => some (.branch, 0x14, t, b)
  | .statusQuery t b => some (.branch, 0x15, t, b)
  | .statusQueryUnits t b => some (.branch, 0x15, t, b)
  | .slotQuery t b => some (.branch, 0x16, t, b)
  | .bookingQuery t b => some (.branch, 0x17, t, b)
  | .bookingQueryList t b => some (.branch, 0x17, t, b)
  | .keyQuery t b => some (.branch, 0x18, t, b)
  | .alertQuery t b => some (.branch, 0x19, t, b)
  | .alertQuerySubject t b => some (.branch, 0x19, t, b)
  | .heartbeat t b => some (.branch, 0x1A, t, b)
  | .unknownKind k t b => some (.branch, k, t, b)
  | .codeEntry t b => some (.kiosk, 0x61, t, b)
  | .kioskUnknownKind k t b => some (.kiosk, k, t, b)
  | _ => none

/-- The command a Slot Bus frame stands for while a command is in flight (R23, R181): `closing` says that a LATCH CLOSE is
in flight. A frame with a bad length or CRC, or of no reply kind, is BAD_REPLY. -/
def readBusFrame (closing : Bool) (bytes : List Byte) : Option Instr :=
  match bytes with
  | 0x5A :: addr :: len :: rest =>
    if len.toNat < 1 ∨ Config.payloadMax + 1 < len.toNat then some .badReply
    else if rest.length ≠ len.toNat + 2 then none
    else if Machine.beNat (rest.drop len.toNat) ≠ (Machine.crc16 (addr :: len :: rest.take len.toNat)).toNat then
      some .badReply
    else
      match rest.take len.toNat with
      | code :: payload =>
        some (match code.toNat with
          | 0x81 => .probeReply addr payload
          | 0x82 => .pollReply addr payload
          | 0x83 => .statusReply addr payload
          | 0x84 => if closing then .latchCloseReply addr payload else .latchOpenReply addr payload
          | 0x85 => .lampsReply addr payload
          | 0x86 => .flapReply addr payload
          | _ => .badReply)
      | _ => none
  | _ => none

end Sys2Proof
end

