-- ==== Sys2Proof/Machine/Names.lean ====
section
/-! DEFINITION. The named values of the data sheet (section 4.7) and the number each takes on the wire: "its
value is the place of the value in the list where this manual first gives the field, counting from 0" (R178). -/

namespace Sys2Proof.Machine

/-- Supply level (R163). -/
inductive SupplyLevel where
  | good | low | lost
  deriving DecidableEq, Repr

/-- Cause of a start-up (R168). -/
inductive StartCause where
  | powerOn | resetLine | restartRequest
  deriving DecidableEq, Repr

/-- Branch Link rate (00_scope.md section 7). -/
inductive LinkRate where
  | baud57600 | baud115200 | baud230400
  deriving DecidableEq, Repr

/-- Occupancy of a slot (R7). -/
inductive Occupancy where
  | empty | held | heldNoTag | unknown
  deriving DecidableEq, Repr

/-- Service state of a slot (R43). -/
inductive Service where
  | inService | quarantinePending | quarantined
  deriving DecidableEq, Repr

/-- Kinds of SLOT_FAULT report (R54). The first four but SLOW_LATCH, and MANUAL, can be in a fault set (R6). -/
inductive FaultKind where
  | coilOpen | coilShort | latchJammed | slowLatch | sensorChatter | manual
  deriving DecidableEq, Repr

/-- Locator lamp pattern (section 3.5). -/
inductive Lamp where
  | off | steady | slow | fast
  deriving DecidableEq, Repr

/-- State of a Slot Bus unit (R34). -/
inductive UnitState where
  | absent | probing | online | recovery | retired | dark
  deriving DecidableEq, Repr

/-- Why a unit is being probed (R33). -/
inductive ProbeCause where
  | start | reviveAbsent | reviveRetired | retry | holdEnd
  deriving DecidableEq, Repr

/-- Flap position (R42). -/
inductive FlapPos where
  | locked | unlocked
  deriving DecidableEq, Repr

/-- Direction of a LATCH command (R24). -/
inductive LatchDir where
  | openIt | closeIt
  deriving DecidableEq, Repr

/-- Coil class of a LATCH reply (R24). -/
inductive CoilClass where
  | normal | openCoil | shortCoil
  deriving DecidableEq, Repr

/-- Kind of a booking (R58). -/
inductive BookingKind where
  | rental | service
  deriving DecidableEq, Repr

/-- State of a booking (R60). -/
inductive BookingState where
  | loaded | releasing | out | returned | cancelled
  deriving DecidableEq, Repr

/-- Source of a release (R58). -/
inductive Source where
  | counter | kiosk
  deriving DecidableEq, Repr

/-- Watch stage (R119). -/
inductive Stage where
  | onTime | due | overdue | escalated
  deriving DecidableEq, Repr

/-- Why a latch channel is CLOSING (R81). -/
inductive CloseReason where
  | taken | expired | withdrawn
  deriving DecidableEq, Repr

/-- Phase named by a release report (R97). -/
inductive ReleasePhase where
  | queued | opening | opened
  deriving DecidableEq, Repr

/-- Cause of RELEASE_ABORTED (R97). -/
inductive AbortCause where
  | grantCheck | quarantine | moduleOffline | custody | hold | latchFault | keyGone
  deriving DecidableEq, Repr

/-- State of a Drop Bin List entry (R99). -/
inductive BinState where
  | inBin | inHand
  deriving DecidableEq, Repr

/-- Branch Link state (R154). -/
inductive LinkState where
  | awaiting | connected | standalone
  deriving DecidableEq, Repr

/-- Reason of a SERVICE_STATE report (R176). -/
inductive SessionReason where
  | begun | ended | limit | hold
  deriving DecidableEq, Repr

/-- Event of a KIOSK_NOTICE (R98). -/
inductive NoticeEvent where
  | opened (slot : Fin 384) | taken | untaken | aborted
  deriving DecidableEq, Repr

/-- Reason of ALERT_CLEARED (R142). -/
inductive ClearReason where
  | replaced | withdrawn | acknowledged
  deriving DecidableEq, Repr

/-- The sixteen alert classes (R131). -/
inductive AlertClass where
  | due | overdue | escalated | untaken | foreignKey | duplicateTag | keyMissing | slotFault | moduleLost
  | chuteNearFull | chuteLocked | unslottedKey | panelOpen | serviceOverrun | linkLost | supply
  deriving DecidableEq, Repr

/-- The six cabinet conditions (R131). -/
inductive Condition where
  | chuteNearFull | chuteLocked | panelOpen | serviceOverrun | linkLost | supply
  deriving DecidableEq, Repr

/-- Result codes (R177). -/
inductive Result where
  | ok | accepted | unknownKind | badField | tableFull | duplicate | notFound | keyInUse | homeTaken | timeUnset
  | wrongState | keyNotInCabinet | keyInCustody | slotQuarantined | supplyHold | slotOffline | queueFull
  | outsideWindow | codeWrong | kioskLocked | kioskNotAllowed | serviceActive
  deriving DecidableEq, Repr

/-- Slot number, 0 to 383 (section 4.2). -/
abbrev SlotNo := Fin 384
/-- Slot module by address less 1 (section 4.2). -/
abbrev ModIx := Fin 24
/-- Slot Bus unit: 0 to 23 the slot modules at addresses 1 to 24, 24 the chute unit at address 31. -/
abbrev UnitIx := Fin 25
/-- Latch channel (R81). -/
abbrev ChanNo := Fin 4

/-- What an alert is about (R131). -/
inductive Subject where
  | cabinet (c : Condition)
  | module (u : UnitIx)
  | slot (n : SlotNo)
  | key (tag : Nat)
  | booking (number : Nat)
  | bin (drop : Nat)
  deriving DecidableEq, Repr

/-! ### Numbers on the wire (R178) -/

def SupplyLevel.code : SupplyLevel → Nat
  | .good => 0 | .low => 1 | .lost => 2

def StartCause.code : StartCause → Nat
  | .powerOn => 0 | .resetLine => 1 | .restartRequest => 2

def LinkRate.code : LinkRate → Nat
  | .baud57600 => 0 | .baud115200 => 1 | .baud230400 => 2

def Occupancy.code : Occupancy → Nat
  | .empty => 0 | .held => 1 | .heldNoTag => 2 | .unknown => 3

def Service.code : Service → Nat
  | .inService => 0 | .quarantinePending => 1 | .quarantined => 2

def FaultKind.code : FaultKind → Nat
  | .coilOpen => 0 | .coilShort => 1 | .latchJammed => 2 | .slowLatch => 3 | .sensorChatter => 4 | .manual => 5

def Lamp.code : Lamp → Nat
  | .off => 0 | .steady => 1 | .slow => 2 | .fast => 3

def UnitState.code : UnitState → Nat
  | .absent => 0 | .probing => 1 | .online => 2 | .recovery => 3 | .retired => 4 | .dark => 5

def FlapPos.code : FlapPos → Nat
  | .locked => 0 | .unlocked => 1

def LatchDir.code : LatchDir → Nat
  | .openIt => 0 | .closeIt => 1

def CoilClass.code : CoilClass → Nat
  | .normal => 0 | .openCoil => 1 | .shortCoil => 2

def BookingKind.code : BookingKind → Nat
  | .rental => 0 | .service => 1

def BookingState.code : BookingState → Nat
  | .loaded => 0 | .releasing => 1 | .out => 2 | .returned => 3 | .cancelled => 4

def Source.code : Source → Nat
  | .counter => 0 | .kiosk => 1

def Stage.code : Stage → Nat
  | .onTime => 0 | .due => 1 | .overdue => 2 | .escalated => 3

def ReleasePhase.code : ReleasePhase → Nat
  | .queued => 0 | .opening => 1 | .opened => 2

def AbortCause.code : AbortCause → Nat
  | .grantCheck => 0 | .quarantine => 1 | .moduleOffline => 2 | .custody => 3 | .hold => 4 | .latchFault => 5
  | .keyGone => 6

def BinState.code : BinState → Nat
  | .inBin => 0 | .inHand => 1

def LinkState.code : LinkState → Nat
  | .awaiting => 0 | .connected => 1 | .standalone => 2

def SessionReason.code : SessionReason → Nat
  | .begun => 0 | .ended => 1 | .limit => 2 | .hold => 3

def NoticeEvent.code : NoticeEvent → Nat
  | .opened _ => 0 | .taken => 1 | .untaken => 2 | .aborted => 3

def ClearReason.code : ClearReason → Nat
  | .replaced => 0 | .withdrawn => 1 | .acknowledged => 2

/-- The code table of R177. No result carries 0x0F. -/
def Result.code : Result → Nat
  | .ok => 0x00 | .accepted => 0x01 | .unknownKind => 0x02 | .badField => 0x03 | .tableFull => 0x04
  | .duplicate => 0x05 | .notFound => 0x06 | .keyInUse => 0x07 | .homeTaken => 0x08 | .timeUnset => 0x09
  | .wrongState => 0x0A | .keyNotInCabinet => 0x0B | .keyInCustody => 0x0C | .slotQuarantined => 0x0D
  | .supplyHold => 0x0E | .slotOffline => 0x10 | .queueFull => 0x11 | .outsideWindow => 0x12 | .codeWrong => 0x13
  | .kioskLocked => 0x14 | .kioskNotAllowed => 0x15 | .serviceActive => 0x16

/-- Alert classes are carried by their numbers 1 to 16 (R131, R178). -/
def AlertClass.number : AlertClass → Nat
  | .due => 1 | .overdue => 2 | .escalated => 3 | .untaken => 4 | .foreignKey => 5 | .duplicateTag => 6
  | .keyMissing => 7 | .slotFault => 8 | .moduleLost => 9 | .chuteNearFull => 10 | .chuteLocked => 11
  | .unslottedKey => 12 | .panelOpen => 13 | .serviceOverrun => 14 | .linkLost => 15 | .supply => 16

/-- The class with a number, for POLICY_SET (R133). -/
def AlertClass.ofNumber : Nat → Option AlertClass
  | 1 => some .due | 2 => some .overdue | 3 => some .escalated | 4 => some .untaken | 5 => some .foreignKey
  | 6 => some .duplicateTag | 7 => some .keyMissing | 8 => some .slotFault | 9 => some .moduleLost
  | 10 => some .chuteNearFull | 11 => some .chuteLocked | 12 => some .unslottedKey | 13 => some .panelOpen
  | 14 => some .serviceOverrun | 15 => some .linkLost | 16 => some .supply
  | _ => none

/-- Place of a class in the Policy Table. -/
def AlertClass.ix : AlertClass → Fin 16
  | .due => 0 | .overdue => 1 | .escalated => 2 | .untaken => 3 | .foreignKey => 4 | .duplicateTag => 5
  | .keyMissing => 6 | .slotFault => 7 | .moduleLost => 8 | .chuteNearFull => 9 | .chuteLocked => 10
  | .unslottedKey => 11 | .panelOpen => 12 | .serviceOverrun => 13 | .linkLost => 14 | .supply => 15

/-- Place of a condition record. -/
def Condition.ix : Condition → Fin 6
  | .chuteNearFull => 0 | .chuteLocked => 1 | .panelOpen => 2 | .serviceOverrun => 3 | .linkLost => 4 | .supply => 5

/-- A cabinet subject carries "its own class only" (R131). -/
def Condition.cls : Condition → AlertClass
  | .chuteNearFull => .chuteNearFull | .chuteLocked => .chuteLocked | .panelOpen => .panelOpen
  | .serviceOverrun => .serviceOverrun | .linkLost => .linkLost | .supply => .supply

/-- The condition whose class has a number: 10, 11, 13, 14, 15 or 16 (R131, R138). -/
def Condition.ofNumber : Nat → Option Condition
  | 10 => some .chuteNearFull | 11 => some .chuteLocked | 13 => some .panelOpen | 14 => some .serviceOverrun
  | 15 => some .linkLost | 16 => some .supply
  | _ => none

/-- The six conditions in ascending class number. -/
def Condition.all : List Condition :=
  [.chuteNearFull, .chuteLocked, .panelOpen, .serviceOverrun, .linkLost, .supply]

/-- The chute unit's place among the 25 units. -/
def chuteIx : UnitIx := 24

/-- Slot Bus address of a unit (section 4.2). -/
def unitAddr (u : UnitIx) : Nat := if u = chuteIx then 31 else u.val + 1

/-- The unit at a Slot Bus address, if it is 1 to 24 or 31 (R39, check 1). -/
def unitAt (a : Nat) : Option UnitIx :=
  if a = 31 then some chuteIx
  else if h : 1 ≤ a ∧ a ≤ 24 then some ⟨a - 1, by omega⟩
  else none

/-- A slot module among the 25 units. -/
def modUnit (m : ModIx) : UnitIx := ⟨m.val, by omega⟩

/-- The slot module of a unit, none for the chute unit. -/
def unitMod (u : UnitIx) : Option ModIx := if h : u.val < 24 then some ⟨u.val, h⟩ else none

/-- The module that carries a slot (section 4.2). -/
def moduleOf (n : SlotNo) : ModIx := ⟨n.val / 16, by omega⟩

/-- The position of a slot on its module (section 4.2). -/
def positionOf (n : SlotNo) : Fin 16 := ⟨n.val % 16, by omega⟩

/-- "The slot number is 16 × (address − 1) + position" (section 4.2). -/
def slotAt (m : ModIx) (p : Fin 16) : SlotNo := ⟨16 * m.val + p.val, by omega⟩

/-- Subject kinds run cabinet 0 to bin entry 5 (R131, R178). -/
def Subject.kind : Subject → Nat
  | .cabinet _ => 0 | .module _ => 1 | .slot _ => 2 | .key _ => 3 | .booking _ => 4 | .bin _ => 5

/-- Subject ids (R131). -/
def Subject.id : Subject → Nat
  | .cabinet c => c.cls.number
  | .module u => unitAddr u
  | .slot n => n.val
  | .key t => t
  | .booking b => b
  | .bin d => d

/-- The subject a kind and an id name: check 1 of R138, none where the refusal is BAD_FIELD. Check 1 names no
range for a bin entry, so that one above 65,535 goes on to check 2 (log 30). -/
def Subject.ofWire (kind id : Nat) : Option Subject :=
  match kind with
  | 0 => (Condition.ofNumber id).map .cabinet
  | 1 => (unitAt id).map .module
  | 2 => if h : id < 384 then some (.slot ⟨id, h⟩) else none
  | 3 => if id = 0 then none else some (.key id)
  | 4 => if id = 0 then none else some (.booking id)
  | 5 => some (.bin id)
  | _ => none

/-- A counter reported by STATUS_QUERY rises by 1 and stops at 65,535 (section 4.5, R159). -/
def bump (n : Nat) : Nat := if n < Config.maxCount then n + 1 else n

/-- A deadline reckoned by addition is held at the top of the count (R116). -/
def addTime (t d : Nat) : Nat := min (t + d) Config.maxTime

/-- The slots of a module in ascending position. -/
def positions : List (Fin 16) := [0, 1, 2, 3, 4, 5, 6, 7, 8, 9, 10, 11, 12, 13, 14, 15]

/-- The slot modules in ascending address, and all units with the chute unit last. -/
def modules : List ModIx :=
  [0, 1, 2, 3, 4, 5, 6, 7, 8, 9, 10, 11, 12, 13, 14, 15, 16, 17, 18, 19, 20, 21, 22, 23]
def allUnits : List UnitIx := modules.map modUnit ++ [chuteIx]

/-- All slots in ascending number. -/
def allSlots : List SlotNo := modules.flatMap fun m => positions.map fun p => slotAt m p

/-- The latch channels in ascending number. -/
def allChannels : List ChanNo := [0, 1, 2, 3]

end Sys2Proof.Machine
end

