-- ==== Sys2Proof/Machine/Operands.lean ====
section
/-! DEFINITION. What the commands carry: the request bodies of R179 and the Slot Bus payloads of R181, each as
a structure, a reader from bytes and a writer to bytes. A reader answers none exactly where the layout is
broken: a request is then answered BAD_FIELD in step 3 of R148, a reply is then a bad reply by R23. Checks on
values belong to the owners (R178) and are not made here. -/

namespace Sys2Proof.Machine

/-! ### Request bodies (R179) -/

/-- KEY_LOAD: tag (4), unit (2), presence (bit 0 home), home (2) if present. -/
structure KeyLoadReq where
  tag  : Nat
  unit : Nat
  home : Option Nat
  deriving DecidableEq, Repr

def readKeyLoad (bs : List Byte) : Option KeyLoadReq := do
  let (tag, bs) ← readNat 4 bs
  let (unit, bs) ← readNat 2 bs
  let (p, bs) ← readNat 1 bs
  if 2 ≤ p then none
  else do
    let home ← whole (readOpt (p.testBit 0) 2 bs)
    some { tag, unit, home }

def KeyLoadReq.bytes (r : KeyLoadReq) : List Byte :=
  beBytes 4 r.tag ++ beBytes 2 r.unit ++ beBytes 1 (packFlags [r.home.isSome]) ++ optBytes 2 r.home

/-- BOOKING_LOAD: number, kind, key, presence (bit 1 code, bit 0 window), due, grace, escalation, code, window. -/
structure BookingLoadReq where
  number     : Nat
  kind       : Nat
  key        : Nat
  due        : Nat
  grace      : Nat
  escalation : Nat
  code       : Option Nat
  window     : Option (Nat × Nat)
  deriving DecidableEq, Repr

def readBookingLoad (bs : List Byte) : Option BookingLoadReq := do
  let (number, bs) ← readNat 4 bs
  let (kind, bs) ← readNat 1 bs
  let (key, bs) ← readNat 4 bs
  let (p, bs) ← readNat 1 bs
  let (due, bs) ← readNat 4 bs
  let (grace, bs) ← readNat 1 bs
  let (escalation, bs) ← readNat 2 bs
  if 4 ≤ p then none
  else do
    let (code, bs) ← readOpt (p.testBit 1) 3 bs
    let window ← whole (readWindow (p.testBit 0) bs)
    some { number, kind, key, due, grace, escalation, code, window }

def windowBytes (w : Option (Nat × Nat)) : List Byte :=
  match w with
  | some (a, b) => beBytes 4 a ++ beBytes 4 b
  | none => []

def BookingLoadReq.bytes (r : BookingLoadReq) : List Byte :=
  beBytes 4 r.number ++ beBytes 1 r.kind ++ beBytes 4 r.key
    ++ beBytes 1 (packFlags [r.window.isSome, r.code.isSome])
    ++ beBytes 4 r.due ++ beBytes 1 r.grace ++ beBytes 2 r.escalation
    ++ optBytes 3 r.code ++ windowBytes r.window

/-- BOOKING_AMEND: number, change flags (bit 4 code, bit 3 window, bit 2 due, bit 1 grace, bit 0 escalation), then
each flagged field. A flagged code or window is a new value or "none". -/
structure BookingAmendReq where
  number     : Nat
  due        : Option Nat
  grace      : Option Nat
  escalation : Option Nat
  code       : Option (Option Nat)
  window     : Option (Option (Nat × Nat))
  deriving DecidableEq, Repr

/-- A flagged code begins with one byte: 1 for a new value, which follows, 0 for none (R179). -/
def readAmendCode (flagged : Bool) (bs : List Byte) : Option (Option (Option Nat) × List Byte) :=
  if flagged then do
    let (m, bs) ← readNat 1 bs
    if 2 ≤ m then none else (readOpt (m == 1) 3 bs).map fun r => (some r.1, r.2)
  else some (none, bs)

def readAmendWindow (flagged : Bool) (bs : List Byte) :
    Option (Option (Option (Nat × Nat)) × List Byte) :=
  if flagged then do
    let (m, bs) ← readNat 1 bs
    if 2 ≤ m then none else (readWindow (m == 1) bs).map fun r => (some r.1, r.2)
  else some (none, bs)

def readBookingAmend (bs : List Byte) : Option BookingAmendReq := do
  let (number, bs) ← readNat 4 bs
  let (p, bs) ← readNat 1 bs
  if 32 ≤ p then none
  else do
    let (due, bs) ← readOpt (p.testBit 2) 4 bs
    let (grace, bs) ← readOpt (p.testBit 1) 1 bs
    let (escalation, bs) ← readOpt (p.testBit 0) 2 bs
    let (code, bs) ← readAmendCode (p.testBit 4) bs
    let window ← whole (readAmendWindow (p.testBit 3) bs)
    some { number, due, grace, escalation, code, window }

def amendCodeBytes (c : Option (Option Nat)) : List Byte :=
  match c with
  | some v => beBytes 1 v.isSome.toNat ++ optBytes 3 v
  | none => []

def amendWindowBytes (w : Option (Option (Nat × Nat))) : List Byte :=
  match w with
  | some v => beBytes 1 v.isSome.toNat ++ windowBytes v
  | none => []

def BookingAmendReq.bytes (r : BookingAmendReq) : List Byte :=
  beBytes 4 r.number
    ++ beBytes 1 (packFlags [r.escalation.isSome, r.grace.isSome, r.due.isSome, r.window.isSome, r.code.isSome])
    ++ optBytes 4 r.due ++ optBytes 1 r.grace ++ optBytes 2 r.escalation
    ++ amendCodeBytes r.code ++ amendWindowBytes r.window

/-- POLICY_SET: class (1), priority (1), lines (1), enabled (1). -/
structure PolicySetReq where
  cls      : Nat
  priority : Nat
  lines    : Nat
  enabled  : Nat
  deriving DecidableEq, Repr

def readPolicySet (bs : List Byte) : Option PolicySetReq := do
  let (cls, bs) ← readNat 1 bs
  let (priority, bs) ← readNat 1 bs
  let (lines, bs) ← readNat 1 bs
  let enabled ← whole (readNat 1 bs)
  some { cls, priority, lines, enabled }

def PolicySetReq.bytes (r : PolicySetReq) : List Byte :=
  beBytes 1 r.cls ++ beBytes 1 r.priority ++ beBytes 1 r.lines ++ beBytes 1 r.enabled

/-- Two numbers of given sizes and nothing else: PARAM_SET (1, 2), ALERT_ACK (1, 4), SLOT_QUERY (2, 1),
CODE_ENTRY (4, 3). -/
structure PairReq where
  first  : Nat
  second : Nat
  deriving DecidableEq, Repr

def readPair (j k : Nat) (bs : List Byte) : Option PairReq := do
  let (first, bs) ← readNat j bs
  let second ← whole (readNat k bs)
  some { first, second }

def PairReq.bytes (j k : Nat) (r : PairReq) : List Byte := beBytes j r.first ++ beBytes k r.second

/-- One number of `k` bytes and nothing else: KEY_DROP, KEY_QUERY, BOOKING_CANCEL, BOOKING_RETIRE, RELEASE,
TIME_SET (4), SLOT_CLEAR, SLOT_QUARANTINE, BIN_DISCARD (2), ALERT_MASK, MODULE_REVIVE, STATUS_QUERY (1). -/
def readOne (k : Nat) (bs : List Byte) : Option Nat := whole (readNat k bs)

/-- An empty body: ALERT_UNMASK, SERVICE_BEGIN, SERVICE_END, RESTART, HEARTBEAT. -/
def readNone (bs : List Byte) : Option Unit := if bs.isEmpty then some () else none

/-- BOOKING_QUERY: form (1: 0 single, 1 list), number (4). -/
inductive BookingQueryReq where
  | single (number : Nat)
  | list (start : Nat)
  deriving DecidableEq, Repr

def readBookingQuery (bs : List Byte) : Option BookingQueryReq := do
  let (form, bs) ← readNat 1 bs
  match form with
  | 0 => (readOne 4 bs).map .single
  | 1 => (readOne 4 bs).map .list
  | _ => none

def BookingQueryReq.bytes : BookingQueryReq → List Byte
  | .single n => beBytes 1 0 ++ beBytes 4 n
  | .list n => beBytes 1 1 ++ beBytes 4 n

/-- ALERT_QUERY: form (1: 0 list, 1 subject); in the subject form, kind (1) and id (4) follow. -/
inductive AlertQueryReq where
  | list
  | subject (kind id : Nat)
  deriving DecidableEq, Repr

def readAlertQuery (bs : List Byte) : Option AlertQueryReq := do
  let (form, bs) ← readNat 1 bs
  match form with
  | 0 => (readNone bs).map fun _ => .list
  | 1 => (readPair 1 4 bs).map fun r => .subject r.first r.second
  | _ => none

def AlertQueryReq.bytes : AlertQueryReq → List Byte
  | .list => beBytes 1 0
  | .subject k i => beBytes 1 1 ++ beBytes 1 k ++ beBytes 4 i

/-! ### Slot Bus payloads (R181) -/

/-- Presence and tag of one slot in a full status (R24). -/
inductive SlotSeen where
  | empty
  | unread
  | tagged (tag : Nat)
  deriving DecidableEq, Repr

/-- The full status of one slot (R24): what is in it, and the latch state. -/
structure SlotStatus where
  seen      : SlotSeen
  latchOpen : Bool
  deriving DecidableEq, Repr

/-- What a STATUS reply, or a PROBE reply after its unit kind, carries. -/
inductive UnitStatus where
  | slots (status : List SlotStatus)
  | chute (flap : FlapPos) (hatchOpen : Bool)
  deriving DecidableEq, Repr

/-- A slot record of 5 bytes: bit 7 present, bit 6 tag read, bit 0 latch open; "The tag is 0 unless both bit 7
and bit 6 are set, and then it is not 0". Other bits of the status byte are passed over, and so is bit 6
where bit 7 is clear: with tag 0 the slot is empty (log 17). -/
def readSlotStatus (bs : List Byte) : Option (SlotStatus × List Byte) := do
  let (b, bs) ← readNat 1 bs
  let (tag, bs) ← readNat 4 bs
  if b.testBit 7 && b.testBit 6 then
    if tag = 0 then none else some ({ seen := .tagged tag, latchOpen := b.testBit 0 }, bs)
  else if tag ≠ 0 then none
  else some ({ seen := if b.testBit 7 then .unread else .empty, latchOpen := b.testBit 0 }, bs)

def SlotStatus.bytes (s : SlotStatus) : List Byte :=
  match s.seen with
  | .empty => beBytes 1 s.latchOpen.toNat ++ beBytes 4 0
  | .unread => beBytes 1 (128 + s.latchOpen.toNat) ++ beBytes 4 0
  | .tagged t => beBytes 1 (192 + s.latchOpen.toNat) ++ beBytes 4 t

/-- `k` records in a row. -/
def readMany {α : Type} (rd : List Byte → Option (α × List Byte)) : Nat → List Byte → Option (List α × List Byte)
  | 0, bs => some ([], bs)
  | k + 1, bs => do
    let (a, bs) ← rd bs
    let (as, bs) ← readMany rd k bs
    some (a :: as, bs)

/-- A byte of 0 or 1. -/
def readFlag (bs : List Byte) : Option (Bool × List Byte) := do
  let (b, bs) ← readNat 1 bs
  if 2 ≤ b then none else some (b == 1, bs)

/-- The STATUS reply of a slot module, or of the chute unit (flap 0 LOCKED, 1 UNLOCKED; hatch 0 OPEN, 1 CLOSED). -/
def readStatus (u : UnitIx) (bs : List Byte) : Option UnitStatus :=
  if u = chuteIx then do
    let (flap, bs) ← readFlag bs
    let hatch ← whole (readFlag bs)
    some (.chute (if flap then .unlocked else .locked) (!hatch))
  else (whole (readMany readSlotStatus 16 bs)).map .slots

def flapBytes (f : FlapPos) : List Byte := beBytes 1 f.code

def UnitStatus.bytes : UnitStatus → List Byte
  | .slots l => l.flatMap SlotStatus.bytes
  | .chute f h => flapBytes f ++ boolByte (!h)

/-- The PROBE reply: unit kind (0 slot module, 1 chute unit), then the STATUS payload. "A PROBE reply whose unit
kind does not match its address is taken as a bad reply" (R24). -/
def readProbe (u : UnitIx) (bs : List Byte) : Option UnitStatus := do
  let (kind, bs) ← readNat 1 bs
  if kind = (if u = chuteIx then 1 else 0) then readStatus u bs else none

def UnitStatus.probeBytes (s : UnitStatus) : List Byte :=
  match s with
  | .slots _ => beBytes 1 0 ++ s.bytes
  | .chute _ _ => beBytes 1 1 ++ s.bytes

/-- A presence change on a slot (R25). -/
inductive SlotChange where
  | inserted (tag : Nat)
  | insertedUnread
  | removed
  deriving DecidableEq, Repr

/-- One change entry of a slot module: position, change, latch state at the moment of the change (R25). -/
structure ModuleEntry where
  pos       : Fin 16
  change    : SlotChange
  latchOpen : Bool
  deriving DecidableEq, Repr

/-- One change entry of the chute unit (R25). -/
inductive ChuteEntry where
  | drop (tag : Nat)
  | dropUnread
  | hatchOpened
  | hatchClosed
  deriving DecidableEq, Repr

/-- A module's change entry of 5 bytes: position in bits 7 to 4, kind in bits 3 to 1, latch in bit 0, then the
tag, "present, and not 0, with kinds 1 and 4 only". -/
def readModuleEntry (bs : List Byte) : Option (ModuleEntry × List Byte) := do
  let (b, bs) ← readNat 1 bs
  let (tag, bs) ← readNat 4 bs
  let pos : Fin 16 := Fin.ofNat 16 (b / 16)
  let latchOpen := b.testBit 0
  match b / 2 % 8 with
  | 1 => if tag = 0 then none else some ({ pos, change := .inserted tag, latchOpen }, bs)
  | 2 => if tag = 0 then some ({ pos, change := .insertedUnread, latchOpen }, bs) else none
  | 3 => if tag = 0 then some ({ pos, change := .removed, latchOpen }, bs) else none
  | _ => none

def ModuleEntry.bytes (e : ModuleEntry) : List Byte :=
  let head (k : Nat) := beBytes 1 (16 * e.pos.val + 2 * k + e.latchOpen.toNat)
  match e.change with
  | .inserted t => head 1 ++ beBytes 4 t
  | .insertedUnread => head 2 ++ beBytes 4 0
  | .removed => head 3 ++ beBytes 4 0

/-- The chute unit's entries "carry position 0 and latch bit 0". -/
def readChuteEntry (bs : List Byte) : Option (ChuteEntry × List Byte) := do
  let (b, bs) ← readNat 1 bs
  let (tag, bs) ← readNat 4 bs
  match b with
  | 8 => if tag = 0 then none else some (.drop tag, bs)
  | 10 => if tag = 0 then some (.dropUnread, bs) else none
  | 12 => if tag = 0 then some (.hatchOpened, bs) else none
  | 14 => if tag = 0 then some (.hatchClosed, bs) else none
  | _ => none

def ChuteEntry.bytes : ChuteEntry → List Byte
  | .drop t => beBytes 1 8 ++ beBytes 4 t
  | .dropUnread => beBytes 1 10 ++ beBytes 4 0
  | .hatchOpened => beBytes 1 12 ++ beBytes 4 0
  | .hatchClosed => beBytes 1 14 ++ beBytes 4 0

/-- A POLL reply: the overflow flag and the change entries, oldest first (R24). -/
structure Poll (α : Type) where
  overflow : Bool
  entries  : List α
  deriving DecidableEq, Repr

/-- Bit 7 overflow, bits 4 to 0 count 0 to 16, then the entries. Bits 6 and 5 are passed over (log 17). -/
def readPoll {α : Type} (rd : List Byte → Option (α × List Byte)) (bs : List Byte) : Option (Poll α) := do
  let (b, bs) ← readNat 1 bs
  if Config.pollMax < b % 32 then none
  else do
    let entries ← whole (readMany rd (b % 32) bs)
    some { overflow := b.testBit 7, entries }

def Poll.bytes {α : Type} (wr : α → List Byte) (p : Poll α) : List Byte :=
  beBytes 1 (128 * p.overflow.toNat + p.entries.length) ++ p.entries.flatMap wr

/-- A LATCH reply: coil class and travel time, 255 meaning the latch did not move (R24). -/
structure LatchReply where
  coil   : CoilClass
  travel : Nat
  deriving DecidableEq, Repr

def readLatch (bs : List Byte) : Option LatchReply := do
  let (c, bs) ← readNat 1 bs
  let travel ← whole (readNat 1 bs)
  match c with
  | 0 => some { coil := .normal, travel }
  | 1 => some { coil := .openCoil, travel }
  | 2 => some { coil := .shortCoil, travel }
  | _ => none

def LatchReply.bytes (r : LatchReply) : List Byte := beBytes 1 r.coil.code ++ beBytes 1 r.travel

def readFlapReply (bs : List Byte) : Option FlapPos :=
  (whole (readFlag bs)).map fun b => if b then .unlocked else .locked

/-! ### A unit's change list (R25), kept by the unit itself -/

/-- A unit's change list: the entries it keeps, oldest first, and its overflow flag. -/
structure ChangeList (α : Type) where
  entries  : List α
  overflow : Bool
  deriving DecidableEq, Repr

/-- "empty after the unit's own power-up". -/
def ChangeList.powerUp {α : Type} : ChangeList α := { entries := [], overflow := false }

/-- A change joins the list; at 32 entries "the unit discards the oldest entry to make room and sets its overflow
flag". -/
def ChangeList.note {α : Type} (c : ChangeList α) (e : α) : ChangeList α :=
  if Config.changeCap ≤ c.entries.length then { entries := c.entries.drop 1 ++ [e], overflow := true }
  else { c with entries := c.entries ++ [e] }

/-- A POLL reply "carries the oldest entries, up to 16 of them, together with the overflow flag". -/
def ChangeList.reply {α : Type} (c : ChangeList α) : Poll α :=
  { overflow := c.overflow, entries := c.entries.take Config.pollMax }

/-- "The unit deletes the entries it has put in the reply and clears the flag as it sends the reply." -/
def ChangeList.afterReply {α : Type} (c : ChangeList α) : ChangeList α :=
  { entries := c.entries.drop Config.pollMax, overflow := false }

end Sys2Proof.Machine
end

