-- ==== Sys2Proof/Machine/State.lean ====
section
/-! DEFINITION. The state of the KC-384 as plain data, grouped by the blocks of 00_scope.md section 2.1, the
start-up values each chapter gives, and the machine right after reset. -/

namespace Sys2Proof.Machine

/-! ### Alerts (chapter 8) -/

/-- The alert fields of a subject (R131): class of its list record or waiting mark, waiting flag, acknowledged
class, and the raised time kept with a waiting mark. -/
structure AlertFields where
  cls     : Option AlertClass
  waiting : Bool
  acked   : Option AlertClass
  raised  : Option Nat
  deriving DecidableEq, Repr

def AlertFields.clear : AlertFields := { cls := none, waiting := false, acked := none, raised := none }

/-- A cabinet condition record (R131). -/
structure CondRec where
  active : Bool
  alert  : AlertFields
  deriving DecidableEq, Repr

/-- A set of alert lines, or the drive of the three lines. -/
structure LineSet where
  beacon : Bool
  buzzer : Bool
  attn   : Bool
  deriving DecidableEq, Repr

/-- One entry of the Policy Table (R132). -/
structure PolicyEntry where
  priority : Nat
  lines    : LineSet
  enabled  : Bool
  deriving DecidableEq, Repr

/-- One record of the Alert List (R134). -/
structure AlertRec where
  subject : Subject
  cls     : AlertClass
  raised  : Option Nat
  deriving DecidableEq, Repr

/-- The Alert List, the mask remaining (absent when the mask is off) and the drive of the lines (R134, R139,
R140). -/
structure AlertUnit where
  list  : List AlertRec
  mask  : Option Nat
  lines : LineSet
  deriving DecidableEq, Repr

/-! ### Tables (chapters 1, 3, 4, 6) -/

/-- A Key Directory entry (R1). -/
structure KeyEntry where
  tag     : Nat
  unit    : Nat
  home    : Option SlotNo
  missing : Bool
  alert   : AlertFields
  deriving DecidableEq, Repr

/-- A slot's fault set (R6). -/
structure FaultSet where
  coilOpen      : Bool
  coilShort     : Bool
  latchJammed   : Bool
  sensorChatter : Bool
  manual        : Bool
  deriving DecidableEq, Repr

def FaultSet.none : FaultSet :=
  { coilOpen := false, coilShort := false, latchJammed := false, sensorChatter := false, manual := false }

/-- A slot record (R6). -/
structure SlotRec where
  occ          : Occupancy
  tag          : Option Nat
  since        : Option Nat
  channel      : Option ChanNo
  queued       : Bool
  lastRelease  : Option Nat
  service      : Service
  faults       : FaultSet
  slow         : Nat
  chatter      : Nat
  chatterStart : Option Nat
  lamp         : Lamp
  alert        : AlertFields
  deriving DecidableEq, Repr

/-- The start-up values of R6. -/
def SlotRec.start : SlotRec :=
  { occ := .unknown, tag := none, since := none, channel := none, queued := false, lastRelease := none
    service := .inService, faults := .none, slow := 0, chatter := 0, chatterStart := none, lamp := .off
    alert := .clear }

/-- Where a key came back (R58). -/
inductive Place where
  | slot (n : SlotNo)
  | drop (d : Nat)
  deriving DecidableEq, Repr

/-- The returned field of a booking (R58). -/
structure Returned where
  time  : Option Nat
  place : Place
  deriving DecidableEq, Repr

/-- A booking record (R58). -/
structure Booking where
  number     : Nat
  kind       : BookingKind
  key        : Nat
  code       : Option Nat
  window     : Option (Nat × Nat)
  due        : Nat
  grace      : Nat
  escalation : Nat
  state      : BookingState
  source     : Option Source
  stage      : Option Stage
  taken      : Option Nat
  returned   : Option Returned
  lateness   : Option Nat
  failures   : Nat
  alert      : AlertFields
  deriving DecidableEq, Repr

/-- A Drop Bin List entry (R99). -/
structure DropEntry where
  number    : Nat
  tag       : Option Nat
  foreign   : Bool
  state     : BinState
  dropped   : Option Nat
  handed    : Option Nat
  age       : Nat
  unslotted : Bool
  booking   : Option Nat
  alert     : AlertFields
  deriving DecidableEq, Repr

/-- The Drop Bin List and the drop number count (R99, R100). -/
structure BinList where
  entries  : List DropEntry
  nextDrop : Nat
  deriving DecidableEq, Repr

/-- An entry of the Due List (R122). -/
structure DueEntry where
  deadline : Nat
  booking  : Nat
  deriving DecidableEq, Repr

/-! ### Release Unit (chapter 5) -/

/-- A Release Queue entry (R79). -/
structure QueueEntry where
  booking : Nat
  slot    : SlotNo
  source  : Source
  deriving DecidableEq, Repr

/-- A latch channel (R81): each field is there exactly in the phases that have it. -/
inductive Channel where
  | free
  | opening (slot : SlotNo) (booking : Nat)
  | opened (slot : SlotNo) (booking : Nat) (deadline : Nat)
  | closing (slot : SlotNo) (booking : Nat) (reason : CloseReason)
  deriving DecidableEq, Repr

/-- The Release Queue, the four latch channels and the latch budget (R79, R81, R82). -/
structure ReleaseUnit where
  queue    : List QueueEntry
  channels : Vector Channel 4
  budget   : Nat
  deriving DecidableEq, Repr

/-! ### Slot Bus Master (chapter 2) -/

/-- A unit record (R33). The LAMPS group of R30 is the flag `lampsWanted`. -/
structure UnitRec where
  state       : UnitState
  cause       : Option ProbeCause
  misses      : Nat
  attempts    : Nat
  retry       : Option Nat
  resync      : Bool
  quarantined : Nat
  retireMark  : Bool
  lampsWanted : Bool
  alert       : AlertFields
  deriving DecidableEq, Repr

/-- The start-up values of R33. -/
def UnitRec.start : UnitRec :=
  { state := .probing, cause := some .start, misses := 0, attempts := 0, retry := none, resync := false
    quarantined := 0, retireMark := false, lampsWanted := false, alert := .clear }

/-- A LATCH command of the pending set (R30): `tries` counts its missed sendings (R28), and a channel of none is
a stray close (R29). -/
structure LatchCmd where
  slot    : SlotNo
  dir     : LatchDir
  channel : Option ChanNo
  age     : Nat
  tries   : Nat
  deriving DecidableEq, Repr

/-- A command with what it carries (R24). -/
inductive BusCmd where
  | probe
  | poll
  | status
  | latch (c : LatchCmd)
  | lamps (patterns : List Lamp)
  | flap (pos : FlapPos)
  deriving DecidableEq, Repr

/-- Whether the command is still being transmitted, or its last byte has been sent at a reading of the part's own
clock (R23). -/
inductive FlightPhase where
  | transmitting
  | awaiting (since : Nat)
  deriving DecidableEq, Repr

/-- The transaction in flight (R23). `stale` says that the unit has since left the state R26 asks for. -/
structure Flight where
  unit  : UnitIx
  cmd   : BusCmd
  phase : FlightPhase
  stale : Bool
  deriving DecidableEq, Repr

/-- The LATCH group of the pending set in order of age, the age of the next LATCH command, the last-polled unit
and the transaction in flight (R30, R32, R23). -/
structure BusMaster where
  latches    : List LatchCmd
  nextAge    : Nat
  lastPolled : Option UnitIx
  flight     : Option Flight
  deriving DecidableEq, Repr

/-- The chute record (R42) and the flap refused mark of the Intake Unit (R108). -/
structure ChuteRec where
  wanted    : FlapPos
  confirmed : FlapPos
  hatchOpen : Bool
  refused   : Bool
  deriving DecidableEq, Repr

/-! ### Cabinet Mode Control (chapter 10) -/

/-- Supply level, start cause, strap results, panel state, and the START report's count and mark. -/
structure CabinetMode where
  level         : SupplyLevel
  cause         : StartCause
  rate          : LinkRate
  strapFault    : Bool
  panelOpen     : Bool
  startOnline   : Nat
  startReported : Bool
  deriving DecidableEq, Repr

/-- An entry of the Service Removal List (R173). -/
structure Removal where
  tag  : Option Nat
  slot : SlotNo
  time : Option Nat
  deriving DecidableEq, Repr

/-- The service session: active while its remaining is present (R172, R174), and the Service Removal List. -/
structure Session where
  remaining : Option Nat
  removals  : List Removal
  deriving DecidableEq, Repr

/-- The six parameters (R157). -/
structure Params where
  window      : Nat
  slowLatch   : Nat
  supervision : Nat
  unslotted   : Nat
  service     : Nat
  nearFull    : Nat
  deriving DecidableEq, Repr

/-- The defaults of R157. -/
def Params.start : Params :=
  { window := 20, slowLatch := 120, supervision := 30, unslotted := 30, service := 15, nearFull := 40 }

/-- RESET and what its release waits for (R168): `stopped` while RESET is asserted, `powerOnWaits` when the logic
supply came up meanwhile. -/
structure Power where
  stopped      : Bool
  powerOnWaits : Bool
  deriving DecidableEq, Repr

/-! ### What the part sends (chapters 9 and 11) -/

/-- What every release report carries besides time and phase fields (R97). -/
structure RelInfo where
  booking : Nat
  slot    : SlotNo
  key     : Option Nat
  deriving DecidableEq, Repr

/-- The RETURN report (R102). -/
structure ReturnInfo where
  booking   : Nat
  key       : Nat
  place     : Place
  unit      : Option Nat
  taken     : Option Nat
  due       : Nat
  returned  : Option Nat
  lateness  : Nat
  stage     : Option Stage
  source    : Option Source
  misplaced : Bool
  deriving DecidableEq, Repr

/-- The KEY_PLACED report (R103). -/
structure PlacedInfo where
  slot      : SlotNo
  tag       : Option Nat
  unit      : Option Nat
  home      : Bool
  misplaced : Bool
  foreign   : Bool
  duplicate : Bool
  deriving DecidableEq, Repr

/-- The CHUTE_DROP report (R104, R105). -/
structure DropInfo where
  drop        : Option Nat
  tag         : Option Nat
  booking     : Option Nat
  unread      : Bool
  conflict    : Bool
  foreign     : Bool
  notRecorded : Bool
  inBin       : Nat
  count       : Nat
  deriving DecidableEq, Repr

/-- The SLOT_FAULT report (R54): travel time and direction, and the booking, for kinds from a LATCH reply. -/
structure FaultInfo where
  slot    : SlotNo
  booking : Option Nat
  kind    : FaultKind
  service : Service
  slow    : Nat
  latch   : Option (Nat × LatchDir)
  deriving DecidableEq, Repr

/-- The common fields of the alert reports (R142). -/
structure AlertInfo where
  subject  : Subject
  cls      : AlertClass
  listLen  : Nat
  waitLen  : Nat
  deriving DecidableEq, Repr

/-- The twenty report kinds, in the order of their codes 0x41 to 0x54 (R177). -/
inductive ReportBody where
  | start (cause : StartCause) (rate : LinkRate) (kioskOn strapFault : Bool) (level : SupplyLevel) (online : Nat)
  | releaseGranted (r : RelInfo) (channel : ChanNo) (source : Option Source) (deadline travel : Nat)
  | releaseTaken (r : RelInfo) (channel : ChanNo) (source : Option Source) (taken : Option Nat)
  | releaseTakenLate (r : RelInfo) (source : Option Source) (taken : Option Nat) (reconciled : Bool)
  | releaseUntaken (r : RelInfo) (channel : ChanNo) (source : Option Source)
  | releaseAborted (r : RelInfo) (source : Option Source) (phase : ReleasePhase) (cause : AbortCause)
  | releaseWithdrawn (r : RelInfo) (source : Option Source) (phase : ReleasePhase)
  | returned (r : ReturnInfo)
  | keyPlaced (p : PlacedInfo)
  | keyRemovedForced (slot : SlotNo) (tag unit removed : Option Nat) (sessionEnd : Bool)
  | chuteDrop (d : DropInfo)
  | binEmptied (moved count : Nat) (drops : Option (Nat × Nat))
  | binReslotted (slot : SlotNo) (tag drop : Nat) (state : BinState) (dropped : Option Nat)
  | slotFault (f : FaultInfo)
  | moduleState (unit : UnitIx) (old new : UnitState) (attempts : Nat)
  | supplyState (old : Option SupplyLevel) (new : SupplyLevel) (hold : Bool) (budget used : Nat)
  | serviceState (reason : SessionReason) (limit left : Option Nat) (panelOpen : Bool)
  | alertRaised (a : AlertInfo) (priority : Nat) (raised : Option Nat) (waiting : Bool)
  | alertListed (a : AlertInfo) (priority : Nat) (raised : Option Nat)
  | alertCleared (a : AlertInfo) (reason : ClearReason) (waiting : Bool)
  deriving DecidableEq, Repr

/-- A report (R152): the cabinet time at which it was queued, its gap flag, its body. -/
structure Report where
  time : Option Nat
  gap  : Bool
  body : ReportBody
  deriving DecidableEq, Repr

/-- The place part of KEY_QUERY (R21). -/
inductive KeyPlace where
  | inSlot (slot : SlotNo) (misplaced : Bool)
  | lastSeen (slot : SlotNo)
  | inBin (drop : Nat)
  | inHand (drop age : Nat) (handed : Option Nat) (unslotted : Bool)
  | nowhere
  deriving DecidableEq, Repr

/-- The answer to KEY_QUERY (R21): Directory part, place part, custody part. -/
structure KeyAnswer where
  entry   : Option KeyEntry
  place   : KeyPlace
  custody : Option (Nat × BookingState)
  deriving DecidableEq, Repr

/-- One slot entry of SLOT_QUERY (R22): the record, its home key, its misplaced property and its channel. -/
structure SlotEntry where
  slot      : SlotRec
  homeKey   : Option Nat
  misplaced : Bool
  channel   : Channel
  deriving DecidableEq, Repr

/-- The release position of a RELEASING booking (R74). -/
inductive ReleasePos where
  | queued (place : Nat)
  | opening (channel : ChanNo)
  | opened (channel : ChanNo) (remaining : Nat)
  deriving DecidableEq, Repr

/-- The answer to BOOKING_QUERY in its single form (R74). The code itself is never sent. -/
structure BookingAnswer where
  booking   : Booking
  position  : Option ReleasePos
  remaining : Option Nat
  deriving DecidableEq, Repr

/-- A summary entry of BOOKING_QUERY in its list form (R75). -/
structure BookingSummary where
  number : Nat
  kind   : BookingKind
  key    : Nat
  state  : BookingState
  stage  : Option Stage
  deriving DecidableEq, Repr

/-- A waiting subject as the promotion order sees it (R137, R143). -/
structure Waiter where
  subject : Subject
  cls     : AlertClass
  raised  : Option Nat
  deriving DecidableEq, Repr

/-- The answer to ALERT_QUERY in its list form (R143); each listed record with its priority. -/
structure AlertListAnswer where
  mask      : Option Nat
  lines     : LineSet
  records   : List (AlertRec × Nat)
  waitCount : Nat
  waiters   : List Waiter
  deriving DecidableEq, Repr

/-- The answer to ALERT_QUERY in its subject form (R144). -/
structure AlertSubjectAnswer where
  cls       : Option AlertClass
  listed    : Option Nat
  waiting   : Option Nat
  raised    : Option Nat
  acked     : Option AlertClass
  active    : Option Bool
  deriving DecidableEq, Repr

/-- The link and kiosk counts of R159. -/
structure PortCounts where
  crc     : Nat
  timeout : Nat
  format  : Nat
  overrun : Nat
  dropped : Nat
  losses  : Nat
  deriving DecidableEq, Repr

def PortCounts.start : PortCounts :=
  { crc := 0, timeout := 0, format := 0, overrun := 0, dropped := 0, losses := 0 }

/-- The answer to STATUS_QUERY part 0 (R158), group by group. -/
structure StatusSummary where
  cause       : StartCause
  rate        : LinkRate
  kioskOn     : Bool
  strapFault  : Bool
  hold        : Bool
  level       : SupplyLevel
  panelOpen   : Bool
  session     : Option (Nat × Nat)
  time        : Option Nat
  dueCount    : Nat
  nextDue     : Option Nat
  outStages   : List Nat
  dirCount    : Nat
  bookings    : List Nat
  budget      : Nat
  used        : Nat
  queueLen    : Nat
  channels    : List Channel
  online      : Nat
  inBin       : Nat
  binCount    : Nat
  nextDrop    : Nat
  wanted      : FlapPos
  nearFull    : Bool
  chuteLocked : Bool
  listLen     : Nat
  waitLen     : Nat
  mask        : Option Nat
  lines       : LineSet
  link        : LinkState
  supervision : Option Nat
  reports     : Nat
  answers     : Nat
  linkCounts  : PortCounts
  answerHeld  : Bool
  notices     : Nat
  kioskCounts : PortCounts
  params      : Params
  deriving DecidableEq, Repr

/-- One record of STATUS_QUERY part 1 (R158, R33); the chute fields for the chute unit. -/
structure UnitEntry where
  state       : UnitState
  misses      : Nat
  attempts    : Nat
  retry       : Option Nat
  resync      : Bool
  quarantined : Option Nat
  chute       : Option (FlapPos × FlapPos × Bool)
  deriving DecidableEq, Repr

/-- The fields an answer carries behind its result code (R150, R179). -/
inductive AnswerFields where
  | nothing
  | accepted (slot : SlotNo) (place : Nat)
  | retired (count : Nat)
  | oldParam (value : Nat)
  | oldTime (old : Option Nat) (advanced : Nat)
  | ackedClass (c : AlertClass)
  | limit (seconds : Nat)
  | left (count : Nat)
  | heartbeat (link : LinkState) (time : Option Nat) (reports dropped : Nat)
  | kindByte (kind : Byte)
  | key (k : KeyAnswer)
  | slots (entries : List SlotEntry) (more : Bool)
  | booking (b : BookingAnswer)
  | bookings (entries : List BookingSummary) (more : Bool)
  | alerts (a : AlertListAnswer)
  | subject (a : AlertSubjectAnswer)
  | status (s : StatusSummary)
  | units (entries : List UnitEntry)
  deriving DecidableEq, Repr

/-- An answer (R150, R177): its own kind byte, the request's tag, the result code and the fields. -/
structure Answer where
  kind   : Byte
  tag    : Byte
  result : Result
  fields : AnswerFields
  deriving DecidableEq, Repr

/-- A frame the Branch Link transmitter sends (R151). -/
inductive LinkFrame where
  | answer (a : Answer)
  | report (r : Report)
  deriving DecidableEq, Repr

/-- A KIOSK_ANSWER (R161, R179). -/
structure KioskAnswer where
  tag      : Byte
  booking  : Nat
  result   : Result
  accepted : Option (SlotNo × Nat)
  deriving DecidableEq, Repr

/-- A notice of the Kiosk Notice Queue (R98, R162). -/
structure Notice where
  booking : Nat
  event   : NoticeEvent
  deriving DecidableEq, Repr

/-- A frame the kiosk transmitter sends (R162). -/
inductive KioskFrame where
  | answer (a : KioskAnswer)
  | notice (n : Notice)
  deriving DecidableEq, Repr

/-- A port's receiver (R145): RECEIVING keeps the time of the marker. -/
inductive Receiver where
  | searching
  | receiving (marker : Nat)
  deriving DecidableEq, Repr

/-- The Branch Link transmitter (R151). `deferred` is IDLE inside the event of a valid frame, where the choice of
the next frame waits for the event's end (log 5). -/
inductive LinkTx where
  | idle
  | deferred
  | sending (f : LinkFrame)
  deriving DecidableEq, Repr

/-- The kiosk transmitter (R162). -/
inductive KioskTx where
  | idle
  | sending (f : KioskFrame)
  deriving DecidableEq, Repr

/-- The Branch Link Controller (chapter 9). -/
structure BranchLink where
  rx          : Receiver
  tx          : LinkTx
  state       : LinkState
  supervision : Option Nat
  answers     : List Answer
  reports     : List Report
  counts      : PortCounts
  deriving DecidableEq, Repr

def BranchLink.start : BranchLink :=
  { rx := .searching, tx := .idle, state := .awaiting, supervision := none, answers := [], reports := []
    counts := .start }

/-- The Kiosk Port (section 9.8). -/
structure KioskPort where
  enabled : Bool
  rx      : Receiver
  tx      : KioskTx
  answer  : Option KioskAnswer
  notices : List Notice
  counts  : PortCounts
  deriving DecidableEq, Repr

def KioskPort.start (enabled : Bool) : KioskPort :=
  { enabled, rx := .searching, tx := .idle, answer := none, notices := [], counts := .start }

/-! ### The whole state -/

/-- The state of the part. -/
structure State where
  /-- commands waiting, first in first out (log 2) -/
  pending   : List Instr
  power     : Power
  pins      : Pins
  mode      : CabinetMode
  session   : Session
  conds     : Vector CondRec 6
  params    : Params
  policy    : Vector PolicyEntry 16
  /-- cabinet time, none while unset (R115) -/
  time      : Option Nat
  dueList   : List DueEntry
  alerts    : AlertUnit
  directory : List KeyEntry
  bookings  : List Booking
  slots     : Vector SlotRec 384
  release   : ReleaseUnit
  units     : Vector UnitRec 25
  bus       : BusMaster
  chute     : ChuteRec
  bin       : BinList
  link      : BranchLink
  kiosk     : KioskPort
  deriving DecidableEq, Repr

/-- No command stops this machine with a fault: a refused request is an answer (R150), a corrupt frame is counted
(R145 to R147), a bad or missing reply is a missed transaction (R23). So there is no reason to name; that is
safe, since nothing is hidden behind a stop. -/
inductive Fault where
  deriving DecidableEq, Repr

/-- Reasons to give no meaning. -/
inductive Refusal where
  /-- Raised only by an arm of exec whose command has no meaning yet, by name; safe: the step says nothing. No arm
  raises it. -/
  | notModelled (mnemonic : String)
  deriving DecidableEq, Repr

/-! ### Start-up values (R169, step 1) -/

def LineSet.none : LineSet := { beacon := false, buzzer := false, attn := false }
def LineSet.attnOnly : LineSet := { beacon := false, buzzer := false, attn := true }
def LineSet.beaconAttn : LineSet := { beacon := true, buzzer := false, attn := true }
def LineSet.beaconOnly : LineSet := { beacon := true, buzzer := false, attn := false }
def LineSet.all : LineSet := { beacon := true, buzzer := true, attn := true }

/-- The default Policy Table of R132. -/
def Policy.start : Vector PolicyEntry 16 :=
  #v[{ priority := 2, lines := .attnOnly, enabled := true },
     { priority := 4, lines := .beaconAttn, enabled := true },
     { priority := 6, lines := .all, enabled := true },
     { priority := 1, lines := .attnOnly, enabled := true },
     { priority := 3, lines := .attnOnly, enabled := true },
     { priority := 5, lines := .beaconAttn, enabled := true },
     { priority := 6, lines := .all, enabled := true },
     { priority := 3, lines := .attnOnly, enabled := true },
     { priority := 5, lines := .beaconAttn, enabled := true },
     { priority := 2, lines := .attnOnly, enabled := true },
     { priority := 4, lines := .beaconAttn, enabled := true },
     { priority := 3, lines := .attnOnly, enabled := true },
     { priority := 7, lines := .all, enabled := true },
     { priority := 4, lines := .beaconAttn, enabled := true },
     { priority := 5, lines := .beaconOnly, enabled := true },
     { priority := 7, lines := .all, enabled := true }]

/-- Everything a start-up empties or sets to its start-up value (R169, step 1), over the commands that wait, the
pins, and a cabinet mode record that steps 2 to 4 have filled. -/
def State.cleared (pending : List Instr) (pins : Pins) (mode : CabinetMode) (kioskOn : Bool) (budget : Nat) :
    State :=
  { pending, pins, mode
    power := { stopped := false, powerOnWaits := false }
    session := { remaining := none, removals := [] }
    conds := Vector.replicate 6 { active := false, alert := .clear }
    params := .start
    policy := Policy.start
    time := none
    dueList := []
    alerts := { list := [], mask := none, lines := .none }
    directory := []
    bookings := []
    slots := Vector.replicate 384 .start
    release := { queue := [], channels := Vector.replicate 4 .free, budget }
    units := Vector.replicate 25 .start
    bus := { latches := [], nextAge := 0, lastPolled := none, flight := none }
    chute := { wanted := .unlocked, confirmed := .locked, hatchOpen := false, refused := false }
    bin := { entries := [], nextDrop := 0 }
    link := .start
    kiosk := .start kioskOn }

/-- The pin levels of State.reset (DESIGN CHOICE, log 1). -/
def Pins.atReset : Pins :=
  { supa := true, supb := true, panel := false, strap0 := false, strap1 := false, strap2 := true }

/-- The machine right after reset: the start-up of R169 at the pin levels of log 1, cause POWER_ON, with the PROBE
of the lowest address chosen at its end (R31). Tests show that POWER_ON leads to it. -/
def State.reset : State :=
  { State.cleared [] Pins.atReset
      { level := .good, cause := .powerOn, rate := .baud57600, strapFault := false, panelOpen := false
        startOnline := 0, startReported := false } true 4 with
    bus := { latches := [], nextAge := 0, lastPolled := none
             flight := some { unit := 0, cmd := .probe, phase := .transmitting, stale := false } } }

end Sys2Proof.Machine
end

