-- ==== Sys2Proof/Machine/Ops.lean ====
section
/-! DEFINITION. The named operations over the state: one update for each block of state, the accessors of the
tables' records, and the queues of the two ports (R150 to R153, R161, R162). Every other file of the machine reads and writes
records through these. -/

namespace Sys2Proof.Machine

/-! ### One update for each block of state -/

def State.setPending (s : State) (x : List Instr) : State := { s with pending := x }
def State.setPower (s : State) (x : Power) : State := { s with power := x }
def State.setPins (s : State) (x : Pins) : State := { s with pins := x }
def State.setMode (s : State) (x : CabinetMode) : State := { s with mode := x }
def State.setSession (s : State) (x : Session) : State := { s with session := x }
def State.setConds (s : State) (x : Vector CondRec 6) : State := { s with conds := x }
def State.setParams (s : State) (x : Params) : State := { s with params := x }
def State.setPolicy (s : State) (x : Vector PolicyEntry 16) : State := { s with policy := x }
def State.setTime (s : State) (x : Option Nat) : State := { s with time := x }
def State.setDueList (s : State) (x : List DueEntry) : State := { s with dueList := x }
def State.setAlerts (s : State) (x : AlertUnit) : State := { s with alerts := x }
def State.setDirectory (s : State) (x : List KeyEntry) : State := { s with directory := x }
def State.setBookings (s : State) (x : List Booking) : State := { s with bookings := x }
def State.setSlots (s : State) (x : Vector SlotRec 384) : State := { s with slots := x }
def State.setRelease (s : State) (x : ReleaseUnit) : State := { s with release := x }
def State.setUnits (s : State) (x : Vector UnitRec 25) : State := { s with units := x }
def State.setBus (s : State) (x : BusMaster) : State := { s with bus := x }
def State.setChute (s : State) (x : ChuteRec) : State := { s with chute := x }
def State.setBin (s : State) (x : BinList) : State := { s with bin := x }
def State.setLink (s : State) (x : BranchLink) : State := { s with link := x }
def State.setKiosk (s : State) (x : KioskPort) : State := { s with kiosk := x }

/-! ### Views -/

/-- The cabinet mode is HOLD "while the level is LOST" and RUN while it is GOOD or LOW (R163). -/
def State.hold (s : State) : Bool := s.mode.level == .lost

/-- A service session is active (R172). -/
def State.inSession (s : State) : Bool := s.session.remaining.isSome

/-- SBDE is driven while a command is transmitted (section 2.1). -/
def State.sbde (s : State) : Bool :=
  match s.bus.flight with
  | some f => f.phase == .transmitting
  | none => false

/-! ### Records -/

def State.slot (s : State) (n : SlotNo) : SlotRec := s.slots[n]
def State.putSlot (s : State) (n : SlotNo) (r : SlotRec) : State := s.setSlots (s.slots.set n r)

def State.unit (s : State) (u : UnitIx) : UnitRec := s.units[u]
def State.putUnit (s : State) (u : UnitIx) (r : UnitRec) : State := s.setUnits (s.units.set u r)

/-- A unit's record is ONLINE. -/
def State.online (s : State) (u : UnitIx) : Bool := (s.unit u).state == .online

/-- A slot's module is ONLINE. -/
def State.slotOnline (s : State) (n : SlotNo) : Bool := s.online (modUnit (moduleOf n))

def State.chan (s : State) (c : ChanNo) : Channel := s.release.channels[c]
def State.putChan (s : State) (c : ChanNo) (x : Channel) : State :=
  s.setRelease { s.release with channels := s.release.channels.set c x }

def State.cond (s : State) (c : Condition) : CondRec := s.conds[c.ix]
def State.putCond (s : State) (c : Condition) (r : CondRec) : State := s.setConds (s.conds.set c.ix r)

def State.policyOf (s : State) (c : AlertClass) : PolicyEntry := s.policy[c.ix]

/-- The Directory entry of a tag (R1). -/
def State.entry? (s : State) (tag : Nat) : Option KeyEntry := s.directory.find? fun e => e.tag == tag
def State.mapEntry (s : State) (tag : Nat) (f : KeyEntry → KeyEntry) : State :=
  s.setDirectory (s.directory.map fun e => if e.tag = tag then f e else e)

/-- The booking with a number (R59). -/
def State.booking? (s : State) (n : Nat) : Option Booking := s.bookings.find? fun b => b.number == n
def State.mapBooking (s : State) (n : Nat) (f : Booking → Booking) : State :=
  s.setBookings (s.bookings.map fun b => if b.number = n then f b else b)

/-- The Drop Bin List entry with a drop number (R99). -/
def State.drop? (s : State) (d : Nat) : Option DropEntry := s.bin.entries.find? fun e => e.number == d
def State.mapDrop (s : State) (d : Nat) (f : DropEntry → DropEntry) : State :=
  s.setBin { s.bin with entries := s.bin.entries.map fun e => if e.number = d then f e else e }

/-- The slots with their records, in ascending slot number. -/
def State.slotList (s : State) : List (SlotNo × SlotRec) := allSlots.zip s.slots.toList

/-- A slot record's tag is a key's: the tag of a HELD slot or the last-seen tag of an UNKNOWN slot (R7, R8). -/
def State.slotOfKey (s : State) (tag : Nat) : Option SlotNo :=
  (s.slotList.find? fun p => p.2.tag == some tag).map (·.1)

/-- The Drop Bin List entry with a tag (R101, step 1). -/
def State.dropOfKey (s : State) (tag : Nat) : Option DropEntry := s.bin.entries.find? fun e => e.tag == some tag

/-- A key is placed "when its tag is held by a slot record … or when its tag is the tag of a Drop Bin List entry"
(section 1.1). -/
def State.placed (s : State) (tag : Nat) : Bool := (s.slotOfKey tag).isSome || (s.dropOfKey tag).isSome

/-- A booking is in custody while it is RELEASING or OUT (00_scope.md section 6). -/
def Booking.inCustody (b : Booking) : Bool := b.state == .releasing || b.state == .out

/-- A key is in custody "when a booking with that key is RELEASING or OUT" (section 1.1). -/
def State.keyInCustody (s : State) (tag : Nat) : Bool := s.bookings.any fun b => b.key == tag && b.inCustody

/-- A slot record of another slot that is HELD with this tag on an ONLINE module: the conflict of R12, case 1. -/
def State.heldLive (s : State) (tag : Nat) (but : Option SlotNo) : Bool :=
  s.slotList.any fun p =>
    p.2.occ == .held && p.2.tag == some tag && s.slotOnline p.1 && but != some p.1

/-- The number of channels that are not FREE (R82). -/
def State.usedChannels (s : State) : Nat := (allChannels.filter fun c => s.chan c != .free).length

/-- The slot a channel holds. -/
def Channel.slot? : Channel → Option SlotNo
  | .free => none
  | .opening n _ => some n
  | .opened n _ _ => some n
  | .closing n _ _ => some n

/-- The booking a channel records. -/
def Channel.booking? : Channel → Option Nat
  | .free => none
  | .opening _ b => some b
  | .opened _ b _ => some b
  | .closing _ b _ => some b

/-- IN_BIN entries of the Drop Bin List (R99). -/
def State.inBinCount (s : State) : Nat := (s.bin.entries.filter fun e => e.state == .inBin).length

/-! ### Branch Link queues (R150 to R153) -/

/-- The transmitter chooses the next frame: the oldest answer, else the oldest report while CONNECTED, else it stays
IDLE (R151). -/
def BranchLink.choose (l : BranchLink) : BranchLink :=
  match l.answers with
  | a :: rest => { l with tx := .sending (.answer a), answers := rest }
  | [] =>
    match l.state, l.reports with
    | .connected, r :: rest => { l with tx := .sending (.report r), reports := rest }
    | _, _ => { l with tx := .idle }

/-- "It also makes the choice when, while it is IDLE, an answer is placed, a report is queued, or the link becomes
CONNECTED" (R151). -/
def BranchLink.wake (l : BranchLink) : BranchLink := if l.tx = .idle then l.choose else l

/-- A report is placed at the tail; on a full queue the oldest is discarded, the dropped count rises and the new
oldest takes the gap flag (R152). -/
def BranchLink.enqueue (l : BranchLink) (r : Report) : BranchLink :=
  if Config.reportCap ≤ l.reports.length then
    match l.reports.drop 1 with
    | [] => { l with reports := [r], counts := { l.counts with dropped := bump l.counts.dropped } }
    | o :: rest =>
      { l with reports := { o with gap := true } :: rest ++ [r]
               counts := { l.counts with dropped := bump l.counts.dropped } }
  else { l with reports := l.reports ++ [r] }

/-- Queue a report with the present cabinet time (R152). -/
def State.queueReport (s : State) (b : ReportBody) : State :=
  s.setLink (s.link.enqueue { time := s.time, gap := false, body := b }).wake

/-- Place an answer in the Answer Queue (R150). -/
def State.placeAnswer (s : State) (a : Answer) : State :=
  s.setLink { s.link with answers := s.link.answers ++ [a] }.wake

/-! ### Kiosk Port queues (R161, R162) -/

/-- The kiosk transmitter "sends the KIOSK_ANSWER in the answer place if there is one, and otherwise the oldest
notice" (R162). -/
def KioskPort.choose (k : KioskPort) : KioskPort :=
  match k.answer with
  | some a => { k with tx := .sending (.answer a), answer := none }
  | none =>
    match k.notices with
    | n :: rest => { k with tx := .sending (.notice n), notices := rest }
    | [] => { k with tx := .idle }

def KioskPort.wake (k : KioskPort) : KioskPort := if k.tx = .idle then k.choose else k

/-- A notice joins the queue; at 4 the oldest is discarded and counted (R162). -/
def KioskPort.enqueue (k : KioskPort) (n : Notice) : KioskPort :=
  if Config.noticeCap ≤ k.notices.length then
    { k with notices := k.notices.drop 1 ++ [n], counts := { k.counts with dropped := bump k.counts.dropped } }
  else { k with notices := k.notices ++ [n] }

/-- Place a notice; "A Kiosk Port disabled by its strap sends nothing, and notices for it are discarded as they are
placed" (R98). -/
def State.placeNotice (s : State) (booking : Nat) (e : NoticeEvent) : State :=
  if s.kiosk.enabled then s.setKiosk (s.kiosk.enqueue { booking, event := e }).wake else s

/-- A notice for a release whose source is KIOSK; none for COUNTER (R98). -/
def State.noticeFor (s : State) (source : Option Source) (booking : Nat) (e : NoticeEvent) : State :=
  if source = some .kiosk then s.placeNotice booking e else s

/-- Place a KIOSK_ANSWER in the answer place (R161). -/
def State.placeKioskAnswer (s : State) (a : KioskAnswer) : State :=
  s.setKiosk { s.kiosk with answer := some a }.wake

/-! ### Small list tools -/

/-- Insert before the first element that the new one comes before. -/
def insertBy {α : Type} (before : α → α → Bool) (x : α) : List α → List α
  | [] => [x]
  | y :: ys => if before x y then x :: y :: ys else y :: insertBy before x ys

/-- Sort by repeated insertion. -/
def sortBy {α : Type} (before : α → α → Bool) : List α → List α
  | [] => []
  | x :: xs => insertBy before x (sortBy before xs)

end Sys2Proof.Machine
end

