-- ==== Sys2Proof/Machine/Flags.lean ====
section
/-! DEFINITION. Everything the part derives and does not store, and every judgement it makes from the records:
floating and misplaced slots (R10), lamp patterns (R55), watch stages and deadlines (R119, R120), the line drive (R139),
the promotion order (R137), the class of a latch reply (R45), the supply level and the link rate (R163). -/

namespace Sys2Proof.Machine

/-! ### Slots -/

/-- The Directory entry whose home is a slot (R22). -/
def State.homeKey (s : State) (n : SlotNo) : Option KeyEntry := s.directory.find? fun e => e.home == some n

/-- "A slot is floating when no Directory entry has it as its home" (R10). -/
def State.floating (s : State) (n : SlotNo) : Bool := (s.homeKey n).isNone

/-- The misplaced property of R10 for a slot record. -/
def State.misplacedRec (s : State) (n : SlotNo) (r : SlotRec) : Bool :=
  match r.occ, r.tag with
  | .held, some t =>
    match s.entry? t with
    | none => false
    | some e =>
      match e.home with
      | some h => h != n
      | none => !s.floating n
  | _, _ => false

def State.misplaced (s : State) (n : SlotNo) : Bool := s.misplacedRec n (s.slot n)

/-- "the slot holds a latch channel in phase OPENING or OPEN" (R55, line 2). -/
def State.guides (s : State) (r : SlotRec) : Bool :=
  match r.channel with
  | none => false
  | some c =>
    match s.chan c with
    | .opening _ _ => true
    | .opened _ _ _ => true
    | _ => false

/-- The lamp pattern of R55, first line that applies. -/
def State.lampOf (s : State) (n : SlotNo) : Lamp :=
  let r := s.slot n
  if r.service = .quarantined then .fast
  else if s.guides r then .steady
  else if r.alert.cls = some .foreignKey ∨ r.alert.cls = some .duplicateTag ∨ s.misplaced n then .slow
  else .off

/-! ### Watch stages -/

/-- The overdue deadline (R119), held at the top of the count (R116). -/
def Booking.overdueAt (b : Booking) : Nat := addTime b.due (60 * b.grace)

/-- The escalation deadline, present when escalation is not 0 (R119). -/
def Booking.escalationAt (b : Booking) : Option Nat :=
  if b.escalation = 0 then none else some (addTime b.overdueAt (60 * b.escalation))

/-- The stage at a cabinet time, first line of R119 that applies. -/
def Booking.stageAt (b : Booking) (t : Nat) : Stage :=
  let escalated := match b.escalationAt with
    | some e => decide (e ≤ t)
    | none => false
  if escalated then .escalated
  else if b.overdueAt ≤ t then .overdue
  else if b.due ≤ t then .due
  else .onTime

/-- The next deadline of a stored stage (R120). -/
def Booking.nextDeadline (b : Booking) (st : Stage) : Option Nat :=
  match st with
  | .onTime => some b.due
  | .due => some b.overdueAt
  | .overdue => b.escalationAt
  | .escalated => none

/-- The class raised for a stage; "ON_TIME has no class" (R124). -/
def Stage.cls : Stage → Option AlertClass
  | .onTime => none
  | .due => some .due
  | .overdue => some .overdue
  | .escalated => some .escalated

/-- The three stage classes (R128). -/
def stageClasses : List AlertClass := [.due, .overdue, .escalated]

/-- Whole minutes by which a time exceeds due, rounded up, 0 if not later, stopping at 65,535 (R72). -/
def lateness (due returned : Nat) : Nat := min ((returned - due + 59) / 60) Config.maxCount

/-! ### Alerts -/

/-- A line is driven "while the mask is off and the Alert List holds at least one record whose class's Policy Table
entry includes that line" (R139). -/
def State.judgedLines (s : State) : LineSet :=
  let drives (line : LineSet → Bool) : Bool :=
    s.alerts.mask.isNone && s.alerts.list.any fun r => line (s.policyOf r.cls).lines
  { beacon := drives (·.beacon), buzzer := drives (·.buzzer), attn := drives (·.attn) }

/-- A subject with a waiting mark, as the promotion sees it. -/
def waiterOf (subject : Subject) (f : AlertFields) : Option Waiter :=
  if f.waiting then f.cls.map fun c => { subject, cls := c, raised := f.raised } else none

/-- All waiting subjects (R131). -/
def State.waiters (s : State) : List Waiter :=
  (Condition.all.filterMap fun c => waiterOf (.cabinet c) (s.cond c).alert)
    ++ (allUnits.filterMap fun u => waiterOf (.module u) (s.unit u).alert)
    ++ (s.slotList.filterMap fun p => waiterOf (.slot p.1) p.2.alert)
    ++ (s.directory.filterMap fun e => waiterOf (.key e.tag) e.alert)
    ++ (s.bookings.filterMap fun b => waiterOf (.booking b.number) b.alert)
    ++ (s.bin.entries.filterMap fun e => waiterOf (.bin e.number) e.alert)

/-- An absent raised time comes before any cabinet time (R137). -/
def raisedKey (t : Option Nat) : Nat :=
  match t with
  | none => 0
  | some t => t + 1

/-- The promotion order of R137: highest priority, earliest raised time, subject kind, lowest subject id. -/
def State.promotesBefore (s : State) (a b : Waiter) : Bool :=
  let pa := (s.policyOf a.cls).priority
  let pb := (s.policyOf b.cls).priority
  if pa ≠ pb then pb < pa
  else if raisedKey a.raised ≠ raisedKey b.raised then raisedKey a.raised < raisedKey b.raised
  else if a.subject.kind ≠ b.subject.kind then a.subject.kind < b.subject.kind
  else a.subject.id < b.subject.id

/-- The waiting subjects in promotion order. -/
def State.waitersInOrder (s : State) : List Waiter := sortBy s.promotesBefore s.waiters

/-- A POLICY_SET line set: bit 0 BEACON, bit 1 BUZZER, bit 2 ATTN (R179). -/
def LineSet.ofBits (n : Nat) : LineSet := { beacon := n.testBit 0, buzzer := n.testBit 1, attn := n.testBit 2 }

def LineSet.bits (l : LineSet) : Nat := packFlags [l.beacon, l.buzzer, l.attn]

/-! ### Latch replies (R45) -/

/-- The class of a delivered latch reply. -/
inductive LatchClass where
  | good
  | slow
  | fault (k : FaultKind)
  deriving DecidableEq, Repr

/-- The table of R45, with the slow-latch limit as it stands. -/
def latchClass (limit : Nat) (dir : LatchDir) (r : LatchReply) : LatchClass :=
  match r.coil with
  | .openCoil => .fault .coilOpen
  | .shortCoil => .fault .coilShort
  | .normal =>
    if r.travel = 255 then .fault .latchJammed
    else
      match dir with
      | .openIt => if limit < r.travel then .slow else .good
      | .closeIt => .good

/-- A fault joins a fault set (R46, R47, R51, R52). SLOW_LATCH is not a member of it (R48). -/
def FaultSet.add (f : FaultSet) : FaultKind → FaultSet
  | .coilOpen => { f with coilOpen := true }
  | .coilShort => { f with coilShort := true }
  | .latchJammed => { f with latchJammed := true }
  | .slowLatch => f
  | .sensorChatter => { f with sensorChatter := true }
  | .manual => { f with manual := true }

/-! ### Supply and straps -/

/-- The supply level of SUPA and SUPB (R163). -/
def supplyLevel (supa supb : Bool) : SupplyLevel :=
  if supa then (if supb then .good else .low) else .lost

/-- The latch budget of a supply level (R82). -/
def budgetOf : SupplyLevel → Nat
  | .good => 4
  | .low => 1
  | .lost => 0

/-- The Branch Link rate and strap fault flag of STRAP1 and STRAP0 (00_scope.md section 7). -/
def linkRate (strap1 strap0 : Bool) : LinkRate × Bool :=
  match strap1, strap0 with
  | false, false => (.baud57600, false)
  | false, true => (.baud115200, false)
  | true, false => (.baud230400, false)
  | true, true => (.baud115200, true)

/-! ### The pending command set (R30, R31) -/

/-- A FLAP command is pending while flap wanted and flap confirmed differ and the chute unit is ONLINE (R30, R42). -/
def State.flapPending (s : State) : Bool := s.online chuteIx && s.chute.wanted != s.chute.confirmed

/-- A STATUS read is pending for a unit whose resync is set (R30). -/
def State.statusPending (s : State) (u : UnitIx) : Bool := s.online u && (s.unit u).resync

/-- A PROBE is pending for a unit in PROBING (R30). -/
def State.probePending (s : State) (u : UnitIx) : Bool := (s.unit u).state == .probing

/-- "A LATCH, LAMPS or POLL command for a unit whose resync is set is not eligible" (R31). -/
def State.eligible (s : State) (u : UnitIx) : Bool := s.online u && !(s.unit u).resync

/-- The first LATCH command to send: one put back after its first miss, else the oldest, passing over units under
resync (R28, R31). -/
def State.nextLatch (s : State) : Option LatchCmd :=
  let open_ := s.bus.latches.filter fun c => s.eligible (modUnit (moduleOf c.slot))
  match open_.find? fun c => c.tries == 1 with
  | some c => some c
  | none => open_.head?

/-- The units of the poll rotation after a unit, then from the lowest (R32). -/
def rotationAfter (last : Option UnitIx) : List UnitIx :=
  match last with
  | none => allUnits
  | some l => (allUnits.filter fun u => decide (l < u)) ++ (allUnits.filter fun u => decide (u ≤ l))

/-- The next POLL of the rotation (R32). -/
def State.nextPoll (s : State) : Option UnitIx := (rotationAfter s.bus.lastPolled).find? s.eligible

end Sys2Proof.Machine
end

