-- ==== Sys2Proof/Machine/Frames.lean ====
section
/-! DEFINITION. The bytes of every frame the part sends: answers and reports (R177 to R180), kiosk frames (R179) and Slot Bus
commands (R181). The optional fields of an answer stand in presence bytes behind its result code; an entry of an answer's list
that has optional fields begins with its own (R179, log 17). -/

namespace Sys2Proof.Machine

/-- A presence bit's field, or one that is always there. -/
inductive Fld where
  | always (b : List Byte)
  | maybe (b : Option (List Byte))
  deriving DecidableEq, Repr

/-- A row of fields behind its presence bytes, which name the optional ones in order; none when no field is optional. -/
def fields (fs : List Fld) : List Byte :=
  let opts := fs.filterMap fun f => match f with
    | .always _ => none
    | .maybe b => some b.isSome
  presence opts ++ fs.flatMap fun f => match f with
    | .always b => b
    | .maybe b => b.getD []

def num (k n : Nat) : Fld := .always (beBytes k n)
def opt (k : Nat) (n : Option Nat) : Fld := .maybe (n.map (beBytes k))
def flag (b : Bool) : Fld := num 1 b.toNat

/-- A tag or a booking number, 0 where there is none: it "is carried as that number and needs no presence bit" (R178). -/
def numOrZero (n : Option Nat) : Fld := num 4 (n.getD 0)

/-- A field shown only where the value it is read from is there. -/
def Fld.onlyIf {α : Type} (o : Option α) (f : α → List Byte) : Fld := .maybe (o.map f)

/-- A field with no bit of its own, there where another optional field is there. -/
def Fld.along {α : Type} (o : Option α) (f : α → List Byte) : Fld := .always ((o.map f).getD [])

/-- The three alert fields, as KEY_QUERY, SLOT_QUERY and BOOKING_QUERY show them. -/
def AlertFields.shown (f : AlertFields) : List Fld :=
  [opt 1 (f.cls.map (·.number)), flag f.waiting, opt 1 (f.acked.map (·.number))]

/-! ### Answers (R150, R179) -/

/-- The handed time of an IN_HAND place, the one optional field of the place part (R21). -/
def KeyPlace.handed : KeyPlace → Option Nat
  | .inHand _ _ handed _ => handed
  | _ => none

/-- The place part in two rows, before and behind the handed time; the place's code, and for IN_BIN the entry's state, say
which fields follow (log 17). -/
def KeyPlace.before : KeyPlace → List Byte
  | .inSlot n m => beBytes 1 0 ++ beBytes 2 n.val ++ boolByte m
  | .lastSeen n => beBytes 1 1 ++ beBytes 2 n.val
  | .inBin d => beBytes 1 2 ++ beBytes 2 d ++ beBytes 1 BinState.inBin.code
  | .inHand d age _ _ => beBytes 1 2 ++ beBytes 2 d ++ beBytes 1 BinState.inHand.code ++ beBytes 2 age
  | .nowhere => beBytes 1 3

def KeyPlace.behind : KeyPlace → List Byte
  | .inHand _ _ _ unslotted => boolByte unslotted
  | _ => []

/-- KEY_QUERY (R21): one presence byte behind the result code (R179), bit 0 the Directory part, bit 1 home, bit 2 alert class,
bit 3 acknowledged class, bit 4 handed time, bit 5 the custody part as a whole. With bit 0 clear bits 1 to 3 are clear too
(log 17). -/
def KeyAnswer.bytes (a : KeyAnswer) : List Byte :=
  let alert := a.entry.map (·.alert)
  fields
    [.onlyIf a.entry fun e => beBytes 2 e.unit,
     opt 2 ((a.entry.bind (·.home)).map (·.val)),
     .along a.entry fun e => boolByte e.missing,
     opt 1 ((alert.bind (·.cls)).map (·.number)),
     .along alert fun f => boolByte f.waiting,
     opt 1 ((alert.bind (·.acked)).map (·.number)),
     .always a.place.before, opt 4 a.place.handed, .always a.place.behind,
     .onlyIf a.custody fun c => beBytes 4 c.1 ++ beBytes 1 c.2.code]

/-- Fault set bits in the order of R6, the first in bit 0. -/
def FaultSet.bits (f : FaultSet) : Nat := packFlags [f.coilOpen, f.coilShort, f.latchJammed, f.sensorChatter, f.manual]

/-- A channel's phase (R81). -/
def Channel.phase : Channel → Nat
  | .free => 0 | .opening _ _ => 1 | .opened _ _ _ => 2 | .closing _ _ _ => 3

/-- One slot entry of SLOT_QUERY (R22): tag, home key and last release are 0 where there is none (R178); the presence byte has
since, the channel with its phase, the alert class and the acknowledged class (log 17). -/
def SlotEntry.bytes (e : SlotEntry) : List Byte :=
  fields
    ([num 1 e.slot.occ.code, numOrZero e.slot.tag, opt 4 e.slot.since, numOrZero e.homeKey, flag e.misplaced,
      .onlyIf e.slot.channel fun c => beBytes 1 c.val ++ beBytes 1 e.channel.phase,
      flag e.slot.queued, numOrZero e.slot.lastRelease, num 1 e.slot.service.code, num 1 e.slot.faults.bits,
      num 1 e.slot.slow, num 1 e.slot.lamp.code] ++ e.slot.alert.shown)

/-- A place: 0 for a slot or 1 for a drop, and its number (log 17). -/
def Place.bytes : Place → List Byte
  | .slot n => beBytes 1 0 ++ beBytes 2 n.val
  | .drop d => beBytes 1 1 ++ beBytes 2 d

/-- The place in the Release Queue of a QUEUED release position. -/
def ReleasePos.place : ReleasePos → Option Nat
  | .queued p => some p
  | _ => none

/-- The channel of a release position, with its phase. -/
def ReleasePos.channel : ReleasePos → Option (ChanNo × ReleasePhase)
  | .queued _ => none
  | .opening c => some (c, .opening)
  | .opened c _ => some (c, .opened)

/-- The seconds to the window deadline of an OPEN release position. -/
def ReleasePos.seconds : ReleasePos → Option Nat
  | .opened _ r => some r
  | _ => none

/-- BOOKING_QUERY in its single form (R74): whether a code is present, "but not the code". Its twelve optional fields, in two
presence bytes behind the result code, are window, source, stage, taken, returned with its place, lateness, alert class,
acknowledged class, queue place, channel with its phase, window seconds and remaining time (R179, log 17). A returned time is
absent only in states that no run reaches (log 22). -/
def BookingAnswer.bytes (a : BookingAnswer) : List Byte :=
  let b := a.booking
  fields
    ([num 4 b.number, num 1 b.kind.code, num 4 b.key, num 1 b.state.code, flag b.code.isSome,
      .onlyIf b.window fun w => beBytes 4 w.1 ++ beBytes 4 w.2, num 4 b.due, num 1 b.grace, num 2 b.escalation,
      num 1 b.failures, opt 1 (b.source.map (·.code)), opt 1 (b.stage.map (·.code)), opt 4 b.taken,
      .onlyIf b.returned fun r => optBytes 4 r.time ++ r.place.bytes, opt 2 b.lateness] ++ b.alert.shown
      ++ [opt 1 (a.position.bind (·.place)),
          .onlyIf (a.position.bind (·.channel)) fun p => beBytes 1 p.1.val ++ beBytes 1 p.2.code,
          opt 1 (a.position.bind (·.seconds)), opt 4 a.remaining])

/-- A summary entry of R75. -/
def BookingSummary.bytes (b : BookingSummary) : List Byte :=
  fields [num 4 b.number, num 1 b.kind.code, num 4 b.key, num 1 b.state.code, opt 1 (b.stage.map (·.code))]

def subjectFields (x : Subject) : List Fld := [num 1 x.kind, num 4 x.id]

/-- The lines as one byte of flags, BEACON in bit 0. -/
def LineSet.fld (l : LineSet) : Fld := num 1 l.bits

def AlertRec.bytes (r : AlertRec) (priority : Nat) : List Byte :=
  fields (subjectFields r.subject ++ [num 1 r.cls.number, num 1 priority, opt 4 r.raised])

def Waiter.bytes (w : Waiter) : List Byte :=
  fields (subjectFields w.subject ++ [num 1 w.cls.number, opt 4 w.raised])

/-- ALERT_QUERY in its list form (R143): presence byte, more flag byte, then the fields the rule names and no other; at most 8
records and 8 waiting subjects always fit one frame. That the mask is on is the presence bit of its remaining (log 17). -/
def AlertListAnswer.bytes (a : AlertListAnswer) : List Byte :=
  presence [a.mask.isSome] ++ boolByte false ++ optBytes 2 a.mask ++ beBytes 1 a.lines.bits
    ++ a.records.flatMap (fun r => r.1.bytes r.2) ++ beBytes 2 a.waitCount ++ a.waiters.flatMap Waiter.bytes

/-- ALERT_QUERY in its subject form (R144); listed 0, waiting 1, neither 2. -/
def AlertSubjectAnswer.bytes (a : AlertSubjectAnswer) : List Byte :=
  fields
    [opt 1 (a.cls.map (·.number)), num 1 (if a.listed.isSome then 0 else if a.waiting.isSome then 1 else 2), opt 4 a.raised,
     opt 1 a.listed, opt 2 a.waiting, opt 1 (a.acked.map (·.number)), .onlyIf a.active boolByte]

def PortCounts.linkBytes (c : PortCounts) : List Byte :=
  beBytes 2 c.crc ++ beBytes 2 c.timeout ++ beBytes 2 c.format ++ beBytes 2 c.overrun ++ beBytes 2 c.dropped
    ++ beBytes 2 c.losses

def PortCounts.kioskBytes (c : PortCounts) : List Byte :=
  beBytes 2 c.crc ++ beBytes 2 c.timeout ++ beBytes 2 c.format ++ beBytes 2 c.overrun ++ beBytes 2 c.dropped

/-- A channel's phase, and its slot and booking when it is not FREE (R158): the slot has a presence bit, the booking is 0 where
there is none (R178). -/
def Channel.shown (c : Channel) : List Fld :=
  [num 1 c.phase, opt 2 (c.slot?.map (·.val)), numOrZero c.booking?]

/-- The parameters in the order of R157. -/
def Params.bytes (p : Params) : List Byte :=
  beBytes 2 p.window ++ beBytes 2 p.slowLatch ++ beBytes 2 p.supervision ++ beBytes 2 p.unslotted ++ beBytes 2 p.service
    ++ beBytes 2 p.nearFull

/-- STATUS_QUERY part 0, group by group in the order of R158. A session active, cabinet time set and the mask on are shown by the
presence bit of what stands behind them, one bit for both session fields; a remaining takes 2 bytes (log 17). -/
def StatusSummary.bytes (a : StatusSummary) : List Byte :=
  fields
    ([num 1 a.cause.code, num 1 a.rate.code, flag a.kioskOn, flag a.strapFault, flag a.hold, num 1 a.level.code,
      flag (!a.panelOpen), .onlyIf a.session fun p => beBytes 2 p.1 ++ beBytes 1 p.2, opt 4 a.time,
      num 2 a.dueCount, opt 4 a.nextDue] ++ a.outStages.map (num 2)
      ++ [num 2 a.dirCount] ++ a.bookings.map (num 2)
      ++ [num 1 a.budget, num 1 a.used, num 1 a.queueLen] ++ a.channels.flatMap Channel.shown
      ++ [num 1 a.online, num 1 a.inBin, num 1 a.binCount, num 2 a.nextDrop, num 1 a.wanted.code, flag a.nearFull,
          flag a.chuteLocked, num 1 a.listLen, num 2 a.waitLen, opt 2 a.mask, a.lines.fld, num 1 a.link.code,
          opt 2 a.supervision, num 1 a.reports, num 1 a.answers, .always a.linkCounts.linkBytes, flag a.kioskOn,
          flag a.answerHeld, num 1 a.notices, .always a.kioskCounts.kioskBytes, .always a.params.bytes])

/-- One record of STATUS_QUERY part 1 (R33); the three chute fields share one presence bit, the retry time takes 1 byte
(log 17). -/
def UnitEntry.bytes (e : UnitEntry) : List Byte :=
  fields
    [num 1 e.state.code, num 1 e.misses, num 1 e.attempts, opt 1 e.retry, flag e.resync, opt 1 e.quarantined,
     .onlyIf e.chute fun c => beBytes 1 c.1.code ++ beBytes 1 c.2.1.code ++ boolByte (!c.2.2)]

/-- A more flag byte (R179). -/
def moreByte (more : Bool) : List Byte := boolByte more

/-- The fields behind the result code (R179). -/
def AnswerFields.bytes : AnswerFields → List Byte
  | .nothing => []
  | .accepted n p => beBytes 2 n.val ++ beBytes 1 p
  | .retired n => beBytes 2 n
  | .oldParam v => beBytes 2 v
  | .oldTime t k => fields [opt 4 t, num 2 k]
  | .ackedClass c => beBytes 1 c.number
  | .limit n => beBytes 2 n
  | .left n => beBytes 1 n
  | .heartbeat l t r d => fields [num 1 l.code, opt 4 t, num 1 r, num 2 d]
  | .kindByte k => [k]
  | .key a => a.bytes
  | .slots es more => moreByte more ++ es.flatMap SlotEntry.bytes
  | .booking b => b.bytes
  | .bookings es more => moreByte more ++ es.flatMap BookingSummary.bytes
  | .alerts a => a.bytes
  | .subject a => a.bytes
  | .status a => a.bytes
  | .units es => es.flatMap UnitEntry.bytes

/-- "Every answer body begins with its result code" (R179). -/
def Answer.body (a : Answer) : List Byte := beBytes 1 a.result.code ++ a.fields.bytes

/-! ### Reports (R180) -/

/-- The subject fields a report's header carries. -/
structure HeaderSubjects where
  slot    : Option Nat
  booking : Option Nat
  tag     : Option Nat
  module  : Option Nat
  drop    : Option Nat
  deriving DecidableEq, Repr

def HeaderSubjects.none : HeaderSubjects := { slot := .none, booking := .none, tag := .none, module := .none, drop := .none }

def RelInfo.header (r : RelInfo) : HeaderSubjects :=
  { HeaderSubjects.none with slot := some r.slot.val, booking := some r.booking, tag := r.key }

/-- "Where the subject is a slot, key, booking, module or bin entry, it also carries that subject's field" (R142). -/
def Subject.header : Subject → HeaderSubjects
  | .cabinet _ => .none
  | .module u => { HeaderSubjects.none with module := some (unitAddr u) }
  | .slot n => { HeaderSubjects.none with slot := some n.val }
  | .key t => { HeaderSubjects.none with tag := some t }
  | .booking b => { HeaderSubjects.none with booking := some b }
  | .bin d => { HeaderSubjects.none with drop := some d }

/-- The header's subject fields of each kind (R180). -/
def ReportBody.header : ReportBody → HeaderSubjects
  | .start .. => .none
  | .releaseGranted r .. => r.header
  | .releaseTaken r .. => r.header
  | .releaseTakenLate r .. => r.header
  | .releaseUntaken r .. => r.header
  | .releaseAborted r .. => r.header
  | .releaseWithdrawn r .. => r.header
  | .returned r =>
    { HeaderSubjects.none with
      booking := some r.booking, tag := some r.key
      slot := match r.place with
        | .slot n => some n.val
        | .drop _ => .none
      drop := match r.place with
        | .slot _ => .none
        | .drop d => some d }
  | .keyPlaced p => { HeaderSubjects.none with slot := some p.slot.val, tag := p.tag }
  | .keyRemovedForced n t .. => { HeaderSubjects.none with slot := some n.val, tag := t }
  | .chuteDrop d => { HeaderSubjects.none with drop := d.drop, tag := d.tag, booking := d.booking }
  | .binEmptied .. => .none
  | .binReslotted n t d .. => { HeaderSubjects.none with slot := some n.val, tag := some t, drop := some d }
  | .slotFault f => { HeaderSubjects.none with slot := some f.slot.val, booking := f.booking }
  | .moduleState u .. => { HeaderSubjects.none with module := some (unitAddr u) }
  | .supplyState .. => .none
  | .serviceState .. => .none
  | .alertRaised a .. => a.subject.header
  | .alertListed a .. => a.subject.header
  | .alertCleared a .. => a.subject.header

/-- The source of a release report: a byte, left out where the booking has none, which no run reaches (log 22). -/
def sourceByte (src : Option Source) : List Byte := optBytes 1 (src.map (·.code))

/-- Subject kind, subject id and class of an alert report. -/
def AlertInfo.front (a : AlertInfo) : List Fld := subjectFields a.subject ++ [num 1 a.cls.number]

/-- The counts that close an alert report. -/
def AlertInfo.back (a : AlertInfo) : List Fld := [num 1 a.listLen, num 2 a.waitLen]

/-- The fields after the header, with the second presence byte where the kind has one (R180). -/
def ReportBody.fields : ReportBody → List Byte
  | .start c r k f l n =>
    beBytes 1 c.code ++ beBytes 1 r.code ++ beBytes 1 (packFlags [k, f]) ++ beBytes 1 l.code ++ beBytes 1 n
  | .releaseGranted _ c src d t => beBytes 1 c.val ++ sourceByte src ++ beBytes 4 d ++ beBytes 1 t
  | .releaseTaken _ c src t => beBytes 1 c.val ++ sourceByte src ++ optBytes 4 t
  | .releaseTakenLate _ src t rec => sourceByte src ++ optBytes 4 t ++ beBytes 1 (packFlags [rec])
  | .releaseUntaken _ c src => beBytes 1 c.val ++ sourceByte src
  | .releaseAborted _ src p c => sourceByte src ++ beBytes 1 p.code ++ beBytes 1 c.code
  | .releaseWithdrawn _ src p => sourceByte src ++ beBytes 1 p.code
  | .returned r =>
    optBytes 2 r.unit ++ optBytes 4 r.taken ++ beBytes 4 r.due ++ optBytes 4 r.returned ++ beBytes 2 r.lateness
      ++ optBytes 1 (r.stage.map (·.code)) ++ sourceByte r.source ++ beBytes 1 (packFlags [r.misplaced])
  | .keyPlaced p =>
    Machine.fields [opt 2 p.unit, num 1 (packFlags [p.home, p.misplaced, p.foreign, p.duplicate])]
  | .keyRemovedForced _ _ u t e => Machine.fields [opt 2 u, opt 4 t, num 1 (packFlags [e])]
  | .chuteDrop d =>
    beBytes 1 (packFlags [d.unread, d.conflict, d.foreign, d.notRecorded]) ++ beBytes 1 d.inBin ++ beBytes 1 d.count
  | .binEmptied m n d =>
    Machine.fields [num 1 m, num 1 n, .onlyIf d fun p => beBytes 2 p.1 ++ beBytes 2 p.2]
  | .binReslotted _ _ _ st t => Machine.fields [num 1 st.code, opt 4 t]
  | .slotFault f =>
    Machine.fields
      [num 1 f.kind.code, num 1 f.service.code, num 1 f.slow, .onlyIf f.latch fun p => beBytes 1 p.1 ++ beBytes 1 p.2.code]
  | .moduleState _ o n k => beBytes 1 o.code ++ beBytes 1 n.code ++ beBytes 1 k
  | .supplyState o n h b k =>
    Machine.fields [opt 1 (o.map (·.code)), num 1 n.code, flag h, num 1 b, num 1 k]
  | .serviceState r l n p => Machine.fields [num 1 r.code, opt 2 l, opt 1 n, flag (!p)]
  | .alertRaised a p t w => Machine.fields (a.front ++ [num 1 p, opt 4 t, num 1 (packFlags [w])] ++ a.back)
  | .alertListed a p t => Machine.fields (a.front ++ [num 1 p, opt 4 t] ++ a.back)
  | .alertCleared a r w => Machine.fields (a.front ++ [num 1 r.code, num 1 (packFlags [w])] ++ a.back)

/-- The report kinds "run from 0x41 to 0x54 in this order" (R177). -/
def ReportBody.kind : ReportBody → Nat
  | .start .. => 0x41 | .releaseGranted .. => 0x42 | .releaseTaken .. => 0x43 | .releaseTakenLate .. => 0x44
  | .releaseUntaken .. => 0x45 | .releaseAborted .. => 0x46 | .releaseWithdrawn .. => 0x47 | .returned .. => 0x48
  | .keyPlaced .. => 0x49 | .keyRemovedForced .. => 0x4A | .chuteDrop .. => 0x4B | .binEmptied .. => 0x4C
  | .binReslotted .. => 0x4D | .slotFault .. => 0x4E | .moduleState .. => 0x4F | .supplyState .. => 0x50
  | .serviceState .. => 0x51 | .alertRaised .. => 0x52 | .alertListed .. => 0x53 | .alertCleared .. => 0x54

/-- The header of R180: bit 7 gap, bit 6 time, bits 4 to 0 slot, booking, tag, module, drop number; bit 5 clear. -/
def Report.payload (r : Report) : List Byte :=
  let h := r.body.header
  beBytes 1 (packFlags [h.drop.isSome, h.module.isSome, h.tag.isSome, h.booking.isSome, h.slot.isSome, false,
      r.time.isSome, r.gap])
    ++ optBytes 4 r.time ++ optBytes 2 h.slot ++ optBytes 4 h.booking ++ optBytes 4 h.tag ++ optBytes 1 h.module
    ++ optBytes 2 h.drop ++ r.body.fields

/-! ### Whole frames -/

/-- The bytes of a Branch Link frame; a report carries tag 0 (R177). -/
def LinkFrame.bytes : LinkFrame → List Byte
  | .answer a => linkEnvelope a.kind a.tag a.body
  | .report r => linkEnvelope (BitVec.ofNat 8 r.body.kind) 0 r.payload

/-- The body of a KIOSK_ANSWER (R179). -/
def KioskAnswer.body (a : KioskAnswer) : List Byte :=
  beBytes 1 a.result.code ++ beBytes 4 a.booking
    ++ (match a.accepted with
        | some (n, p) => beBytes 2 n.val ++ beBytes 1 p
        | none => [])

/-- The body of a KIOSK_NOTICE (R179). -/
def Notice.body (n : Notice) : List Byte :=
  beBytes 4 n.booking ++ beBytes 1 n.event.code
    ++ (match n.event with
        | .opened slot => beBytes 2 slot.val
        | _ => [])

/-- The bytes of a kiosk frame: KIOSK_ANSWER 0xE1, KIOSK_NOTICE 0x62 with tag 0. -/
def KioskFrame.bytes : KioskFrame → List Byte
  | .answer a => linkEnvelope 0xE1 a.tag a.body
  | .notice n => linkEnvelope 0x62 0 n.body

/-- Four lamp patterns to a byte, the first in the top bits (R181). -/
def lampBytes : List Lamp → List Byte
  | a :: b :: c :: d :: rest =>
    BitVec.ofNat 8 (64 * a.code + 16 * b.code + 4 * c.code + d.code) :: lampBytes rest
  | _ => []

/-- The code of a command (R181). -/
def BusCmd.code : BusCmd → Nat
  | .probe => 1 | .poll => 2 | .status => 3 | .latch _ => 4 | .lamps _ => 5 | .flap _ => 6

/-- The payload of a command (R181). -/
def BusCmd.payload : BusCmd → List Byte
  | .latch l => beBytes 1 (16 * (positionOf l.slot).val + l.dir.code)
  | .lamps ps => lampBytes ps
  | .flap p => flapBytes p
  | _ => []

/-- The bytes of a Slot Bus command. -/
def Flight.bytes (f : Flight) : List Byte :=
  busEnvelope (BitVec.ofNat 8 (unitAddr f.unit)) (BitVec.ofNat 8 f.cmd.code) f.cmd.payload

end Sys2Proof.Machine
end

