-- ==== Sys2Proof/Machine/Lamps.lean ====
section
/-! DEFINITION. Changing a slot record and deriving its lamp pattern again (R56). -/

namespace Sys2Proof.Machine

/-- Ask the Slot Bus Master for a LAMPS update for a module that is ONLINE (R30, R56). -/
def State.wantLamps (s : State) (m : ModIx) : State :=
  if s.online (modUnit m) then s.putUnit (modUnit m) { s.unit (modUnit m) with lampsWanted := true } else s

/-- Derive a slot's lamp pattern again: "If the newly derived pattern differs from the lamp field, the lamp field
takes it. If the slot's module is then ONLINE, the Slot Table asks … for a LAMPS update" (R56). -/
def State.relamp (s : State) (n : SlotNo) : State :=
  if s.lampOf n = (s.slot n).lamp then s
  else (s.putSlot n { s.slot n with lamp := s.lampOf n }).wantLamps (moduleOf n)

/-- Change fields of a slot record that are no input of its lamp. -/
def State.modSlot (s : State) (n : SlotNo) (f : SlotRec → SlotRec) : State := s.putSlot n (f (s.slot n))

/-- Change inputs of a slot's lamp, and derive it again. -/
def State.modSlotLamp (s : State) (n : SlotNo) (f : SlotRec → SlotRec) : State := (s.modSlot n f).relamp n

/-- Derive the lamps of some slots again (R3, R4). -/
def State.relampAll (s : State) (ns : List SlotNo) : State := ns.foldl State.relamp s

/-- Change a channel's record, and derive the lamp of its slot again: "The Release Unit tells the Slot Table of each
phase change of a channel" (R56). -/
def State.setPhase (s : State) (c : ChanNo) (x : Channel) : State :=
  match x.slot? with
  | some n => (s.putChan c x).relamp n
  | none => s.putChan c x

end Sys2Proof.Machine
end

