-- ==== Sys2Proof/Machine/Alerts.lean ====
section
/-! DEFINITION. The Alert Unit (chapter 8): raise, withdraw, acknowledge, promote, the line drive, and the cabinet
condition records. -/

namespace Sys2Proof.Machine

/-- A subject's alert fields, in the subject's own record (R131); none when the subject does not exist. -/
def State.alertOf (s : State) : Subject → Option AlertFields
  | .cabinet c => some (s.cond c).alert
  | .module u => some (s.unit u).alert
  | .slot n => some (s.slot n).alert
  | .key t => (s.entry? t).map (·.alert)
  | .booking b => (s.booking? b).map (·.alert)
  | .bin d => (s.drop? d).map (·.alert)

/-- Write a subject's alert fields; for a slot subject the lamp is derived again in the same event (R134, R56). -/
def State.setAlert (s : State) (subject : Subject) (f : AlertFields) : State :=
  match subject with
  | .cabinet c => s.putCond c { s.cond c with alert := f }
  | .module u => s.putUnit u { s.unit u with alert := f }
  | .slot n => s.modSlotLamp n fun r => { r with alert := f }
  | .key t => s.mapEntry t fun e => { e with alert := f }
  | .booking b => s.mapBooking b fun k => { k with alert := f }
  | .bin d => s.mapDrop d fun e => { e with alert := f }

/-- Judge the three lines again (R139). -/
def State.judgeLines (s : State) : State := s.setAlerts { s.alerts with lines := s.judgedLines }

/-- Change the Alert List; "After every change to the list the line drive is judged again" (R134). -/
def State.putAlertList (s : State) (l : List AlertRec) : State := (s.setAlerts { s.alerts with list := l }).judgeLines

/-- The subject's record in the Alert List. -/
def State.listed (s : State) (subject : Subject) : Option AlertRec := s.alerts.list.find? fun r => r.subject == subject

/-- The fields every alert report carries, with the counts as they now stand (R142, log 11). -/
def State.alertInfo (s : State) (subject : Subject) (c : AlertClass) : AlertInfo :=
  { subject, cls := c, listLen := s.alerts.list.length, waitLen := s.waiters.length }

def State.reportRaised (s : State) (subject : Subject) (c : AlertClass) (raised : Option Nat) (waiting : Bool) : State :=
  s.queueReport (.alertRaised (s.alertInfo subject c) (s.policyOf c).priority raised waiting)

def State.reportListed (s : State) (w : Waiter) : State :=
  s.queueReport (.alertListed (s.alertInfo w.subject w.cls) (s.policyOf w.cls).priority w.raised)

def State.reportCleared (s : State) (subject : Subject) (c : AlertClass) (why : ClearReason) (waiting : Bool) : State :=
  s.queueReport (.alertCleared (s.alertInfo subject c) why waiting)

/-- Cases 3 and 4 of R135 report the old class, when there is one, as REPLACED. -/
def State.reportReplaced (s : State) (subject : Subject) (old : Option AlertClass) (waiting : Bool) : State :=
  match old with
  | some c => s.reportCleared subject c .replaced waiting
  | none => s

/-- Case 3 of R135: "the record takes the new class and raised time, in its place". -/
def State.replaceListed (s : State) (subject : Subject) (f : AlertFields) (old c : AlertClass) : State :=
  (((s.setAlert subject { f with cls := some c }).putAlertList
      (s.alerts.list.map fun r => if r.subject = subject then { r with cls := c, raised := s.time } else r)).reportReplaced
    subject (some old) false).reportRaised subject c s.time false

/-- Cases 4 and 6 of R135: the subject's mark takes the class and raised time. -/
def State.markWaiting (s : State) (subject : Subject) (f : AlertFields) (c : AlertClass) : State :=
  s.setAlert subject { f with cls := some c, waiting := true, raised := s.time }

/-- Case 5 of R135: "a record is appended at the tail". -/
def State.appendRecord (s : State) (subject : Subject) (f : AlertFields) (c : AlertClass) (raised : Option Nat) : State :=
  (s.setAlert subject { f with cls := some c, waiting := false, raised := none }).putAlertList
    (s.alerts.list ++ [{ subject, cls := c, raised }])

/-- A block raises an alert: the first case of R135 that applies. -/
def State.raiseAlert (s : State) (subject : Subject) (c : AlertClass) : State :=
  match s.alertOf subject with
  | none => s
  | some f =>
    if (s.policyOf c).enabled = false then s
    else if f.acked = some c then s
    else
      match s.listed subject with
      | some r => s.replaceListed subject f r.cls c
      | none =>
        if f.waiting then
          ((s.markWaiting subject f c).reportReplaced subject f.cls true).reportRaised subject c s.time true
        else if s.alerts.list.length < Config.alertCap then
          (s.appendRecord subject f c s.time).reportRaised subject c s.time false
        else (s.markWaiting subject f c).reportRaised subject c s.time true

/-- One waiting subject enters the list (R137), which "holds at most 8 records" (R134): a record has just left it. -/
def State.promote (s : State) (w : Waiter) : State :=
  match s.alertOf w.subject with
  | some f => if s.alerts.list.length < Config.alertCap then s.appendRecord w.subject f w.cls w.raised else s
  | none => s

/-- A record has left the list: promotion, then ALERT_CLEARED and ALERT_LISTED in that order with the counts after
both (R136 to R138, R142, log 11). -/
def State.afterLeaving (s : State) (subject : Subject) (c : AlertClass) (why : ClearReason) : State :=
  match s.waitersInOrder with
  | [] => s.reportCleared subject c why false
  | w :: _ => ((s.promote w).reportCleared subject c why false).reportListed w

/-- A subject's record leaves the Alert List, with the acknowledged class its record then has. -/
def State.leaveList (s : State) (subject : Subject) (f : AlertFields) (acked : Option AlertClass) (c : AlertClass)
    (why : ClearReason) : State :=
  ((s.setAlert subject { f with cls := none, waiting := false, acked, raised := none }).putAlertList
    (s.alerts.list.filter fun r => r.subject != subject)).afterLeaving subject c why

/-- A subject's waiting mark is cleared. -/
def State.clearMark (s : State) (subject : Subject) (f : AlertFields) (acked : Option AlertClass) (c : AlertClass)
    (why : ClearReason) : State :=
  (s.setAlert subject { f with cls := none, waiting := false, acked, raised := none }).reportCleared subject c why true

/-- What a withdrawal leaves of an acknowledged class (R136). -/
def ackedAfter (acked : Option AlertClass) (cs : List AlertClass) : Option AlertClass :=
  match acked with
  | some a => if a ∈ cs then none else some a
  | none => none

/-- A block withdraws an alert by naming a subject and one or more classes (R136). -/
def State.withdrawAlert (s : State) (subject : Subject) (cs : List AlertClass) : State :=
  match s.alertOf subject with
  | none => s
  | some f =>
    let acked := ackedAfter f.acked cs
    let only := if acked = f.acked then s else s.setAlert subject { f with acked }
    match s.listed subject with
    | some r => if r.cls ∈ cs then s.leaveList subject f acked r.cls .withdrawn else only
    | none =>
      match f.cls with
      | some c => if f.waiting ∧ c ∈ cs then s.clearMark subject f acked c .withdrawn else only
      | none => only

/-- ALERT_ACK on a subject (R138): the class acknowledged and the state after, none where there is neither a record
nor a mark. -/
def State.ackAlert (s : State) (subject : Subject) : Option (AlertClass × State) :=
  match s.alertOf subject with
  | none => none
  | some f =>
    match s.listed subject with
    | some r => some (r.cls, s.leaveList subject f (some r.cls) r.cls .acknowledged)
    | none =>
      match f.cls with
      | some c => if f.waiting then some (c, s.clearMark subject f (some c) c .acknowledged) else none
      | none => none

/-! ### Cabinet conditions (R131) -/

/-- A condition begins: its record is set active and its class is raised. -/
def State.beginCond (s : State) (c : Condition) : State :=
  (s.putCond c { s.cond c with active := true }).raiseAlert (.cabinet c) c.cls

/-- A condition ends: its record is set inactive and its class is withdrawn. -/
def State.endCond (s : State) (c : Condition) : State :=
  (s.putCond c { s.cond c with active := false }).withdrawAlert (.cabinet c) [c.cls]

/-- A condition is judged again: it begins or ends only when it changes. -/
def State.judgeCond (s : State) (c : Condition) (want : Bool) : State :=
  if want = (s.cond c).active then s else if want then s.beginCond c else s.endCond c

/-- PANEL_OPEN "is active while the panel is OPEN, no service session is active, and the SERVICE_OVERRUN condition is
inactive" (R171). -/
def State.judgePanel (s : State) : State :=
  s.judgeCond .panelOpen (s.mode.panelOpen && !s.inSession && !(s.cond .serviceOverrun).active)

/-- CHUTE_NEAR_FULL "is active while the IN_BIN count is at or above the chute near-full level" (R109). -/
def State.judgeNearFull (s : State) : State := s.judgeCond .chuteNearFull (decide (s.params.nearFull ≤ s.inBinCount))

/-- CHUTE_LOCKED is active while flap wanted is LOCKED, or UNLOCKED with the flap refused mark set (R108). -/
def State.judgeChuteLocked (s : State) : State := s.judgeCond .chuteLocked (s.chute.wanted == .locked || s.chute.refused)

end Sys2Proof.Machine
end

