-- ==== Sys2Proof/Machine/Watch.lean ====
section
/-! DEFINITION. The Due Watch (chapter 7): the Due List, the watch stages and their alerts. -/

namespace Sys2Proof.Machine

/-- The Due List's order: ascending next deadline, then ascending booking number (R122). -/
def DueEntry.before (a b : DueEntry) : Bool :=
  if a.deadline ≠ b.deadline then a.deadline < b.deadline else a.booking < b.booking

/-- Take a booking's entry out of the Due List; "The entries behind it keep their order" (R128). -/
def State.dueRemove (s : State) (n : Nat) : State := s.setDueList (s.dueList.filter fun e => e.booking != n)

/-- Place a booking anew, "or leave it out if its stage has no further deadline" (R122). -/
def State.duePlace (s : State) (n : Nat) (deadline : Option Nat) : State :=
  match deadline with
  | some d =>
    s.setDueList (insertBy DueEntry.before { deadline := d, booking := n } (s.dueList.filter fun e => e.booking != n))
  | none => s.dueRemove n

/-- Set a booking's stored stage. -/
def State.setStage (s : State) (n : Nat) (st : Stage) : State := s.mapBooking n fun b => { b with stage := some st }

/-- Raise the class of a stage with the booking as subject (R124). -/
def State.raiseStage (s : State) (n : Nat) (st : Stage) : State :=
  match st.cls with
  | some c => s.raiseAlert (.booking n) c
  | none => s

/-- Withdraw a booking's stage alert (R128). -/
def State.withdrawStage (s : State) (n : Nat) : State := s.withdrawAlert (.booking n) stageClasses

/-- A booking goes to a stage: stage, alert, place in the Due List (R121, and the three steps of R123). -/
def State.toStage (s : State) (b : Booking) (st : Stage) : State :=
  ((s.setStage b.number st).raiseStage b.number st).duePlace b.number (b.nextDeadline st)

/-- A booking has just gone OUT (R121). Cabinet time is then always set. -/
def State.dueStart (s : State) (n : Nat) : State :=
  match s.booking? n, s.time with
  | some b, some t => s.toStage b (b.stageAt t)
  | _, _ => s

/-- Take the heads of the Due List whose next deadline is at or before `t`, each with the three steps of R123; the
number taken comes with the state. A booking taken gets a deadline after `t` or none, so the list's length bounds the
number of turns. -/
def State.advance (t : Nat) : Nat → State → Nat → State × Nat
  | 0, s, k => (s, k)
  | fuel + 1, s, k =>
    match s.dueList with
    | [] => (s, k)
    | e :: _ =>
      if e.deadline ≤ t then
        match s.booking? e.booking with
        | some b => State.advance t fuel (s.toStage b (b.stageAt t)) (k + 1)
        | none => State.advance t fuel (s.dueRemove e.booking) k
      else (s, k)

/-- A deadline expiry at the present cabinet time (R123). -/
def State.takeDeadlines (s : State) : State :=
  match s.time with
  | some t => (State.advance t s.dueList.length s 0).1
  | none => s

/-- The order of the stages. -/
def Stage.rank : Stage → Nat
  | .onTime => 0 | .due => 1 | .overdue => 2 | .escalated => 3

/-- An OUT booking has been amended: the table of R127, then the booking is re-placed. -/
def State.dueAmend (s : State) (n : Nat) : State :=
  match s.booking? n, s.time with
  | some b, some t =>
    let new := b.stageAt t
    let old := b.stage.getD .onTime
    let s1 :=
      if old.rank < new.rank then (s.setStage n new).raiseStage n new
      else if new.rank < old.rank then ((s.setStage n new).withdrawStage n).raiseStage n new
      else s
    s1.duePlace n (b.nextDeadline new)
  | _, _ => s

/-- The Due Watch's part of a return (R128). -/
def State.dueReturn (s : State) (n : Nat) : State := (s.dueRemove n).withdrawStage n

end Sys2Proof.Machine
end

