-- ==== Sys2Proof/Machine/Bookings.lean ====
section
/-! DEFINITION. The Booking Controller's changes of state (R60, R70 to R72) and its lookups. -/

namespace Sys2Proof.Machine

/-- The slots whose last release names a booking lose it (R9). -/
def State.clearLastRelease (s : State) (n : Nat) : State :=
  (s.slotList.filter fun p => p.2.lastRelease == some n).foldl
    (fun s p => s.modSlot p.1 fun r => { r with lastRelease := none }) s

/-- "Each time a booking leaves LOADED": last releases naming it are cleared and UNTAKEN is withdrawn (R60). -/
def State.leftLoaded (s : State) (n : Nat) : State := (s.clearLastRelease n).withdrawAlert (.booking n) [.untaken]

/-- Admission: LOADED to RELEASING with the release's source (R70). -/
def State.toReleasing (s : State) (n : Nat) (src : Source) : State :=
  (s.mapBooking n fun b => { b with state := .releasing, source := some src }).leftLoaded n

/-- A RELEASING booking goes back to LOADED; "every other field is kept" (R70). -/
def State.toLoaded (s : State) (n : Nat) : State := s.mapBooking n fun b => { b with state := .loaded }

/-- A take: RELEASING to OUT, handed to the Due Watch (R71). -/
def State.toOut (s : State) (n : Nat) : State :=
  (s.mapBooking n fun b => { b with state := .out, taken := s.time }).dueStart n

/-- A late take: LOADED to OUT, with the effects of leaving LOADED (R71). -/
def State.toOutLate (s : State) (n : Nat) : State :=
  ((s.mapBooking n fun b => { b with state := .out, taken := s.time }).leftLoaded n).dueStart n

/-- A return: OUT to RETURNED with time, place and lateness (R72). -/
def State.toReturned (s : State) (n : Nat) (place : Place) : State :=
  s.mapBooking n fun b =>
    { b with
      state := .returned
      returned := some { time := s.time, place }
      lateness := s.time.map fun t => lateness b.due t }

/-- A cancel: to CANCELLED, with the effects of leaving LOADED (R60, R67, R68). -/
def State.toCancelled (s : State) (n : Nat) : State :=
  (s.mapBooking n fun b => { b with state := .cancelled }).leftLoaded n

/-- The OUT booking of a key, at most one (R61). -/
def State.outBooking (s : State) (tag : Nat) : Option Booking :=
  s.bookings.find? fun b => b.key == tag && b.state == .out

/-- The booking of a key that is RELEASING or OUT (R21). -/
def State.custodyBooking (s : State) (tag : Nat) : Option Booking :=
  s.bookings.find? fun b => b.key == tag && b.inCustody

/-- The vehicle unit of a key's Directory entry. -/
def State.unitOfKey (s : State) (tag : Nat) : Option Nat := (s.entry? tag).map (·.unit)

/-- The key's missing flag is set and KEY_MISSING is raised (R5). -/
def State.setMissing (s : State) (tag : Nat) : State :=
  if (s.entry? tag).isSome then
    (s.mapEntry tag fun e => { e with missing := true }).raiseAlert (.key tag) .keyMissing
  else s

/-- The key's missing flag is cleared and KEY_MISSING is withdrawn (R5). -/
def State.clearMissing (s : State) (tag : Nat) : State :=
  if (s.entry? tag).isSome then
    (s.mapEntry tag fun e => { e with missing := false }).withdrawAlert (.key tag) [.keyMissing]
  else s

/-! ### Service Removal List (R173) -/

/-- The entry with a tag, if any, is removed: a tagged key has come back during a session. -/
def State.strikeRemoval (s : State) (tag : Nat) : State :=
  if s.inSession then s.setSession { s.session with removals := s.session.removals.filter fun r => r.tag != some tag }
  else s

/-- A service removal is noted; none when the list already holds 32 entries. -/
def State.noteRemoval (s : State) (tag : Option Nat) (n : SlotNo) : Option State :=
  if s.session.removals.length < Config.removalCap then
    some (s.setSession { s.session with removals := s.session.removals ++ [{ tag, slot := n, time := s.time }] })
  else none

end Sys2Proof.Machine
end

