-- ==== Sys2Proof/Machine/Release.lean ====
section
/-! DEFINITION. The Release Unit (chapter 5): the Release Queue, the latch channels, the grant arbiter, takes, expiries,
late takes, aborts and withdrawals, and the fault checks of latch replies (R45 to R49). -/

namespace Sys2Proof.Machine

/-! ### LATCH commands (R30) -/

/-- A LATCH command joins the pending set with the next age; "A command for a unit that is not ONLINE is not added"
(R30). -/
def State.addLatch (s : State) (n : SlotNo) (dir : LatchDir) (c : Option ChanNo) : State :=
  if s.slotOnline n then
    s.setBus { s.bus with
      latches := s.bus.latches ++ [{ slot := n, dir, channel := c, age := s.bus.nextAge, tries := 0 }]
      nextAge := s.bus.nextAge + 1 }
  else s

/-- The Release Unit withdraws a channel's LATCH commands that wait in the pending set (R28). -/
def State.withdrawLatch (s : State) (c : ChanNo) (dir : LatchDir) : State :=
  s.setBus { s.bus with latches := s.bus.latches.filter fun l => !(l.channel == some c && l.dir == dir) }

/-- A LATCH CLOSE takes the place of the OPEN that waits for a channel: its age, with no sending of its own missed (R89, log 20).
Where no OPEN waits it joins the pending set. -/
def State.closeForOpen (s : State) (n : SlotNo) (c : ChanNo) : State :=
  let isOpen (l : LatchCmd) : Bool := l.channel == some c && l.dir == .openIt
  if s.bus.latches.any isOpen then
    s.setBus { s.bus with
      latches := s.bus.latches.map fun l =>
        if isOpen l then { slot := n, dir := .closeIt, channel := some c, age := l.age, tries := 0 } else l }
  else s.addLatch n .closeIt (some c)

/-! ### Reports and notices (R97, R98) -/

def State.relInfo (s : State) (b : Nat) (n : SlotNo) : RelInfo := { booking := b, slot := n, key := (s.booking? b).map (·.key) }

/-- The source of a booking's latest admission (R58). -/
def State.sourceOf (s : State) (b : Nat) : Option Source := (s.booking? b).bind (·.source)

/-! ### Channels -/

/-- A slot becomes QUARANTINED, a fault kind joining its set if there is one; the module's quarantined count rises if it
was not QUARANTINED before (R44, R46, R47, R51, R52). -/
def State.quarantine (s : State) (n : SlotNo) (k : Option FaultKind) : State :=
  let was := (s.slot n).service
  let u := modUnit (moduleOf n)
  let s1 := s.modSlotLamp n fun r =>
    { r with
      service := .quarantined
      faults := match k with
        | some k => r.faults.add k
        | none => r.faults }
  if was = .quarantined then s1 else s1.putUnit u { s1.unit u with quarantined := (s1.unit u).quarantined + 1 }

/-- A channel takes phase FREE, and a QUARANTINE_PENDING slot becomes QUARANTINED in the same event (R91, R49). -/
def State.freeChannel (s : State) (c : ChanNo) : State :=
  match (s.chan c).slot? with
  | none => s
  | some n =>
    let s1 := s.putChan c .free
    if (s.slot n).service = .quarantinePending then (s1.modSlot n fun r => { r with channel := none }).quarantine n none
    else s1.modSlotLamp n fun r => { r with channel := none }

/-- A channel is freed without a take and with no close command: from OPENING or OPEN the booking goes to LOADED, the
slot's last release is set where the rule says so, RELEASE_ABORTED is queued and a kiosk is told; from CLOSING "the
booking is not changed" (R84, R89, R93, R94). -/
def State.abortChannel (s : State) (c : ChanNo) (cause : AbortCause) (setLast : Bool) : State :=
  let ended (n : SlotNo) (b : Nat) (phase : ReleasePhase) : State :=
    let s1 := (s.freeChannel c).toLoaded b
    let s2 := if setLast then s1.modSlot n fun r => { r with lastRelease := some b } else s1
    (s2.queueReport (.releaseAborted (s.relInfo b n) (s.sourceOf b) phase cause)).noticeFor (s.sourceOf b) b .aborted
  match s.chan c with
  | .opening n b => ended n b .opening
  | .opened n b _ => ended n b .opened
  | .closing _ _ _ => s.freeChannel c
  | .free => s

/-! ### The Release Queue -/

/-- An entry leaves the queue, and the slot's queued field becomes no (R79). -/
def State.dequeue (s : State) (e : QueueEntry) : State :=
  (s.setRelease { s.release with queue := s.release.queue.erase e }).modSlot e.slot fun r => { r with queued := false }

/-- An entry is aborted from the queue (R80). -/
def State.abortEntry (s : State) (e : QueueEntry) (cause : AbortCause) : State :=
  (((s.dequeue e).toLoaded e.booking).queueReport
    (.releaseAborted (s.relInfo e.booking e.slot) (some e.source) .queued cause)).noticeFor (some e.source) e.booking .aborted

/-- The grant check: "The slot must be IN_SERVICE, its module must be ONLINE, and the slot must be HELD with the
booking's key as its tag" (R83). -/
def State.grantCheck (s : State) (e : QueueEntry) : Bool :=
  let r := s.slot e.slot
  r.service == .inService && s.slotOnline e.slot && r.occ == .held
    && (match s.booking? e.booking with
        | some b => r.tag == some b.key
        | none => false)

/-- A grant: the entry leaves the queue, the channel takes phase OPENING, a LATCH OPEN command joins the pending set
(R83). -/
def State.grant (s : State) (e : QueueEntry) (c : ChanNo) : State :=
  let s1 := (s.setRelease { s.release with queue := s.release.queue.erase e }).putChan c (.opening e.slot e.booking)
  (s1.modSlotLamp e.slot fun r => { r with queued := false, channel := some c }).addLatch e.slot .openIt (some c)

/-- The lowest-numbered FREE channel (R83). -/
def State.freeChan (s : State) : Option ChanNo := allChannels.find? fun c => s.chan c == .free

/-- The grant arbiter's turns (R83). Each takes the head out of the queue, so the queue's length bounds them. -/
def State.arbiterTurns : Nat → State → State
  | 0, s => s
  | fuel + 1, s =>
    match s.release.queue with
    | [] => s
    | e :: _ =>
      if s.usedChannels < s.release.budget then
        match s.freeChan with
        | none => s
        | some c => State.arbiterTurns fuel (if s.grantCheck e then s.grant e c else s.abortEntry e .grantCheck)
      else s

/-- The grant arbiter runs (R83). -/
def State.arbiter (s : State) : State := State.arbiterTurns s.release.queue.length s

/-- An admitted request's entry joins the tail of the queue, and its slot's queued field becomes yes (R78, steps 2
and 3). -/
def State.enqueueRelease (s : State) (e : QueueEntry) : State :=
  (s.setRelease { s.release with queue := s.release.queue ++ [e] }).modSlot e.slot fun r => { r with queued := true }

/-- Every channel on some slots is freed, in ascending channel number (R93, R94). -/
def State.abortChannels (s : State) (on : SlotNo → Bool) (cause : AbortCause) : State :=
  allChannels.foldl
    (fun s c =>
      match (s.chan c).slot? with
      | some n => if on n then s.abortChannel c cause true else s
      | none => s) s

/-- Every Release Queue entry on some slots is aborted, in queue order (R93, R94). -/
def State.abortEntries (s : State) (on : SlotNo → Bool) (cause : AbortCause) : State :=
  (s.release.queue.filter fun e => on e.slot).foldl (fun s e => s.abortEntry e cause) s

/-! ### Takes, expiries and late takes -/

/-- The take of R86 on a channel that is OPEN, or in OPENING with the latch open (R89); `close` is how its LATCH CLOSE comes
into the pending set. -/
def State.take (s : State) (c : ChanNo) (n : SlotNo) (b : Nat) (close : State → State) : State :=
  let s1 := close ((s.setPhase c (.closing n b .taken)).toOut b)
  (s1.queueReport (.releaseTaken (s.relInfo b n) c (s.sourceOf b) s.time)).noticeFor (s.sourceOf b) b .taken

/-- The window of an OPEN channel expires (R87). -/
def State.expireWindow (s : State) (c : ChanNo) (n : SlotNo) (b : Nat) : State :=
  let s1 := ((s.setPhase c (.closing n b .expired)).toLoaded b).modSlot n fun r => { r with lastRelease := some b }
  let s2 := (s1.raiseAlert (.booking b) .untaken).addLatch n .closeIt (some c)
  (s2.queueReport (.releaseUntaken (s.relInfo b n) c (s.sourceOf b))).noticeFor (s.sourceOf b) b .untaken

/-- Another booking of the key that waits in the Release Queue is aborted with cause CUSTODY before a late take (R61,
R90). -/
def State.abortCustody (s : State) (b key : Nat) : State :=
  let other (e : QueueEntry) : Bool :=
    e.booking != b && (match s.booking? e.booking with
      | some k => k.key == key
      | none => false)
  match s.release.queue.find? other with
  | some e => s.abortEntry e .custody
  | none => s

/-- A late take of booking `b` from slot `n` (R90). -/
def State.lateTake (s : State) (n : SlotNo) (b key : Nat) (reconciled : Bool) : State :=
  let s1 := (s.abortCustody b key).toOutLate b
  s1.queueReport (.releaseTakenLate (s.relInfo b n) (s.sourceOf b) s.time reconciled)

/-- The booking a removal of a key from a slot would take late: the last release names it, it is LOADED, and its key is
the removed key (R16, case 1). -/
def State.lateBooking (s : State) (n : SlotNo) (tag : Option Nat) : Option Nat :=
  match tag, (s.slot n).lastRelease with
  | some t, some b =>
    match s.booking? b with
    | some k => if k.state = .loaded ∧ k.key = t then some b else none
    | none => none
  | _, _ => none

/-! ### Withdrawal by cancel -/

/-- The open command of a channel has been sent at least once: it is in flight, or waits after a miss (R95). -/
def State.openSent (s : State) (c : ChanNo) : Bool :=
  s.bus.latches.any (fun l => l.channel == some c && l.dir == .openIt && l.tries != 0)
    || (match s.bus.flight with
        | some f =>
          match f.cmd with
          | .latch l => l.channel == some c && l.dir == .openIt
          | _ => false
        | none => false)

/-- The channel a booking holds in OPENING or OPEN. -/
def State.chanOfBooking (s : State) (b : Nat) : Option ChanNo :=
  allChannels.find? fun c =>
    match s.chan c with
    | .opening _ k => k == b
    | .opened _ k _ => k == b
    | _ => false

/-- RELEASE_WITHDRAWN, and ABORTED to a kiosk (R68, R95). -/
def State.reportWithdrawn (s : State) (info : RelInfo) (src : Option Source) (phase : ReleasePhase) : State :=
  (s.queueReport (.releaseWithdrawn info src phase)).noticeFor src info.booking .aborted

/-- A cancel of a queued booking (R68). -/
def State.cancelQueued (s : State) (e : QueueEntry) : State :=
  ((s.dequeue e).toCancelled e.booking).reportWithdrawn (s.relInfo e.booking e.slot) (s.sourceOf e.booking) .queued

/-- A cancel of a booking that holds a channel in OPENING or OPEN (R95). -/
def State.cancelChannel (s : State) (c : ChanNo) : State :=
  let close (s : State) (n : SlotNo) (b : Nat) : State :=
    ((s.withdrawLatch c .openIt).setPhase c (.closing n b .withdrawn)).addLatch n .closeIt (some c)
  match s.chan c with
  | .opening n b =>
    let s1 := if s.openSent c then close s n b else (s.withdrawLatch c .openIt).freeChannel c
    (s1.toCancelled b).reportWithdrawn (s.relInfo b n) (s.sourceOf b) .opening
  | .opened n b _ =>
    ((close s n b).toCancelled b).reportWithdrawn (s.relInfo b n) (s.sourceOf b) .opened
  | _ => s

/-! ### Slot faults (R46 to R48, R54) -/

/-- A SLOT_FAULT report with the slot's service state and slow count as they now stand (R54). -/
def State.reportFault (s : State) (n : SlotNo) (b : Option Nat) (k : FaultKind) (latch : Option (Nat × LatchDir)) : State :=
  s.queueReport (.slotFault
    { slot := n, booking := b, kind := k, service := (s.slot n).service, slow := (s.slot n).slow, latch })

/-- A coil fault or jam: the slot is QUARANTINED with the fault, reported, and SLOT_FAULT is raised (R46, steps 2 to 5;
R47). -/
def State.latchFault (s : State) (n : SlotNo) (b : Option Nat) (k : FaultKind) (travel : Nat) (dir : LatchDir) : State :=
  ((s.quarantine n (some k)).reportFault n b k (some (travel, dir))).raiseAlert (.slot n) .slotFault

/-- A slow open (R48). -/
def State.slowOpen (s : State) (n : SlotNo) (b : Option Nat) (travel : Nat) : State :=
  let slow := min ((s.slot n).slow + 1) Config.slowLimit
  let third := slow = Config.slowLimit ∧ (s.slot n).service ≠ .quarantined
  let s1 := s.modSlotLamp n fun r =>
    { r with slow, service := if slow = Config.slowLimit ∧ r.service = .inService then .quarantinePending else r.service }
  let s2 := s1.reportFault n b .slowLatch (some (travel, .openIt))
  if third then s2.raiseAlert (.slot n) .slotFault else s2

/-! ### Latch replies (R84, R91, R92) -/

/-- A good or slow open for a channel in OPENING (R84). -/
def State.openChannel (s : State) (c : ChanNo) (n : SlotNo) (b travel : Nat) : State :=
  let deadline := addTime (s.time.getD 0) s.params.window
  let s1 := s.setPhase c (.opened n b deadline)
  (s1.queueReport (.releaseGranted (s.relInfo b n) c (s.sourceOf b) deadline travel)).noticeFor (s.sourceOf b) b (.opened n)

/-- The channel still holds the slot a LATCH command was queued for. -/
def State.chanHolds (s : State) (l : LatchCmd) : Option ChanNo :=
  match l.channel with
  | some c => if (s.chan c).slot? = some l.slot then some c else none
  | none => none

/-- The Release Unit's part of an OPEN reply: phase OPENING by R84, CLOSING by R92; a freed channel is passed over (R84). -/
def State.openReplyChannel (s : State) (l : LatchCmd) (k : LatchClass) (travel : Nat) : State :=
  match s.chanHolds l with
  | none => s
  | some c =>
    match s.chan c, k with
    | .opening _ _, .fault _ => s.abortChannel c .latchFault true
    | .opening n b, _ => s.openChannel c n b travel
    | .closing _ _ _, .fault _ => (s.withdrawLatch c .closeIt).freeChannel c
    | _, _ => s

/-- The booking of the channel a LATCH command was queued for (R54). -/
def State.latchBooking (s : State) (l : LatchCmd) : Option Nat :=
  match s.chanHolds l with
  | some c => (s.chan c).booking?
  | none => none

/-- A delivered OPEN reply for a channel (R84, R92, R45 to R48). -/
def State.openReply (s : State) (l : LatchCmd) (r : LatchReply) : State :=
  let k := latchClass s.params.slowLatch .openIt r
  let b := s.latchBooking l
  let s1 := s.openReplyChannel l k r.travel
  match k with
  | .good => s1
  | .slow => s1.slowOpen l.slot b r.travel
  | .fault f => s1.latchFault l.slot b f r.travel .openIt

/-- A delivered CLOSE reply for a channel (R91, R47). -/
def State.closeReply (s : State) (l : LatchCmd) (r : LatchReply) : State :=
  let b := s.latchBooking l
  let s1 := match s.chanHolds l with
    | some c =>
      match s.chan c with
      | .closing _ _ _ => s.freeChannel c
      | _ => s
    | none => s
  match latchClass s.params.slowLatch .closeIt r with
  | .fault f => s1.latchFault l.slot b f r.travel .closeIt
  | _ => s1

/-! ### TIME_SET and the windows (R85) -/

/-- The window deadline of an OPEN channel moves by the difference of the times, held at the top of the count (R85,
R116). -/
def moveDeadline (old new deadline : Nat) : Nat := min (deadline + new - old) Config.maxTime

def Channel.shift (old new : Nat) : Channel → Channel
  | .opened n b d => .opened n b (moveDeadline old new d)
  | c => c

/-- Every OPEN channel's window deadline is moved (R85). -/
def State.shiftWindows (s : State) (old new : Nat) : State :=
  allChannels.foldl (fun s c => s.putChan c ((s.chan c).shift old new)) s

end Sys2Proof.Machine
end

