-- ==== Sys2Proof/Machine/Units.lean ====
section
/-! DEFINITION. Units leaving ONLINE: recovery (R36), retirement (R38), HOLD (R40), and the MODULE_STATE and START
reports (R41, R170). -/

namespace Sys2Proof.Machine

/-- MODULE_STATE, with the unit's state and recovery attempts as they now stand (R41, log 16). -/
def State.moduleState (s : State) (u : UnitIx) (old : UnitState) : State :=
  s.queueReport (.moduleState u old (s.unit u).state (s.unit u).attempts)

/-- A START probe is still to end: some unit keeps probe cause START (R41). -/
def State.startProbesLeft (s : State) : Bool := allUnits.any fun u => (s.unit u).cause == some .start

/-- "In the same event, Cabinet Mode Control queues the START report" when the last START probe has ended; once
(R170, log 14). -/
def State.startCheck (s : State) : State :=
  if s.mode.startReported || s.startProbesLeft then s
  else
    (s.setMode { s.mode with startReported := true }).queueReport
      (.start s.mode.cause s.mode.rate s.kiosk.enabled s.mode.strapFault s.mode.level s.mode.startOnline)

/-- A transaction in flight to a unit has lost the state its reply needs (R26, R38, log 19). -/
def State.markStale (s : State) (u : UnitIx) : State :=
  match s.bus.flight with
  | some f => if f.unit = u then s.setBus { s.bus with flight := some { f with stale := true } } else s
  | none => s

/-- What becomes of a slot whose module leaves ONLINE (R8): a HELD slot keeps its tag as the last-seen tag. -/
def SlotRec.lost (r : SlotRec) (time : Option Nat) : SlotRec :=
  match r.occ with
  | .held => { r with occ := .unknown, since := time }
  | .empty => { r with occ := .unknown, tag := none, since := time }
  | .heldNoTag => { r with occ := .unknown, tag := none, since := time }
  | .unknown => r

/-- "each of its 16 slots becomes UNKNOWN" (R8). -/
def State.slotsUnknown (s : State) (m : ModIx) : State :=
  positions.foldl (fun s p => s.modSlotLamp (slotAt m p) fun r => r.lost s.time) s

/-- The unit's commands leave the pending set (R30, R36 step 2); FLAP and STATUS stand there only while it is ONLINE. -/
def State.dropCommands (s : State) (u : UnitIx) : State :=
  (s.setBus { s.bus with latches := s.bus.latches.filter fun l => modUnit (moduleOf l.slot) != u }).putUnit u
    { s.unit u with lampsWanted := false }

/-- A unit leaves ONLINE for RECOVERY or RETIRED: its state, then steps 2 to 4 of R36; step 5 changes nothing
(R93, R114). -/
def State.leaveOnline (s : State) (u : UnitIx) (new : UnitState) : State :=
  let s1 := ((s.putUnit u { s.unit u with state := new }).dropCommands u).markStale u
  match unitMod u with
  | none => s1
  | some m =>
    let on (n : SlotNo) : Bool := moduleOf n == m
    ((s1.slotsUnknown m).abortChannels on .moduleOffline).abortEntries on .moduleOffline

/-- A module's quarantined count has risen to 16 (R38). An ABSENT or RETIRED module stays as it is. MODULE_STATE
comes before the START report where this ends the last START probe (log 10). -/
def State.retire (s : State) (m : ModIx) : State :=
  let u := modUnit m
  match (s.unit u).state with
  | .online => (s.leaveOnline u .retired).moduleState u .online
  | .probing =>
    (((s.markStale u).putUnit u { s.unit u with state := .retired, cause := none }).moduleState u .probing).startCheck
  | .recovery => (s.putUnit u { s.unit u with state := .retired, retry := none }).moduleState u .recovery
  | .dark => s.putUnit u { s.unit u with retireMark := true }
  | _ => s

/-- "A module is retired at the moment its count rises to 16, not while it stands at 16" (R38): `before` is the count
the event began with. -/
def State.fullNow (s : State) (m : ModIx) (before : Nat) : Bool :=
  decide (before < Config.moduleSlots) && decide (Config.moduleSlots ≤ (s.unit (modUnit m)).quarantined)

def State.retireIfRisen (s : State) (m : ModIx) (before : Nat) : State := if s.fullNow m before then s.retire m else s

/-- The quarantined count of a module. -/
def State.quarantinedOf (s : State) (m : ModIx) : Nat := (s.unit (modUnit m)).quarantined

/-- The third miss of an ONLINE unit (R36, in its order); the arbiter of R93 step 6 runs last. -/
def State.recover (s : State) (u : UnitIx) : State :=
  let s1 := s.putUnit u { s.unit u with retry := some 2, resync := false, misses := Config.missLimit }
  let s2 := (((s1.leaveOnline u .recovery).raiseAlert (.module u) .moduleLost)).moduleState u .online
  match unitMod u with
  | some m => (s2.retireIfRisen m (s.quarantinedOf m)).arbiter
  | none => s2

/-! ### HOLD (R40) -/

/-- What HOLD makes of a unit record. -/
def UnitRec.darken (r : UnitRec) : UnitRec :=
  let dark (c : Option ProbeCause) : UnitRec :=
    { r with state := .dark, cause := c, misses := 0, retry := none, resync := false, lampsWanted := false }
  match r.state with
  | .probing => dark r.cause
  | .online => dark (some .holdEnd)
  | .recovery => dark (some .holdEnd)
  | _ => r

/-- A unit's record and its slots at entry to HOLD: the slots of a module that was ONLINE become UNKNOWN. -/
def State.darkenUnit (s : State) (u : UnitIx) : State :=
  let s1 := s.putUnit u (s.unit u).darken
  match unitMod u with
  | some m => if s.online u then s1.slotsUnknown m else s1
  | none => s1

/-- Entry to HOLD for the Slot Bus Master (R40). -/
def State.unitsDark (s : State) : State :=
  let s1 := s.setBus { s.bus with latches := [], lastPolled := none, flight := none }
  let s2 := allUnits.foldl State.darkenUnit s1
  s2.setChute { s2.chute with confirmed := .locked }

/-- A unit on leaving HOLD: PROBING with the cause it holds, or RETIRED if it is marked (R40, R38); MODULE_STATE comes before
the START report where this ends the last START probe (log 10). -/
def State.lightUnit (s : State) (u : UnitIx) : State :=
  let r := s.unit u
  match r.state with
  | .dark =>
    if r.retireMark then
      ((s.putUnit u { r with state := .retired, cause := none, retireMark := false }).moduleState u .dark).startCheck
    else s.putUnit u { r with state := .probing }
  | _ => s

/-- All units on leaving HOLD, in ascending address (R167, step 3). -/
def State.unitsLight (s : State) : State := allUnits.foldl State.lightUnit s

end Sys2Proof.Machine
end

