-- ==== Sys2Proof/Machine/Intake.lean ====
section
/-! DEFINITION. The Intake Unit (chapter 6): insertions handed on, returns, drops, the Drop Bin List, the hatch and the
flap. -/

namespace Sys2Proof.Machine

/-! ### The flap (R107, R108) -/

/-- Flap wanted "is LOCKED while the list holds 48 IN_BIN entries or holds 64 entries, and UNLOCKED otherwise" (R107). -/
def State.judgedFlap (s : State) : FlapPos :=
  if Config.binLock ≤ s.inBinCount ∨ Config.binCap ≤ s.bin.entries.length then .locked else .unlocked

/-- Judge flap wanted again; becoming LOCKED clears the flap refused mark (R107, R108). -/
def State.judgeFlap (s : State) : State :=
  let want := s.judgedFlap
  if want = s.chute.wanted then s
  else
    (s.setChute { s.chute with wanted := want, refused := if want = .locked then false else s.chute.refused }).judgeChuteLocked

/-- A delivered reply reports the flap; `unlockSent` says it answers an UNLOCK command (R42, R108). -/
def State.confirmFlap (s : State) (pos : FlapPos) (unlockSent : Bool) : State :=
  let refused := match pos with
    | .unlocked => false
    | .locked => s.chute.refused || unlockSent
  (s.setChute { s.chute with confirmed := pos, refused }).judgeChuteLocked

/-! ### Entries leaving the list (R111) -/

/-- The four steps of R111, with the withdrawal made while the record is still there to carry it. -/
def State.binLeave (s : State) (e : DropEntry) : State :=
  let s1 := s.withdrawAlert (.bin e.number) [.unslottedKey]
  let s2 := s1.setBin { s1.bin with entries := s1.bin.entries.filter fun x => x.number != e.number }
  (if e.state = .inBin then s2.judgeNearFull else s2).judgeFlap

/-- A re-slot: the entry with the inserted tag leaves, and BIN_RESLOTTED is queued (R101 step 1, R111). -/
def State.reslot (s : State) (n : SlotNo) (t : Nat) : State :=
  match s.dropOfKey t with
  | some e => (s.binLeave e).queueReport (.binReslotted n t e.number e.state e.dropped)
  | none => s

/-! ### Returns (R102, R106) -/

/-- The RETURN report of a booking that is now RETURNED, from its record before the return. -/
def State.reportReturn (s : State) (b : Booking) (place : Place) (misplaced : Bool) : State :=
  s.queueReport (.returned
    { booking := b.number, key := b.key, place, unit := s.unitOfKey b.key, taken := b.taken, due := b.due
      returned := s.time
      lateness := match s.time with
        | some t => lateness b.due t
        | none => 0
      stage := b.stage, source := b.source, misplaced })

/-- A return at a slot (R102). -/
def State.returnAtSlot (s : State) (b : Booking) (n : SlotNo) (misplaced : Bool) : State :=
  ((s.toReturned b.number (.slot n)).reportReturn b (.slot n) misplaced).dueReturn b.number

/-- KEY_PLACED, with its flags (R103). -/
def State.reportPlaced (s : State) (n : SlotNo) (tag : Option Nat) (misplaced duplicate : Bool) : State :=
  let entry := tag.bind s.entry?
  s.queueReport (.keyPlaced
    { slot := n, tag, unit := entry.map (·.unit)
      home := match entry with
        | some e => e.home == some n
        | none => false
      misplaced
      foreign := tag.isSome && entry.isNone
      duplicate })

/-- The Intake Unit takes an insertion the Slot Table has applied (R101): `tag` if the slot is now HELD, `duplicate` for
a tag found in conflict. -/
def State.handOn (s : State) (n : SlotNo) (tag : Option Nat) (duplicate : Bool) : State :=
  let misplaced := s.misplaced n
  match tag with
  | none => s.reportPlaced n none misplaced duplicate
  | some t =>
    let s1 := s.reslot n t
    let s2 := match s1.outBooking t with
      | some b => s1.returnAtSlot b n misplaced
      | none => s1.reportPlaced n (some t) misplaced duplicate
    s2.strikeRemoval t

/-! ### Drops (R100, R104 to R106) -/

/-- The count's number, or the next one not in use; as many turns as there are entries find one (R100). -/
def nextFree (used : List Nat) : Nat → Nat → Nat
  | 0, n => n
  | fuel + 1, n => if n ∈ used then nextFree used fuel ((n + 1) % 65536) else n

/-- The drop number of the next recorded drop. -/
def State.dropNumber (s : State) : Nat :=
  nextFree (s.bin.entries.map (·.number)) s.bin.entries.length s.bin.nextDrop

/-- The last-seen tag of an UNKNOWN slot is cleared; the slot stays UNKNOWN (R8), and its since is left (log 29). -/
def State.clearLastSeen (s : State) (t : Nat) (but : Option SlotNo) : State :=
  (s.slotList.filter fun p => p.2.occ == .unknown && p.2.tag == some t && but != some p.1).foldl
    (fun s p => s.modSlotLamp p.1 fun r => { r with tag := none }) s

/-- A drop at a limit: only a report (R104), with its conflict and foreign flags clear (log 28). -/
def State.dropUnrecorded (s : State) (tag : Option Nat) : State :=
  s.queueReport (.chuteDrop
    { drop := none, tag, booking := none, unread := tag.isNone, conflict := false, foreign := false
      notRecorded := true, inBin := s.inBinCount, count := s.bin.entries.length })

/-- The tag is held live by a slot, or is the tag of another entry (R105, step 2). -/
def State.dropConflict (s : State) (tag : Option Nat) : Bool :=
  match tag with
  | some t => s.heldLive t none || (s.dropOfKey t).isSome
  | none => false

/-- Steps 1 to 3 of R105: the entry with its number, tag and foreign flag, and the last-seen tag cleared. -/
def State.addDrop (s : State) (d : Nat) (tag : Option Nat) (foreign : Bool) : State :=
  let s1 := s.setBin
    { entries := s.bin.entries ++
        [{ number := d, tag, foreign, state := .inBin, dropped := s.time, handed := none, age := 0
           unslotted := false, booking := none, alert := .clear }]
      nextDrop := (d + 1) % 65536 }
  match tag with
  | some t => s1.clearLastSeen t none
  | none => s1

/-- Step 5 of R105, as far as the records: the booking is RETURNED and the entry names it (R106). -/
def State.closeByDrop (s : State) (d : Nat) (b : Option Booking) : State :=
  match b with
  | some b => (s.toReturned b.number (.drop d)).mapDrop d fun e => { e with booking := some b.number }
  | none => s

/-- RETURN and the withdrawal of the stage alert, which follow CHUTE_DROP (R106). -/
def State.reportDropReturn (s : State) (d : Nat) (b : Option Booking) : State :=
  match b with
  | some b => (s.reportReturn b (.drop d) false).dueReturn b.number
  | none => s

/-- A recorded drop (R105). -/
def State.dropRecorded (s : State) (tag : Option Nat) : State :=
  let d := s.dropNumber
  let conflict := s.dropConflict tag
  let kept := if conflict then none else tag
  let foreign := match kept with
    | some t => (s.entry? t).isNone
    | none => false
  let s1 := s.addDrop d kept foreign
  let s2 := match tag with
    | some t => s1.clearMissing t
    | none => s1
  let out := kept.bind s2.outBooking
  let s3 := s2.closeByDrop d out
  let s4 := match kept with
    | some t => s3.strikeRemoval t
    | none => s3
  let s5 := s4.queueReport (.chuteDrop
    { drop := some d, tag, booking := out.map (·.number), unread := tag.isNone, conflict, foreign
      notRecorded := false, inBin := s4.inBinCount, count := s4.bin.entries.length })
  ((s5.reportDropReturn d out).judgeNearFull).judgeFlap

/-- A DROP entry handed to the Intake Unit (R104). -/
def State.drop (s : State) (tag : Option Nat) : State :=
  if Config.binCap ≤ s.bin.entries.length ∨ Config.binLock ≤ s.inBinCount then s.dropUnrecorded tag
  else s.dropRecorded tag

/-! ### The hatch (R42, R110) -/

/-- An IN_BIN entry becomes IN_HAND (R110, step 1). -/
def DropEntry.hand (e : DropEntry) (time : Option Nat) : DropEntry :=
  if e.state = .inBin then { e with state := .inHand, handed := time, age := 0 } else e

/-- The lowest and the highest of some numbers. -/
def span : List Nat → Option (Nat × Nat)
  | [] => none
  | n :: ns => some (ns.foldl min n, ns.foldl max n)

/-- HATCH_OPENED handed to the Intake Unit (R110). -/
def State.hatchOpened (s : State) : State :=
  let moved := (s.bin.entries.filter fun e => e.state == .inBin).map (·.number)
  let s1 := s.setBin { s.bin with entries := s.bin.entries.map fun e => e.hand s.time }
  let s2 := (s1.judgeNearFull).judgeFlap
  s2.queueReport (.binEmptied moved.length s2.bin.entries.length (span moved))

/-- A hatch state reported: taken when it differs, and an opening is handed on; a closing changes nothing more (R42,
R110). -/
def State.seeHatch (s : State) (isOpen : Bool) : State :=
  if isOpen = s.chute.hatchOpen then s
  else
    let s1 := s.setChute { s.chute with hatchOpen := isOpen }
    if isOpen then s1.hatchOpened else s1

/-! ### Keys in hand (R113) -/

/-- The age of an IN_HAND entry rises by 1, up to 7,200. -/
def DropEntry.older (e : DropEntry) : DropEntry :=
  match e.state with
  | .inHand => { e with age := min (e.age + 1) Config.ageMax }
  | .inBin => e

/-- IN_HAND, not yet unslotted, and at or above the unslotted limit in seconds. -/
def State.unslottedDue (s : State) (e : DropEntry) : Bool :=
  e.state == .inHand && !e.unslotted && decide (60 * s.params.unslotted ≤ e.age)

/-- Every such entry, in drop order, is marked unslotted and UNSLOTTED_KEY is raised. -/
def State.markUnslotted (s : State) : State :=
  (s.bin.entries.filter s.unslottedDue).foldl
    (fun s e => (s.mapDrop e.number fun x => { x with unslotted := true }).raiseAlert (.bin e.number) .unslottedKey) s

end Sys2Proof.Machine
end

