-- ==== Sys2Proof/Machine/SlotEvents.lean ====
section
/-! DEFINITION. Insertions, removals and tag learning (R11 to R17), sensor chatter (R50, R51), the start-up fill and
reconciliation (R18 to R20), and stray closes (R29). -/

namespace Sys2Proof.Machine

/-! ### Sensor chatter -/

/-- The queue entry of a slot, if it has one. -/
def State.entryOf (s : State) (n : SlotNo) : Option QueueEntry := s.release.queue.find? fun e => e.slot == n

/-- The seventh change: the slot is quarantined, its queue entry aborted, and its module retired if that makes sixteen
(R51, R38). The entry's RELEASE_ABORTED follows the SLOT_FAULT report and its alert (log 10). -/
def State.chatterFault (s : State) (n : SlotNo) : State :=
  let s1 := ((s.quarantine n (some .sensorChatter)).reportFault n none .sensorChatter none).raiseAlert (.slot n) .slotFault
  let s2 := match s1.entryOf n with
    | some e => s1.abortEntry e .quarantine
    | none => s1
  s2.retireIfRisen (moduleOf n) (s.quarantinedOf (moduleOf n))

/-- The chatter window after a counted change at cabinet time `t` (R50). -/
def SlotRec.counted (r : SlotRec) (t : Nat) : SlotRec :=
  match r.chatterStart with
  | none => { r with chatterStart := some t, chatter := 1 }
  | some w =>
    if t < w ∨ w + Config.chatterWindow ≤ t then { r with chatterStart := some t, chatter := 1 }
    else { r with chatter := min (r.chatter + 1) Config.chatterLimit }

/-- A presence change on a slot without a channel is counted (R50), after it has been handed on. -/
def State.countChange (s : State) (n : SlotNo) : State :=
  match s.time with
  | none => s
  | some t =>
    if (s.slot n).faults.sensorChatter then s
    else
      let s1 := s.modSlot n fun r => r.counted t
      if Config.chatterLimit ≤ (s1.slot n).chatter then s1.chatterFault n else s1

/-! ### Removals (R15 to R17) -/

/-- A forced removal: the missing flag and its raise, then KEY_REMOVED_FORCED (R17). -/
def State.forced (s : State) (n : SlotNo) (tag : Option Nat) : State :=
  match tag with
  | some t =>
    let known := (s.entry? t).isSome
    (s.setMissing t).queueReport (.keyRemovedForced n (if known then some t else none) (s.unitOfKey t) none false)
  | none => s.queueReport (.keyRemovedForced n none none none false)

/-- The classification of R16. `latch` is the latch state of the change entry, none for reconciliation, which drops the
latch condition of case 1 (R19). -/
def State.classify (s : State) (n : SlotNo) (tag : Option Nat) (latch : Option Bool) : State :=
  let late := if latch = some false then none else s.lateBooking n tag
  match late, tag with
  | some b, some t => s.lateTake n b t latch.isNone
  | _, _ =>
    if s.inSession then
      match s.noteRemoval tag n with
      | some s1 => s1
      | none => s.forced n tag
    else s.forced n tag

/-- The Slot Table's part of a removal: EMPTY, no tag, since set, last release kept, and the slot's key alerts
withdrawn (R15). -/
def State.emptySlot (s : State) (n : SlotNo) : State :=
  (s.modSlotLamp n fun r => { r with occ := .empty, tag := none, since := s.time }).withdrawAlert (.slot n)
    [.foreignKey, .duplicateTag]

/-- A removal handed to the Release Unit, by the phase of the slot's channel (R86, R88, R89); `back` is what the Slot Table
does with a removal handed back to it. -/
def State.removalOnChannel (s : State) (c : ChanNo) (n : SlotNo) (latch : Option Bool) (back : State → State) : State :=
  match s.chan c with
  | .opened _ b _ => s.take c n b fun s => s.addLatch n .closeIt (some c)
  | .opening _ b =>
    if latch = some true then s.take c n b fun s => s.closeForOpen n c
    else back ((s.withdrawLatch c .openIt).abortChannel c .keyGone false)
  | _ => back s

/-- A presence change is counted unless the slot held a channel when it was taken (R50). -/
def State.countUnless (s : State) (held : Bool) (n : SlotNo) : State := if held then s else s.countChange n

/-- A removal from a slot: the Slot Table's part, the hand-off to the Release Unit when the slot holds a channel, and
otherwise `back`; then the count of R50 (R15). -/
def State.removalWith (s : State) (n : SlotNo) (latch : Option Bool) (back : State → State) : State :=
  let r := s.slot n
  let s1 := s.emptySlot n
  let s2 := match r.channel with
    | some c => s1.removalOnChannel c n latch back
    | none => back s1
  s2.countUnless r.channel.isSome n

/-- A removal, classified by R16 where no channel takes it (R15). -/
def State.removal (s : State) (n : SlotNo) (latch : Option Bool) : State :=
  s.removalWith n latch fun s1 => s1.classify n (s.slot n).tag latch

/-- The removal half of a move: as R15 states, "but the removal is not classified" (R19, log 26). -/
def State.moveOut (s : State) (n : SlotNo) : State := s.removalWith n none id

/-! ### Insertions (R12, R13) -/

/-- A SLOT_FAULT alert stands on a slot, listed or waiting: no FOREIGN_KEY or DUPLICATE_TAG is raised there (R12). -/
def State.faultStands (s : State) (n : SlotNo) : Bool := (s.slot n).alert.cls == some .slotFault

/-- A raise of R12, R13 or R19 on a slot. -/
def State.raiseOnSlot (s : State) (n : SlotNo) (c : AlertClass) : State :=
  if s.faultStands n then s else s.raiseAlert (.slot n) c

/-- The slot takes a key: occupancy, tag and since are set, and last release is cleared (R12, R13, R9). -/
def State.fillWith (s : State) (n : SlotNo) (occ : Occupancy) (tag : Option Nat) : State :=
  s.modSlotLamp n fun r => { r with occ, tag, since := s.time, lastRelease := none }

/-- An UNKNOWN slot other than `n` has the tag as its last-seen tag (R12, case 2). -/
def State.lastSeenElsewhere (s : State) (t : Nat) (n : SlotNo) : Bool :=
  s.slotList.any fun p => p.2.occ == .unknown && p.2.tag == some t && n != p.1

/-- An insertion of a read tag: the three cases of R12, the missing flag, and the hand-off. -/
def State.insertTag (s : State) (n : SlotNo) (t : Nat) : State :=
  if s.heldLive t (some n) then
    (((s.fillWith n .heldNoTag none).raiseOnSlot n .duplicateTag).clearMissing t).handOn n none true
  else if s.lastSeenElsewhere t n then
    (((s.clearLastSeen t (some n)).fillWith n .held (some t)).clearMissing t).handOn n (some t) false
  else
    let s1 := s.fillWith n .held (some t)
    let s2 := if (s.entry? t).isNone then s1.raiseOnSlot n .foreignKey else s1
    (s2.clearMissing t).handOn n (some t) false

/-- An insertion, tagged or unread (R12, R13), counted by R50. -/
def State.insertion (s : State) (n : SlotNo) (tag : Option Nat) : State :=
  let s1 := match tag with
    | some t => s.insertTag n t
    | none => (s.fillWith n .heldNoTag none).handOn n none false
  s1.countUnless (s.slot n).channel.isSome n

/-- A HELD_NOTAG slot learns its tag (R13): since and last release are unchanged, and nothing happens on a conflict. FOREIGN_KEY
of a foreign tag replaces a DUPLICATE_TAG that stands on the slot (log 27). -/
def State.learnTag (s : State) (n : SlotNo) (t : Nat) : State :=
  if s.heldLive t (some n) then s
  else
    let s1 := (s.modSlotLamp n fun r => { r with occ := .held, tag := some t }).clearLastSeen t (some n)
    let s2 := if (s.entry? t).isNone then s1.raiseOnSlot n .foreignKey else s1
    (s2.clearMissing t).handOn n (some t) false

/-! ### Change entries of a POLL reply (R11) -/

/-- A removal the part did not see, then the insertion; nothing follows if the module was retired meanwhile (log 13). -/
def State.replaceKey (s : State) (n : SlotNo) (latch : Bool) (tag : Option Nat) : State :=
  let s1 := s.removal n (some latch)
  if s1.slotOnline n then s1.insertion n tag else s1

/-- One change entry of a slot module against the slot's record: the table of R11. -/
def State.moduleEntry (s : State) (m : ModIx) (e : ModuleEntry) : State :=
  let n := slotAt m e.pos
  let r := s.slot n
  if s.slotOnline n then
    match r.occ, e.change with
    | .unknown, _ => s
    | .empty, .removed => s
    | .empty, .inserted t => s.insertion n (some t)
    | .empty, .insertedUnread => s.insertion n none
    | _, .removed => s.removal n (some e.latchOpen)
    | .held, .inserted t => if r.tag = some t then s else s.replaceKey n e.latchOpen (some t)
    | .heldNoTag, .inserted t => s.replaceKey n e.latchOpen (some t)
    | _, .insertedUnread => s.replaceKey n e.latchOpen none
  else s

/-- One change entry of the chute unit (R42). -/
def State.chuteEntry (s : State) (e : ChuteEntry) : State :=
  match e with
  | .drop t => s.drop (some t)
  | .dropUnread => s.drop none
  | .hatchOpened => s.seeHatch true
  | .hatchClosed => s.seeHatch false

/-! ### Start-up fill (R18) -/

/-- A slot of an UNKNOWN module takes an occupancy directly; no report, and last release is left. -/
def State.settle (s : State) (n : SlotNo) (occ : Occupancy) (tag : Option Nat) : State :=
  s.modSlotLamp n fun r => { r with occ, tag, since := s.time }

/-- One slot of the fill. -/
def State.fillSlot (s : State) (n : SlotNo) (seen : SlotSeen) : State :=
  match seen with
  | .empty => s.settle n .empty none
  | .unread => s.settle n .heldNoTag none
  | .tagged t =>
    if s.heldLive t (some n) then s.settle n .heldNoTag none
    else (s.clearLastSeen t (some n)).settle n .held (some t)

/-- The module's slots with what its reply reports, in ascending position. -/
def reported (m : ModIx) (st : List SlotStatus) : List (SlotNo × SlotStatus) :=
  (positions.map fun p => slotAt m p).zip st

/-- "Slots are filled in ascending position". -/
def State.fill (s : State) (m : ModIx) (st : List SlotStatus) : State :=
  (reported m st).foldl (fun s p => s.fillSlot p.1 p.2.seen) s

/-! ### Reconciliation (R19, R20) -/

/-- A record as reconciliation compares it: "a record that is UNKNOWN with a last-seen tag T counts as HELD T, and a
record that is UNKNOWN with no tag counts as EMPTY". -/
inductive Counted where
  | empty
  | held (tag : Nat)
  | noTag
  deriving DecidableEq, Repr

def SlotRec.countedAs (r : SlotRec) : Counted :=
  match r.occ, r.tag with
  | .empty, _ => .empty
  | .heldNoTag, _ => .noTag
  | _, some t => .held t
  | _, none => .empty

/-- What the removal pass does at a position (R20). -/
inductive RemovalAct where
  | none | remove | move
  deriving DecidableEq, Repr

/-- A removal of tag `t` where the same reply reports it at another position of the module is a move (R19). -/
def removalOf (st : List SlotStatus) (t : Nat) : RemovalAct :=
  if st.any fun x => x.seen == .tagged t then .move else .remove

def removalAct (st : List SlotStatus) (c : Counted) (seen : SlotSeen) : RemovalAct :=
  match c, seen with
  | .held t, .empty => removalOf st t
  | .held t, .tagged u => if u = t then .none else removalOf st t
  | .noTag, .empty => .remove
  | _, _ => .none

/-- What the insertion pass does at a position (R20). -/
inductive InsertionAct where
  | none | insert (tag : Option Nat) | learn (tag : Nat)
  deriving DecidableEq, Repr

def insertionAct (c : Counted) (seen : SlotSeen) : InsertionAct :=
  match c, seen with
  | .empty, .tagged u => .insert (some u)
  | .empty, .unread => .insert none
  | .held t, .tagged u => if u = t then .none else .insert (some u)
  | .noTag, .tagged u => .learn u
  | _, _ => .none

/-- What reconciliation has worked out for one slot before either pass. -/
structure SlotPlan where
  slot : SlotNo
  seen : SlotSeen
  out  : RemovalAct
  into : InsertionAct
  deriving DecidableEq, Repr

def State.plan (s : State) (m : ModIx) (st : List SlotStatus) : List SlotPlan :=
  (reported m st).map fun p =>
    { slot := p.1, seen := p.2.seen
      out := removalAct st (s.slot p.1).countedAs p.2.seen
      into := insertionAct (s.slot p.1).countedAs p.2.seen }

/-- Work on one slot, unless the module has left ONLINE within the reply (log 13). -/
def State.whileOnline (s : State) (n : SlotNo) (f : State → State) : State := if s.slotOnline n then f s else s

def State.planOut (s : State) (p : SlotPlan) : State :=
  s.whileOnline p.slot fun s =>
    match p.out with
    | .none => s
    | .remove => s.removal p.slot none
    | .move => s.moveOut p.slot

def State.planIn (s : State) (p : SlotPlan) : State :=
  s.whileOnline p.slot fun s =>
    match p.into with
    | .none => s
    | .insert tag => s.insertion p.slot tag
    | .learn t => s.learnTag p.slot t

/-- A slot that is still UNKNOWN after both passes is restored (R19). -/
def State.restore (s : State) (n : SlotNo) (seen : SlotSeen) : State :=
  match seen with
  | .empty => s.settle n .empty none
  | .unread =>
    match (s.slot n).tag with
    | some t => s.settle n .held (some t)
    | none => s.settle n .heldNoTag none
  | .tagged t =>
    if s.heldLive t (some n) then (s.settle n .heldNoTag none).raiseOnSlot n .duplicateTag
    else s.settle n .held (some t)

def State.planRestore (s : State) (p : SlotPlan) : State :=
  s.whileOnline p.slot fun s => if (s.slot p.slot).occ = .unknown then s.restore p.slot p.seen else s

/-- Reconciliation of one module with its full status: removal pass, insertion pass, restoration (R19). -/
def State.reconcile (s : State) (m : ModIx) (st : List SlotStatus) : State :=
  let plan := s.plan m st
  plan.foldl State.planRestore (plan.foldl State.planIn (plan.foldl State.planOut s))

/-! ### Stray closes (R29) -/

/-- A LATCH command for a slot is pending or in flight. -/
def State.latchBusy (s : State) (n : SlotNo) : Bool :=
  s.bus.latches.any (fun l => l.slot == n)
    || (match s.bus.flight with
        | some f =>
          match f.cmd with
          | .latch l => l.slot == n
          | _ => false
        | none => false)

/-- A latch reported OPEN while no channel holds the slot and no LATCH command concerns it. -/
def State.strayClose (s : State) (p : SlotNo × SlotStatus) : State :=
  if p.2.latchOpen && (s.slot p.1).channel.isNone && !s.latchBusy p.1 then s.addLatch p.1 .closeIt none else s

/-- Stray closes are added "after the reconciliation of the reply has been taken", several of one reply in ascending position
(log 20). -/
def State.strayCloses (s : State) (m : ModIx) (st : List SlotStatus) : State := (reported m st).foldl State.strayClose s

end Sys2Proof.Machine
end

