-- ==== Sys2Proof/Machine/Bus.lean ====
section
/-! DEFINITION. The Slot Bus Master: the choice of the next command (R30 to R32), misses (R27, R28), probe outcomes (R35)
and the delivery of replies (R26, R42). -/

namespace Sys2Proof.Machine

/-! ### The choice of the next command (R31) -/

/-- The unit and the command that R31 chooses, from the set as it now stands. -/
def State.nextCommand (s : State) : Option (UnitIx × BusCmd) :=
  match s.nextLatch with
  | some l => some (modUnit (moduleOf l.slot), .latch l)
  | none =>
    if s.flapPending then some (chuteIx, .flap s.chute.wanted)
    else
      match allUnits.find? s.statusPending with
      | some u => some (u, .status)
      | none =>
        match allUnits.find? s.probePending with
        | some u => some (u, .probe)
        | none =>
          match modules.find? fun m => (s.unit (modUnit m)).lampsWanted && s.eligible (modUnit m) with
          | some m => some (modUnit m, .lamps (positions.map fun p => (s.slot (slotAt m p)).lamp))
          | none => s.nextPoll.map fun u => (u, .poll)

/-- What sending a command takes out of the pending set, and the last-polled address (R30, R32). -/
def State.taken (s : State) (u : UnitIx) (c : BusCmd) : State :=
  match c with
  | .latch l => s.setBus { s.bus with latches := s.bus.latches.erase l }
  | .lamps _ => s.putUnit u { s.unit u with lampsWanted := false }
  | .poll => s.setBus { s.bus with lastPolled := some u }
  | _ => s

/-- A transaction begins: the command is being transmitted (R23). -/
def State.send (s : State) (u : UnitIx) (c : BusCmd) : State :=
  let s1 := s.taken u c
  s1.setBus { s1.bus with flight := some { unit := u, cmd := c, phase := .transmitting, stale := false } }

/-- "The next transaction begins as soon as one ends, if the pending set offers a command" (R23); none in HOLD (R40). -/
def State.chooseCommand (s : State) : State :=
  if s.bus.flight.isSome || s.hold then s
  else
    match s.nextCommand with
    | some (u, c) => s.send u c
    | none => s

/-- A command of a running part: nothing is taken while RESET is asserted (R168, log 9), and the bus takes its next
command when it is idle at the event's end (R31). -/
def State.event (s : State) (f : State → State) : State := if s.power.stopped then s else (f s).chooseCommand

/-! ### Entering ONLINE and probe failures (R35) -/

/-- MODULE_STATE is queued on PROBING to ONLINE "with cause REVIVE_ABSENT, REVIVE_RETIRED or RETRY" (R41). -/
def ProbeCause.reportsOnline : ProbeCause → Bool
  | .start => false | .holdEnd => false | .reviveAbsent => true | .reviveRetired => true | .retry => true

/-- Entry to ONLINE: the record, the LAMPS update of a slot module, MODULE_LOST withdrawn, MODULE_STATE where R41 has it
(log 10). -/
def State.enterOnline (s : State) (u : UnitIx) (cause : ProbeCause) : State :=
  let s1 := s.putUnit u
    { s.unit u with
      state := .online, cause := none, misses := 0, attempts := 0, retry := none, resync := false
      lampsWanted := u != chuteIx }
  let s2 := s1.withdrawAlert (.module u) [.moduleLost]
  if cause.reportsOnline then s2.moduleState u .probing else s2

/-- A probe failed: the unit's record after it. -/
def State.probeTo (s : State) (u : UnitIx) (state : UnitState) (attempts : Nat) : State :=
  s.putUnit u
    { s.unit u with state, attempts, cause := none, retry := if state = .recovery then some 2 else none }

/-- RECOVERY after a failed probe, or RETIRED at the fifth attempt (R35). -/
def afterAttempts (attempts : Nat) : UnitState := if Config.recoveryLimit ≤ attempts then .retired else .recovery

/-- The last column of R35's table, with the reports and raises of R41. -/
def State.probeFailed (s : State) (u : UnitIx) : State :=
  let k := (s.unit u).attempts + 1
  match (s.unit u).cause with
  | some .start => (s.probeTo u .absent (s.unit u).attempts).startCheck
  | some .reviveAbsent => (s.probeTo u .absent (s.unit u).attempts).moduleState u .probing
  | some .reviveRetired => ((s.probeTo u .recovery 1).raiseAlert (.module u) .moduleLost).moduleState u .probing
  | some .retry =>
    let s1 := s.probeTo u (afterAttempts k) k
    if afterAttempts k = .retired then s1.moduleState u .probing else s1
  | some .holdEnd =>
    let s1 := s.probeTo u (afterAttempts k) k
    let s2 := if afterAttempts k = .retired then s1 else s1.raiseAlert (.module u) .moduleLost
    s2.moduleState u .probing
  | none => s

/-! ### Missed transactions (R27, R28) -/

/-- A LATCH command takes its place by age. -/
def LatchCmd.older (a b : LatchCmd) : Bool := a.age < b.age

/-- The effect of a miss below 3 on the command (R27). A LATCH command goes back with one more miss; its first
miss puts it ahead of all others (R28, `State.nextLatch`). -/
def State.missEffect (s : State) (u : UnitIx) (c : BusCmd) : State :=
  match c with
  | .poll => s.putUnit u { s.unit u with resync := true }
  | .latch l =>
    s.setBus { s.bus with latches := insertBy LatchCmd.older { l with tries := l.tries + 1 } s.bus.latches }
  | .lamps _ => s.putUnit u { s.unit u with lampsWanted := true }
  | _ => s

/-- A missed transaction to an ONLINE unit (R27); the third miss in a row is R36. -/
def State.missOnline (s : State) (u : UnitIx) (c : BusCmd) : State :=
  let k := (s.unit u).misses + 1
  if Config.missLimit ≤ k then s.recover u
  else (s.putUnit u { s.unit u with misses := k }).missEffect u c

/-- The transaction in flight ends. -/
def State.endFlight (s : State) : State := s.setBus { s.bus with flight := none }

/-- A missed transaction ends (R23, R27, R35). A unit that has left the state of R26 takes nothing from it (R38). -/
def State.miss (s : State) : State :=
  match s.bus.flight with
  | none => s
  | some f =>
    let s1 := s.endFlight
    if f.stale then s1
    else
      match f.cmd, (s1.unit f.unit).state with
      | .probe, .probing => s1.probeFailed f.unit
      | .probe, _ => s1
      | c, .online => s1.missOnline f.unit c
      | _, _ => s1

/-! ### Deliveries (R26) -/

/-- The record state that lets a reply be delivered. -/
def BusCmd.needs : BusCmd → UnitState
  | .probe => .probing
  | _ => .online

/-- An answered transaction ends; its reply is delivered if the unit's record allows it, "discarded whole" otherwise.
"Whenever a reply is delivered, the unit's misses count becomes 0". -/
def State.answered (s : State) (f : Flight) (deliver : State → State) : State :=
  let s1 := s.endFlight
  if f.stale = false ∧ (s1.unit f.unit).state = f.cmd.needs then
    deliver (s1.putUnit f.unit { s1.unit f.unit with misses := 0 })
  else s1

/-- A completed frame from the bus (R23): `read` gives the delivery when the frame is the reply that belongs to the
command in flight, and none when it is of the wrong kind or breaks its layout. -/
def State.takeReply (s : State) (addr : Byte) (read : Flight → Option (State → State)) : State :=
  match s.bus.flight with
  | none => s
  | some f =>
    if unitAddr f.unit = addr.toNat then
      match read f with
      | some deliver => s.answered f deliver
      | none => s.miss
    else s.miss

/-- The full status of the chute unit brings the chute record up to date (R42). -/
def State.chuteStatus (s : State) (flap : FlapPos) (hatchOpen : Bool) : State :=
  (s.confirmFlap flap false).seeHatch hatchOpen

/-- The arbiter runs at the end of every event that may have freed a channel (R83, log 10): each delivery that changes the
slots of a module. A chute unit has none. -/
def State.thenGrant (s : State) (u : UnitIx) : State := if (unitMod u).isSome then s.arbiter else s

/-- A full status reconciles a module's slots, and stray closes follow (R19, R29). -/
def State.moduleStatus (s : State) (m : ModIx) (st : List SlotStatus) : State := (s.reconcile m st).strayCloses m st

/-- A delivered STATUS reply clears resync, then reconciles (R29, R42). -/
def State.deliverStatus (s : State) (u : UnitIx) (st : UnitStatus) : State :=
  let s1 := s.putUnit u { s.unit u with resync := false }
  match unitMod u, st with
  | some m, .slots l => (s1.moduleStatus m l).arbiter
  | none, .chute f h => s1.chuteStatus f h
  | _, _ => s1

/-- The slots of a module that has answered its probe: filled when the cause is START and the Directory is empty,
reconciled otherwise (R18); stray closes follow (R29). -/
def State.probeSlots (s : State) (m : ModIx) (cause : ProbeCause) (st : List SlotStatus) : State :=
  if cause = .start ∧ s.directory = [] then (s.fill m st).strayCloses m st else s.moduleStatus m st

/-- One more unit whose START probe reply was delivered (R41, R170). -/
def State.countStart (s : State) (cause : ProbeCause) : State :=
  if cause = .start then s.setMode { s.mode with startOnline := s.mode.startOnline + 1 } else s

/-- A delivered PROBE reply (R35), and START when it was the last START probe. -/
def State.deliverProbe (s : State) (u : UnitIx) (st : UnitStatus) : State :=
  match (s.unit u).cause with
  | none => s
  | some cause =>
    let s1 := (s.countStart cause).enterOnline u cause
    let s2 := match unitMod u, st with
      | some m, .slots l => s1.probeSlots m cause l
      | none, .chute f h => s1.chuteStatus f h
      | _, _ => s1
    (if cause = .start then s2.startCheck else s2).thenGrant u

/-- A POLL reply with the overflow flag "is delivered first, entry by entry, and the flag takes effect afterwards"
(R29). -/
def State.overflowed (s : State) (u : UnitIx) (flag : Bool) : State :=
  if flag && s.online u then s.putUnit u { s.unit u with resync := true } else s

/-- A delivered POLL reply of a slot module (R11) or of the chute unit (R42). -/
def State.deliverPollModule (s : State) (m : ModIx) (p : Poll ModuleEntry) : State :=
  ((p.entries.foldl (fun s e => s.moduleEntry m e) s).overflowed (modUnit m) p.overflow).arbiter

def State.deliverPollChute (s : State) (p : Poll ChuteEntry) : State :=
  (p.entries.foldl State.chuteEntry s).overflowed chuteIx p.overflow

/-- A good or slow open frees no channel; every other reply for a channel may (R84, R91, R92). -/
def LatchClass.keeps : LatchClass → Bool
  | .fault _ => false
  | _ => true

/-- A delivered LATCH reply; a stray close is delivered nowhere (R26). A module is retired when a latch fault or the freeing
of a channel has quarantined its sixteenth slot (R38), and the arbiter runs where a channel may have been freed (R83). -/
def State.deliverLatch (s : State) (l : LatchCmd) (r : LatchReply) : State :=
  let m := moduleOf l.slot
  match l.channel, l.dir with
  | none, _ => s
  | some _, .openIt =>
    let s1 := (s.openReply l r).retireIfRisen m (s.quarantinedOf m)
    if (latchClass s.params.slowLatch .openIt r).keeps then s1 else s1.arbiter
  | some _, .closeIt => ((s.closeReply l r).retireIfRisen m (s.quarantinedOf m)).arbiter

/-! ### The replies by kind (R23, R24, R181) -/

def readProbeReply (payload : List Byte) (f : Flight) : Option (State → State) :=
  match f.cmd with
  | .probe => (readProbe f.unit payload).map fun st s => s.deliverProbe f.unit st
  | _ => none

def readPollReply (payload : List Byte) (f : Flight) : Option (State → State) :=
  match f.cmd with
  | .poll =>
    match unitMod f.unit with
    | some m => (readPoll readModuleEntry payload).map fun p s => s.deliverPollModule m p
    | none => (readPoll readChuteEntry payload).map fun p s => s.deliverPollChute p
  | _ => none

def readStatusReply (payload : List Byte) (f : Flight) : Option (State → State) :=
  match f.cmd with
  | .status => (readStatus f.unit payload).map fun st s => s.deliverStatus f.unit st
  | _ => none

/-- The reply to a LATCH command of a direction (log 23). -/
def readLatchReply (dir : LatchDir) (payload : List Byte) (f : Flight) : Option (State → State) :=
  match f.cmd with
  | .latch l => if l.dir = dir then (readLatch payload).map fun r s => s.deliverLatch l r else none
  | _ => none

def readLampsReply (payload : List Byte) (f : Flight) : Option (State → State) :=
  match f.cmd with
  | .lamps _ => (readNone payload).map fun _ s => s
  | _ => none

def readFlapFrame (payload : List Byte) (f : Flight) : Option (State → State) :=
  match f.cmd with
  | .flap pos => (readFlapReply payload).map fun p s => s.confirmFlap p (pos == .unlocked)
  | _ => none

/-! ### The transaction's own times (R23) -/

/-- The last byte of the command has been sent: SBDE is released and the reply deadline runs. -/
def State.commandSent (s : State) (clock : Nat) : State :=
  match s.bus.flight with
  | some f =>
    match f.phase with
    | .transmitting => s.setBus { s.bus with flight := some { f with phase := .awaiting clock } }
    | .awaiting _ => s
  | none => s

/-- "No reply has been completed 25 ms after the last byte of the command." -/
def State.replyDeadline (s : State) (clock : Nat) : State :=
  match s.bus.flight with
  | some f =>
    match f.phase with
    | .awaiting since => if since + Config.replyLimit ≤ clock then s.miss else s
    | .transmitting => s
  | none => s

/-! ### Revive and retry (R37, R39) -/

/-- MODULE_REVIVE: the unit goes to PROBING; "The quarantined count is not changed". -/
def State.revive (s : State) (u : UnitIx) (cause : ProbeCause) : State :=
  s.putUnit u { s.unit u with state := .probing, cause := some cause, misses := 0, attempts := 0, retry := none }

/-- The retry time has reached 0: PROBING with cause RETRY. -/
def State.retryProbe (s : State) (u : UnitIx) : State :=
  let r := s.unit u
  if r.state = .recovery ∧ r.retry = some 0 then
    s.putUnit u { r with state := .probing, cause := some .retry, retry := none }
  else s

end Sys2Proof.Machine
end

