-- ==== Sys2Proof/Machine/Supply.lean ====
section
/-! DEFINITION. Cabinet Mode Control (chapter 10): the service session, the supply level, HOLD, the panel, start-up and
RESET. -/

namespace Sys2Proof.Machine

/-! ### Service sessions (R172, R175, R176) -/

/-- SERVICE_BEGIN accepted: the session, PANEL_OPEN judged again, SERVICE_STATE with reason BEGUN. -/
def State.beginSession (s : State) : State :=
  let limit := 60 * s.params.service
  let s1 := (s.setSession { remaining := some limit, removals := [] }).judgePanel
  s1.queueReport (.serviceState .begun (some limit) none s1.mode.panelOpen)

/-- One entry left at the end of a session: its report, then the missing flag (R175, step 3). -/
def State.leftBehind (s : State) (r : Removal) : State :=
  let tag := r.tag.filter fun t => (s.entry? t).isSome
  let s1 := s.queueReport (.keyRemovedForced r.slot tag (tag.bind s.unitOfKey) r.time true)
  match tag with
  | some t => s1.setMissing t
  | none => s1

/-- The end of a session, in the order of R175. -/
def State.endSession (s : State) (reason : SessionReason) : State :=
  let left := s.session.removals
  let s1 := s.setSession { s.session with remaining := none }
  let s2 := s1.queueReport (.serviceState reason none (some left.length) s1.mode.panelOpen)
  let s3 := left.foldl State.leftBehind s2
  let s4 := s3.setSession { s3.session with removals := [] }
  let s5 := if reason = .limit ∧ s4.mode.panelOpen then s4.beginCond .serviceOverrun else s4
  s5.judgePanel

/-! ### The panel (R171) -/

/-- A panel change: to CLOSED makes SERVICE_OVERRUN inactive first; then PANEL_OPEN is judged. A level equal to the one
held is no change (log 6). -/
def State.panelTo (s : State) (isOpen : Bool) : State :=
  let s1 := s.setPins { s.pins with panel := isOpen }
  if isOpen = s.mode.panelOpen then s1
  else
    let s2 := s1.setMode { s1.mode with panelOpen := isOpen }
    let s3 := if isOpen then s2 else s2.judgeCond .serviceOverrun false
    s3.judgePanel

/-! ### Supply (R163 to R167) -/

/-- SUPPLY_STATE, with the level, mode, budget and channel count as they now stand (R164). -/
def State.supplyState (s : State) (old : Option SupplyLevel) (budget : Nat) : State :=
  s.queueReport (.supplyState old s.mode.level s.hold budget s.usedChannels)

def State.setLevel (s : State) (l : SupplyLevel) : State := s.setMode { s.mode with level := l }
def State.setBudget (s : State) (b : Nat) : State := s.setRelease { s.release with budget := b }

/-- A supply change between GOOD and LOW (R164, R96). -/
def State.supplyShift (s : State) (new : SupplyLevel) : State :=
  let s1 := (((s.setLevel new).setBudget (budgetOf new)).arbiter).supplyState (some s.mode.level) (budgetOf new)
  if new = .low then s1.beginCond .supply else s1.endCond .supply

/-- Modules whose sixteenth slot the HOLD event has quarantined are marked (R38, R165 step 4). -/
def State.markFull (s : State) (before : State) : State :=
  modules.foldl (fun s m => s.retireIfRisen m (before.quarantinedOf m)) s

/-- Entry to HOLD, in the order of R165. -/
def State.enterHold (s : State) : State :=
  let s1 := ((s.setLevel .lost).supplyState (some s.mode.level) 0).setBudget 0
  let s2 := s1.unitsDark
  let s3 := ((s2.abortChannels (fun _ => true) .hold).abortEntries (fun _ => true) .hold).markFull s
  let s4 := if s3.inSession then s3.endSession .hold else s3
  s4.beginCond .supply

/-- Exit from HOLD, in the order of R167. -/
def State.leaveHold (s : State) (new : SupplyLevel) : State :=
  let s1 := ((s.setLevel new).setBudget (budgetOf new)).arbiter
  let s2 := (s1.unitsLight).supplyState (some .lost) (budgetOf new)
  if new = .good then s2.endCond .supply else s2

/-- A supply change of the lines that has held for 20 ms: "A supply change whose level equals the level held changes
nothing" (R163); otherwise R164, R165 or R167 by the old and the new level. -/
def State.supplyTo (s : State) (supa supb : Bool) : State :=
  let new := supplyLevel supa supb
  let old := s.mode.level
  let s1 := s.setPins { s.pins with supa, supb }
  if new = old then s1
  else if new = .lost then s1.enterHold
  else if old = .lost then s1.leaveHold new
  else s1.supplyShift new

/-! ### Start-up (R168, R169) -/

/-- In HOLD "each unit becomes DARK with cause START" (R169, step 5). -/
def State.startDark (s : State) : State := s.setUnits (s.units.map fun r => { r with state := .dark })

/-- The start-up event of R169. In RUN the PROBEs are pending, since every unit is PROBING (R30). -/
def startUp (pending : List Instr) (pins : Pins) (cause : StartCause) : State :=
  let level := supplyLevel pins.supa pins.supb
  let strap := linkRate pins.strap1 pins.strap0
  let s1 := State.cleared pending pins
    { level, cause, rate := strap.1, strapFault := strap.2, panelOpen := pins.panel, startOnline := 0
      startReported := false } pins.strap2 (budgetOf level)
  let s2 := if level = .lost then s1.startDark else s1
  let s3 := if level = .good then s2 else (s2.supplyState none (budgetOf level)).beginCond .supply
  (s3.judgePanel).chooseCommand

/-- RESET is asserted: the part is stopped, frames and the transaction in flight are cut off, the lines are released
(R168). The rest of the state stands until the start-up discards it. -/
def State.stop (s : State) : State :=
  { s with
    power := { s.power with stopped := true }
    bus := { s.bus with flight := none }
    alerts := { s.alerts with lines := .none }
    link := { s.link with rx := .searching, tx := .idle }
    kiosk := { s.kiosk with rx := .searching, tx := .idle } }

/-- The logic supply comes up with RESET low: the start-up waits for its release, "and the start cause is POWER_ON"
(R168). -/
def State.powerOnWaiting (s : State) (pins : Pins) : State :=
  { (startUp s.pending pins .powerOn).stop with power := { stopped := true, powerOnWaits := true } }

/-- RESET is released after being asserted (R168). -/
def State.resetReleased (s : State) (pins : Pins) : State :=
  startUp s.pending pins (if s.power.powerOnWaits then .powerOn else .resetLine)

/-! ### The one-second boundary (R115) -/

/-- A remaining falls by 1 and stays at 0 until its expiry is taken. -/
def fall (r : Option Nat) : Option Nat := r.map fun n => n - 1

/-- Cabinet time takes the next value while it is set, and stops at the top (R115). -/
def nextTime (t : Option Nat) : Option Nat := t.map fun n => min (n + 1) Config.maxTime

/-- A unit's retry time falls in RECOVERY (R37). -/
def UnitRec.tick (r : UnitRec) : UnitRec :=
  match r.state with
  | .recovery => { r with retry := fall r.retry }
  | _ => r

/-- Supervision falls while the link is CONNECTED (R155). -/
def BranchLink.tick (l : BranchLink) : BranchLink :=
  match l.state with
  | .connected => { l with supervision := fall l.supervision }
  | _ => l

/-- Every count a one-second boundary moves: cabinet time (R115), retry times (R37), the mask (R141), supervision
(R155), the session (R174) and the ages in hand (R113). The expiries it brings are commands of their own (log 3). -/
def State.boundary (s : State) : State :=
  { s with
    time := nextTime s.time
    units := s.units.map UnitRec.tick
    alerts := { s.alerts with mask := fall s.alerts.mask }
    link := s.link.tick
    session := { s.session with remaining := fall s.session.remaining }
    bin := { s.bin with entries := s.bin.entries.map DropEntry.older } }

/-! ### Expiries: each acts only when its own condition holds (log 3) -/

/-- The window of an OPEN channel whose deadline cabinet time has reached (R85, R87). -/
def State.windowExpiry (s : State) (c : ChanNo) : State :=
  match s.chan c, s.time with
  | .opened n b d, some t => if d ≤ t then s.expireWindow c n b else s
  | _, _ => s

/-- The mask turns off and the lines are judged again (R141). -/
def State.maskExpiry (s : State) : State :=
  if s.alerts.mask = some 0 then (s.setAlerts { s.alerts with mask := none }).judgeLines else s

/-- The link becomes STANDALONE: LINK_LOST, and one more loss (R154, R155). -/
def State.supervisionExpiry (s : State) : State :=
  if s.link.state = .connected ∧ s.link.supervision = some 0 then
    (s.setLink { s.link with
      state := .standalone, supervision := none
      counts := { s.link.counts with losses := bump s.link.counts.losses } }).beginCond .linkLost
  else s

/-- The session ends with reason LIMIT (R174, R175). -/
def State.serviceLimitExpiry (s : State) : State :=
  if s.session.remaining = some 0 then s.endSession .limit else s

end Sys2Proof.Machine
end

