-- ==== Sys2Proof/Machine/Link.lean ====
section
/-! DEFINITION. The Branch Link Controller and the Kiosk Port: taking a valid frame (R148, R160, R161), the transmitters
(R151, R162), and the receivers' markers and errors (R145 to R147). -/

namespace Sys2Proof.Machine

/-- What the owner of a request answers: a result and the fields its rule names (R150). -/
structure Reply where
  result : Result
  fields : AnswerFields
  deriving DecidableEq, Repr

/-- "A refusal carries the refusal code and no further fields" (R150); so does a plain OK. -/
def Reply.of (r : Result) : Reply := { result := r, fields := .nothing }
def Reply.ok (f : AnswerFields) : Reply := { result := .ok, fields := f }

/-- A refused request changes nothing. -/
def State.refuse (s : State) (r : Result) : State × Reply := (s, .of r)

/-- An accepted request is answered OK. -/
def State.accept (s : State) : State × Reply := (s, .of .ok)

/-! ### A valid frame on the Branch Link (R148) -/

/-- The link becomes CONNECTED (R154), and the transmitter's choice waits for the event's end (R151). -/
def BranchLink.connect (l : BranchLink) : BranchLink :=
  { l with rx := .searching, tx := if l.tx = .idle then .deferred else l.tx, state := .connected }

/-- Step 1: "Both are taken in step 1 of the frame's event": LINK_LOST ends on a change from STANDALONE (R154). -/
def State.frameBegin (s : State) : State :=
  let s1 := s.setLink s.link.connect
  if s.link.state = .standalone then s1.endCond .linkLost else s1

/-- Step 5 and the deferred choice (R155, R151). -/
def State.frameEnd (s : State) : State :=
  let l := { s.link with supervision := some s.params.supervision }
  s.setLink (if l.tx = .deferred then l.choose else l)

/-- Step 2: an overrun is counted, and the request is not taken (R149). -/
def State.overrun (s : State) : State :=
  s.setLink { s.link with counts := { s.link.counts with overrun := bump s.link.counts.overrun } }

/-- The owner acts and its answer is placed (step 4, or the two answers of step 3). -/
def State.serve (s : State) (kind tag : Byte) (owner : State → State × Reply) : State :=
  let r := owner s
  r.1.placeAnswer { kind, tag, result := r.2.result, fields := r.2.fields }

/-- A valid frame, in the order of R148. -/
def State.takeFrame (s : State) (kind tag : Byte) (owner : State → State × Reply) : State :=
  let s1 := s.frameBegin
  (if Config.answerCap ≤ s1.link.answers.length then s1.overrun else s1.serve kind tag owner).frameEnd

/-- A frame of a known request kind: an answer "carries the kind of its request plus 0x80" (R177), and a body that does
not match its layout is answered BAD_FIELD (step 3). -/
def State.takeRequest {α : Type} (s : State) (kind : Nat) (tag : Byte) (body : Option α)
    (owner : α → State → State × Reply) : State :=
  s.event fun s => s.takeFrame (BitVec.ofNat 8 (kind + 128)) tag fun s =>
    match body with
    | some b => owner b s
    | none => s.refuse .badField

/-- A frame of an unknown kind is answered with kind 0xFF and the kind byte received (R148, R177). -/
def State.takeUnknown (s : State) (kind tag : Byte) : State :=
  s.event fun s => s.takeFrame 255 tag fun s => (s, { result := .unknownKind, fields := .kindByte kind })

/-! ### The Branch Link transmitter (R151) -/

/-- The answer to an accepted RESTART, whose last byte is a start-up (R151, R168). -/
def LinkFrame.restarts : LinkFrame → Bool
  | .answer a => a.kind == 0x94 && a.result == .ok
  | .report _ => false

/-- The frame being sent is the answer to an accepted RESTART. -/
def State.restarting (s : State) : Bool :=
  match s.link.tx with
  | .sending f => f.restarts
  | _ => false

/-- The last byte of the answer to a RESTART has been sent: the start-up of R168 in the same event, over the pins sampled.
Nothing where no such answer is being sent (log 8). -/
def State.restartNow (s : State) (pins : Pins) : State :=
  if s.restarting then startUp s.pending pins .restartRequest else s

/-- The last byte of a frame has been sent: the next frame is chosen, or the RESTART is taken, with the pins as they were last
held (R151, R168, log 8). -/
def State.linkSent (s : State) : State :=
  if s.restarting then s.restartNow s.pins
  else
    match s.link.tx with
    | .sending _ => s.setLink s.link.choose
    | _ => s

/-! ### A valid frame on the Kiosk Port (R160, R161) -/

/-- What a kiosk frame is answered: the booking number carried, the result, and the slot and place of ACCEPTED. -/
structure KioskReply where
  booking  : Nat
  result   : Result
  accepted : Option (SlotNo × Nat)
  deriving DecidableEq, Repr

/-- UNKNOWN_KIND, and BAD_FIELD for a body of the wrong length, carry booking number 0 (R179). -/
def KioskReply.of (r : Result) : KioskReply := { booking := 0, result := r, accepted := none }

/-- An admission makes the arbiter run, behind the answer (R78, step 5). -/
def KioskReply.after (r : KioskReply) (s : State) : State := if r.accepted.isSome then s.arbiter else s

/-- A valid kiosk frame: discarded and counted while the answer place is occupied, otherwise answered in the same
event, with what follows the answer (R161, R78). A disabled port takes no byte (R160, log 21). -/
def State.takeKioskFrame (s : State) (tag : Byte) (owner : State → State × KioskReply)
    (after : KioskReply → State → State) : State :=
  s.event fun s =>
    if s.kiosk.enabled then
      let k := { s.kiosk with rx := .searching }
      match k.answer with
      | some _ => s.setKiosk { k with counts := { k.counts with overrun := bump k.counts.overrun } }
      | none =>
        let r := owner (s.setKiosk k)
        after r.2 (r.1.placeKioskAnswer { tag, booking := r.2.booking, result := r.2.result, accepted := r.2.accepted })
    else s

/-- The kiosk transmitter ends a frame (R162). -/
def State.kioskSent (s : State) : State :=
  match s.kiosk.tx with
  | .sending _ => s.setKiosk s.kiosk.choose
  | .idle => s

/-! ### Receivers (R145 to R147, R159) -/

/-- Change a port's receiver and counts; a disabled Kiosk Port "takes no bytes and counts nothing" (R160). -/
def State.onPort (s : State) (p : Port) (f : Receiver → PortCounts → Receiver × PortCounts) : State :=
  match p with
  | .branch => let r := f s.link.rx s.link.counts; s.setLink { s.link with rx := r.1, counts := r.2 }
  | .kiosk =>
    if s.kiosk.enabled then
      let r := f s.kiosk.rx s.kiosk.counts; s.setKiosk { s.kiosk with rx := r.1, counts := r.2 }
    else s

/-- A completed frame fails its CRC (R145). -/
def State.crcError (s : State) (p : Port) : State :=
  s.onPort p fun _ c => (.searching, { c with crc := bump c.crc })

/-- A length byte out of range ends the frame at once (R147). -/
def State.formatError (s : State) (p : Port) : State :=
  s.onPort p fun _ c => (.searching, { c with format := bump c.format })

/-- A frame not completed within 200 ms of its marker is discarded (R146). -/
def State.frameTimeout (s : State) (p : Port) (clock : Nat) : State :=
  s.onPort p fun rx c =>
    match rx with
    | .receiving m => if m + Config.frameLimit ≤ clock then (.searching, { c with timeout := bump c.timeout }) else (rx, c)
    | .searching => (rx, c)

/-- A marker begins a frame in SEARCHING and is a byte like any other in RECEIVING (R145). -/
def State.marker (s : State) (p : Port) (clock : Nat) : State :=
  s.onPort p fun rx c =>
    match rx with
    | .searching => (.receiving clock, c)
    | .receiving _ => (rx, c)

end Sys2Proof.Machine
end

