-- ==== Sys2Proof/Machine/Answers.lean ====
section
/-! DEFINITION. What the queries gather: KEY_QUERY (R21), SLOT_QUERY (R22), BOOKING_QUERY (R74, R75), ALERT_QUERY (R143,
R144), HEARTBEAT (R156) and STATUS_QUERY (R158). "A query changes no state": each is answered from the state as it stands. -/

namespace Sys2Proof.Machine

/-! ### KEY_QUERY (R21) -/

/-- The place of a key; "The places cannot overlap, by the law of R8". -/
def State.keyPlace (s : State) (t : Nat) : KeyPlace :=
  match s.slotOfKey t with
  | some n => if (s.slot n).occ = .held then .inSlot n (s.misplaced n) else .lastSeen n
  | none =>
    match s.dropOfKey t with
    | some e =>
      match e.state with
      | .inBin => .inBin e.number
      | .inHand => .inHand e.number e.age e.handed e.unslotted
    | none => .nowhere

/-- The three parts of the answer. -/
def State.keyAnswer (s : State) (t : Nat) : KeyAnswer :=
  { entry := s.entry? t, place := s.keyPlace t, custody := (s.custodyBooking t).map fun b => (b.number, b.state) }

/-- "The answer is OK if the tag has a Directory entry, or a place other than NONE, or a custody booking." -/
def KeyAnswer.known (a : KeyAnswer) : Bool := a.entry.isSome || a.place != .nowhere || a.custody.isSome

def State.keyQuery (s : State) (t : Nat) : Reply :=
  if t = 0 then .of .badField
  else if (s.keyAnswer t).known then .ok (.key (s.keyAnswer t))
  else .of .notFound

/-! ### SLOT_QUERY (R22) -/

def State.slotEntry (s : State) (n : SlotNo) : SlotEntry :=
  { slot := s.slot n, homeKey := (s.homeKey n).map (·.tag), misplaced := s.misplaced n
    channel := match (s.slot n).channel with
      | some c => s.chan c
      | none => .free }

/-- As many whole entries as fit in `room` bytes (R177). -/
def cutEntries : Nat → List SlotEntry → List SlotEntry
  | _, [] => []
  | room, e :: es => if e.bytes.length ≤ room then e :: cutEntries (room - e.bytes.length) es else []

/-- The slots asked for, none where R22 refuses BAD_FIELD. -/
def slotsAsked (first count : Nat) : Option (List SlotNo) :=
  if count = 0 ∨ 16 < count ∨ 383 < first ∨ 383 < first + count - 1 then none
  else some ((allSlots.drop first).take count)

/-- The answer, cut at the last whole entry behind the result code and the more flag byte (R177, R179). -/
def State.slotQuery (s : State) (first count : Nat) : Reply :=
  match slotsAsked first count with
  | none => .of .badField
  | some ns =>
    let es := ns.map s.slotEntry
    let given := cutEntries (Config.bodyMax - 2) es
    .ok (.slots given (decide (given.length < es.length)))

/-! ### BOOKING_QUERY (R74, R75) -/

/-- The seconds from the present cabinet time to a time, 0 if it is not later (R130, R85). -/
def State.secondsTo (s : State) (t : Nat) : Nat := t - s.time.getD 0

/-- The place of a booking in the Release Queue, 1 being the head. -/
def State.queuePlace (s : State) (n : Nat) : Option Nat :=
  (s.release.queue.findIdx? fun e => e.booking == n).map (· + 1)

/-- The release position of a RELEASING booking (R74). -/
def State.releasePos (s : State) (b : Booking) : Option ReleasePos :=
  if b.state = .releasing then
    match s.queuePlace b.number, s.chanOfBooking b.number with
    | some p, _ => some (.queued p)
    | none, some c =>
      match s.chan c with
      | .opened _ _ d => some (.opened c (s.secondsTo d))
      | _ => some (.opening c)
    | none, none => none
  else none

/-- The remaining time of an OUT booking whose stage has a further deadline (R74, R130). -/
def State.remaining (s : State) (b : Booking) : Option Nat :=
  if b.state = .out then (b.stage.bind b.nextDeadline).map s.secondsTo else none

def State.bookingQuery (s : State) (n : Nat) : Reply :=
  match s.booking? n with
  | none => .of .notFound
  | some b => .ok (.booking { booking := b, position := s.releasePos b, remaining := s.remaining b })

def Booking.summary (b : Booking) : BookingSummary :=
  { number := b.number, kind := b.kind, key := b.key, state := b.state, stage := b.stage }

/-- Up to 10 summary entries from a starting number, and whether further bookings follow (R75). The table is kept in
ascending number (R59). -/
def State.bookingList (s : State) (start : Nat) : Reply :=
  let bs := s.bookings.filter fun b => decide (start ≤ b.number)
  .ok (.bookings ((bs.take 10).map Booking.summary) (decide (10 < bs.length)))

/-! ### ALERT_QUERY (R143, R144) -/

def State.alertListAnswer (s : State) : AlertListAnswer :=
  { mask := s.alerts.mask, lines := s.alerts.lines
    records := s.alerts.list.map fun r => (r, (s.policyOf r.cls).priority)
    waitCount := s.waiters.length, waiters := s.waitersInOrder.take 8 }

/-- A place counted from 1. -/
def placeIn {α : Type} (p : α → Bool) (l : List α) : Option Nat := (l.findIdx? p).map (· + 1)

/-- The subject's state, with the active flag for a cabinet subject (R144). -/
def State.subjectAnswer (s : State) (x : Subject) (f : AlertFields) : AlertSubjectAnswer :=
  let r := s.listed x
  { cls := f.cls
    listed := placeIn (fun a : AlertRec => a.subject == x) s.alerts.list
    waiting := if f.waiting then placeIn (fun w : Waiter => w.subject == x) s.waitersInOrder else none
    raised := match r with
      | some a => a.raised
      | none => if f.waiting then f.raised else none
    acked := f.acked
    active := match x with
      | .cabinet c => some (s.cond c).active
      | _ => none }

def State.subjectQuery (s : State) (kind id : Nat) : Reply :=
  match Subject.ofWire kind id with
  | none => .of .badField
  | some x =>
    match s.alertOf x with
    | none => .of .notFound
    | some f => .ok (.subject (s.subjectAnswer x f))

/-! ### HEARTBEAT (R156) -/

/-- `before` is the link state before the frame was taken; the state here is the one after step 1 of R148. -/
def State.heartbeat (s : State) (before : LinkState) : Reply :=
  .ok (.heartbeat before s.time s.link.reports.length s.link.counts.dropped)

/-! ### STATUS_QUERY (R158) -/

def State.countBookings (s : State) (st : BookingState) : Nat := (s.bookings.filter fun b => b.state == st).length

def State.countStage (s : State) (st : Stage) : Nat :=
  (s.bookings.filter fun b => b.state == .out && b.stage == some st).length

/-- The answer to part 0, gathered from the blocks. -/
def State.summary (s : State) : StatusSummary :=
  { cause := s.mode.cause, rate := s.mode.rate, kioskOn := s.kiosk.enabled, strapFault := s.mode.strapFault
    hold := s.hold, level := s.mode.level, panelOpen := s.mode.panelOpen
    session := s.session.remaining.map fun r => (r, s.session.removals.length)
    time := s.time, dueCount := s.dueList.length, nextDue := s.dueList.head?.map (·.deadline)
    outStages := [.onTime, .due, .overdue, .escalated].map s.countStage
    dirCount := s.directory.length
    bookings := [.loaded, .releasing, .out, .returned, .cancelled].map s.countBookings
    budget := s.release.budget, used := s.usedChannels, queueLen := s.release.queue.length
    channels := s.release.channels.toList
    online := (allUnits.filter s.online).length
    inBin := s.inBinCount, binCount := s.bin.entries.length, nextDrop := s.bin.nextDrop, wanted := s.chute.wanted
    nearFull := (s.cond .chuteNearFull).active, chuteLocked := (s.cond .chuteLocked).active
    listLen := s.alerts.list.length, waitLen := s.waiters.length, mask := s.alerts.mask, lines := s.alerts.lines
    link := s.link.state, supervision := s.link.supervision, reports := s.link.reports.length
    answers := s.link.answers.length, linkCounts := s.link.counts
    answerHeld := s.kiosk.answer.isSome, notices := s.kiosk.notices.length, kioskCounts := s.kiosk.counts
    params := s.params }

/-- One record of part 1. -/
def State.unitEntry (s : State) (u : UnitIx) : UnitEntry :=
  let r := s.unit u
  { state := r.state, misses := r.misses, attempts := r.attempts, retry := r.retry, resync := r.resync
    quarantined := if u = chuteIx then none else some r.quarantined
    chute := if u = chuteIx then some (s.chute.wanted, s.chute.confirmed, s.chute.hatchOpen) else none }

/-- "a part number of 0 or 1. Any other value is refused BAD_FIELD." -/
def State.statusQuery (s : State) (part : Nat) : Reply :=
  match part with
  | 0 => .ok (.status s.summary)
  | 1 => .ok (.units (allUnits.map s.unitEntry))
  | _ => .of .badField

end Sys2Proof.Machine
end

