-- ==== Sys2Proof/Machine/Tables.lean ====
section
/-! DEFINITION. The requests that load and change the tables: KEY_LOAD, KEY_DROP, the five booking requests, POLICY_SET,
PARAM_SET and TIME_SET. -/

namespace Sys2Proof.Machine

/-! ### Key Directory (R2 to R4) -/

/-- The home a KEY_LOAD names: none where it is above 383 (R2, check 1). -/
def KeyLoadReq.homeSlot (r : KeyLoadReq) : Option (Option SlotNo) :=
  match r.home with
  | none => some none
  | some h => if lt : h < 384 then some (some ⟨h, lt⟩) else none

/-- An entry with another tag has the requested home (R2, check 3). -/
def State.homeTaken (s : State) (tag : Nat) (home : Option SlotNo) : Bool :=
  match home with
  | some h => s.directory.any fun e => e.home == some h && e.tag != tag
  | none => false

/-- The slots a Directory change touches: old home, new home, and the slot that holds the tag (R3). -/
def State.touched (s : State) (tag : Nat) (old new : Option SlotNo) : List SlotNo :=
  old.toList ++ new.toList ++ (s.slotOfKey tag).toList

/-- A new entry, "not missing, with clear alert fields", in its place by tag (R1, R3). -/
def State.addKey (s : State) (tag unit : Nat) (home : Option SlotNo) : State :=
  let s1 := s.setDirectory
    (insertBy (fun a b => decide (a.tag < b.tag)) { tag, unit, home, missing := false, alert := .clear } s.directory)
  s1.relampAll (s.touched tag none home)

/-- A replaced entry keeps its missing flag and alert fields (R3). -/
def State.replaceEntry (s : State) (tag unit : Nat) (home old : Option SlotNo) : State :=
  (s.mapEntry tag fun e => { e with unit, home }).relampAll (s.touched tag old home)

/-- KEY_LOAD: the checks of R2 in order, then R3. -/
def State.keyLoad (s : State) (r : KeyLoadReq) : State × Reply :=
  match r.homeSlot with
  | none => s.refuse .badField
  | some home =>
    if r.tag = 0 ∨ r.unit = 0 then s.refuse .badField
    else
      match s.entry? r.tag with
      | none =>
        if Config.directoryCap ≤ s.directory.length then s.refuse .tableFull
        else if s.homeTaken r.tag home then s.refuse .homeTaken
        else (s.addKey r.tag r.unit home).accept
      | some e =>
        if s.homeTaken r.tag home then s.refuse .homeTaken
        else if home ≠ e.home ∧ (s.placed r.tag || s.keyInCustody r.tag) = true then s.refuse .keyInUse
        else (s.replaceEntry r.tag r.unit home e.home).accept

/-- The key of a booking in LOADED, RELEASING or OUT (R4). -/
def State.keyBooked (s : State) (tag : Nat) : Bool :=
  s.bookings.any fun b => b.key == tag && (b.state == .loaded || b.inCustody)

/-- The entry goes, KEY_MISSING having been withdrawn, and its home slot becomes floating (R4). -/
def State.removeKey (s : State) (e : KeyEntry) : State :=
  let s1 := s.withdrawAlert (.key e.tag) [.keyMissing]
  (s1.setDirectory (s1.directory.filter fun x => x.tag != e.tag)).relampAll e.home.toList

/-- KEY_DROP (R4). -/
def State.keyDrop (s : State) (tag : Nat) : State × Reply :=
  match s.entry? tag with
  | none => s.refuse .notFound
  | some e => if s.placed tag || s.keyBooked tag then s.refuse .keyInUse else (s.removeKey e).accept

/-! ### Bookings (R62 to R69) -/

/-- The ranges of R62, check 2, for the fields carried. -/
def inRange (grace escalation : Nat) (code : Option Nat) : Bool :=
  decide (grace ≤ Config.graceMax) && decide (escalation ≤ Config.escalationMax)
    && (match code with
        | some c => decide (c ≤ Config.codeMax)
        | none => true)

/-- R62, check 3: kind against code, and the window against itself and due. -/
def agrees (kind : BookingKind) (code : Option Nat) (window : Option (Nat × Nat)) (due : Nat) : Bool :=
  (kind == .rental || code.isNone)
    && (match window with
        | some (a, b) => decide (a ≤ b) && decide (a < due)
        | none => true)

/-- The kind of a wire byte (R179). -/
def BookingKind.ofCode : Nat → Option BookingKind
  | 0 => some .rental
  | 1 => some .service
  | _ => none

/-- A loaded booking (R63). -/
def BookingLoadReq.booking (r : BookingLoadReq) (kind : BookingKind) : Booking :=
  { number := r.number, kind, key := r.key, code := r.code, window := r.window, due := r.due, grace := r.grace
    escalation := r.escalation, state := .loaded, source := none, stage := none, taken := none, returned := none
    lateness := none, failures := 0, alert := .clear }

/-- The table is kept in ascending number (R59). -/
def State.addBooking (s : State) (b : Booking) : State :=
  s.setBookings (insertBy (fun x y => decide (x.number < y.number)) b s.bookings)

/-- BOOKING_LOAD: the checks of R62 in order, then R63. -/
def State.bookingLoad (s : State) (r : BookingLoadReq) : State × Reply :=
  if s.time = none then s.refuse .timeUnset
  else
    match BookingKind.ofCode r.kind with
    | none => s.refuse .badField
    | some kind =>
      if r.number = 0 ∨ r.key = 0 ∨ inRange r.grace r.escalation r.code = false then s.refuse .badField
      else if agrees kind r.code r.window r.due = false then s.refuse .badField
      else if (s.booking? r.number).isSome then s.refuse .duplicate
      else if Config.bookingCap ≤ s.bookings.length then s.refuse .tableFull
      else if (s.entry? r.key).isNone then s.refuse .notFound
      else (s.addBooking (r.booking kind)).accept

/-- Some change flag is set. -/
def BookingAmendReq.changes (r : BookingAmendReq) : Bool :=
  r.due.isSome || r.grace.isSome || r.escalation.isSome || r.code.isSome || r.window.isSome

/-- The record as amended (R65, R66): "A flagged code … also sets code failures to 0". -/
def BookingAmendReq.apply (r : BookingAmendReq) (b : Booking) : Booking :=
  { b with
    due := r.due.getD b.due
    grace := r.grace.getD b.grace
    escalation := r.escalation.getD b.escalation
    code := r.code.getD b.code
    window := r.window.getD b.window
    failures := if r.code.isSome then 0 else b.failures }

/-- The ranges of the fields carried (R64, check 2). -/
def BookingAmendReq.ranges (r : BookingAmendReq) : Bool :=
  inRange (r.grace.getD 0) (r.escalation.getD 0) (r.code.getD none)

/-- BOOKING_AMEND: the checks of R64, then R65 for a LOADED booking and R66 for an OUT booking. -/
def State.bookingAmend (s : State) (r : BookingAmendReq) : State × Reply :=
  match s.booking? r.number with
  | none => s.refuse .notFound
  | some b =>
    let b1 := r.apply b
    if r.changes = false ∨ r.ranges = false then s.refuse .badField
    else
      match b.state with
      | .loaded =>
        if agrees b1.kind b1.code b1.window b1.due then (s.mapBooking r.number r.apply).accept
        else s.refuse .badField
      | .out =>
        if r.code.isSome || r.window.isSome then s.refuse .wrongState
        else ((s.mapBooking r.number r.apply).dueAmend r.number).accept
      | _ => s.refuse .wrongState

/-- A cancel of a RELEASING booking: queued (R68) or holding a channel (R95). One with neither, which no run reaches, is
just cancelled (log 24). -/
def State.cancelReleasing (s : State) (n : Nat) : State :=
  match s.release.queue.find? fun e => e.booking == n with
  | some e => s.cancelQueued e
  | none =>
    match s.chanOfBooking n with
    | some c => (s.cancelChannel c).arbiter
    | none => s.toCancelled n

/-- BOOKING_CANCEL (R67). -/
def State.bookingCancel (s : State) (n : Nat) : State × Reply :=
  match s.booking? n with
  | none => s.refuse .notFound
  | some b =>
    match b.state with
    | .loaded => (s.toCancelled n).accept
    | .releasing => (s.cancelReleasing n).accept
    | _ => s.refuse .wrongState

/-- RETURNED and CANCELLED are final (R60). -/
def Booking.final (b : Booking) : Bool := b.state == .returned || b.state == .cancelled

/-- BOOKING_RETIRE of one booking, or of every final booking for the number 0 (R69). -/
def State.bookingRetire (s : State) (n : Nat) : State × Reply :=
  if n = 0 then
    (s.setBookings (s.bookings.filter fun b => !b.final), .ok (.retired (s.bookings.filter Booking.final).length))
  else
    match s.booking? n with
    | none => s.refuse .notFound
    | some b =>
      if b.final then (s.setBookings (s.bookings.filter fun x => x.number != n), .ok (.retired 1))
      else s.refuse .wrongState

/-! ### Policy (R133) -/

def State.putPolicy (s : State) (c : AlertClass) (p : PolicyEntry) : State := s.setPolicy (s.policy.set c.ix p)

/-- POLICY_SET, with the lines judged again. -/
def State.policySet (s : State) (r : PolicySetReq) : State × Reply :=
  match AlertClass.ofNumber r.cls with
  | none => s.refuse .badField
  | some c =>
    if 7 < r.priority ∨ 7 < r.lines ∨ 1 < r.enabled then s.refuse .badField
    else
      ((s.putPolicy c { priority := r.priority, lines := .ofBits r.lines, enabled := r.enabled == 1 }).judgeLines).accept

/-! ### Parameters (R157) -/

/-- The six parameters by number. -/
inductive ParamName where
  | window | slowLatch | supervision | unslotted | service | nearFull
  deriving DecidableEq, Repr

def ParamName.ofNumber : Nat → Option ParamName
  | 1 => some .window | 2 => some .slowLatch | 3 => some .supervision | 4 => some .unslotted | 5 => some .service
  | 6 => some .nearFull
  | _ => none

/-- The range of each parameter. -/
def ParamName.range : ParamName → Nat × Nat
  | .window => (5, 60) | .slowLatch => (40, 250) | .supervision => (5, 300) | .unslotted => (5, 120)
  | .service => (1, 60) | .nearFull => (8, 47)

def ParamName.get : ParamName → Params → Nat
  | .window, p => p.window | .slowLatch, p => p.slowLatch | .supervision, p => p.supervision
  | .unslotted, p => p.unslotted | .service, p => p.service | .nearFull, p => p.nearFull

def ParamName.set : ParamName → Nat → Params → Params
  | .window, v, p => { p with window := v }
  | .slowLatch, v, p => { p with slowLatch := v }
  | .supervision, v, p => { p with supervision := v }
  | .unslotted, v, p => { p with unslotted := v }
  | .service, v, p => { p with service := v }
  | .nearFull, v, p => { p with nearFull := v }

/-- PARAM_SET: "A new near-full level is judged in the same event". -/
def State.paramSet (s : State) (r : PairReq) : State × Reply :=
  match ParamName.ofNumber r.first with
  | none => s.refuse .badField
  | some n =>
    if r.second < n.range.1 ∨ n.range.2 < r.second then s.refuse .badField
    else ((s.setParams (n.set r.second s.params)).judgeNearFull, .ok (.oldParam (n.get s.params)))

/-! ### Cabinet time (R117) -/

/-- TIME_SET, in the order of R117: the value, the windows (R85), the advance of R125; nothing moves back (R126). -/
def State.timeSet (s : State) (new : Nat) : State × Reply :=
  let s1 := s.setTime (some new)
  match s.time with
  | none => (s1, .ok (.oldTime none 0))
  | some old =>
    let s2 := if new = old then s1 else s1.shiftWindows old new
    let r := if old < new then State.advance new s2.dueList.length s2 0 else (s2, 0)
    (r.1, .ok (.oldTime (some old) r.2))

/-! ### The meanings -/

def execKeyLoad (tag : Byte) (body : List Byte) (s : State) : Host.Outcome State Fault Refusal :=
  .next (s.takeRequest 0x01 tag (readKeyLoad body) fun r s => s.keyLoad r)

def execKeyDrop (tag : Byte) (body : List Byte) (s : State) : Host.Outcome State Fault Refusal :=
  .next (s.takeRequest 0x02 tag (readOne 4 body) fun n s => s.keyDrop n)

def execBookingLoad (tag : Byte) (body : List Byte) (s : State) : Host.Outcome State Fault Refusal :=
  .next (s.takeRequest 0x03 tag (readBookingLoad body) fun r s => s.bookingLoad r)

def execBookingAmend (tag : Byte) (body : List Byte) (s : State) : Host.Outcome State Fault Refusal :=
  .next (s.takeRequest 0x04 tag (readBookingAmend body) fun r s => s.bookingAmend r)

def execBookingCancel (tag : Byte) (body : List Byte) (s : State) : Host.Outcome State Fault Refusal :=
  .next (s.takeRequest 0x05 tag (readOne 4 body) fun n s => s.bookingCancel n)

def execBookingRetire (tag : Byte) (body : List Byte) (s : State) : Host.Outcome State Fault Refusal :=
  .next (s.takeRequest 0x06 tag (readOne 4 body) fun n s => s.bookingRetire n)

def execPolicySet (tag : Byte) (body : List Byte) (s : State) : Host.Outcome State Fault Refusal :=
  .next (s.takeRequest 0x07 tag (readPolicySet body) fun r s => s.policySet r)

def execParamSet (tag : Byte) (body : List Byte) (s : State) : Host.Outcome State Fault Refusal :=
  .next (s.takeRequest 0x08 tag (readPair 1 2 body) fun r s => s.paramSet r)

def execTimeSet (tag : Byte) (body : List Byte) (s : State) : Host.Outcome State Fault Refusal :=
  .next (s.takeRequest 0x09 tag (readOne 4 body) fun n s => s.timeSet n)

end Sys2Proof.Machine
end

