-- ==== Sys2Proof/Machine/Operations.lean ====
section
/-! DEFINITION. The requests that work the cabinet: RELEASE and CODE_ENTRY (R73, R76 to R78), the alert requests, SLOT_CLEAR,
SLOT_QUARANTINE, MODULE_REVIVE, BIN_DISCARD, the session requests and RESTART. -/

namespace Sys2Proof.Machine

/-! ### Release admission (R76 to R78) -/

/-- The kiosk check, tests 5a to 5d of R73 in order: the refusal, if one fails. -/
def State.kioskRefusal (s : State) (b : Booking) (entered : Nat) : Option Result :=
  match b.kind, b.code with
  | .rental, some code =>
    if Config.codeLimit ≤ b.failures then some .kioskLocked
    else if entered ≠ code then some .codeWrong
    else
      match b.window, s.time with
      | some (a, e), some t => if a ≤ t ∧ t ≤ e then none else some .outsideWindow
      | some _, none => some .outsideWindow
      | none, _ => none
  | _, _ => some .kioskNotAllowed

/-- The kiosk check of a request, which a counter release does not make. -/
def State.codeRefusal (s : State) (b : Booking) (code : Option Nat) : Option Result :=
  match code with
  | some c => s.kioskRefusal b c
  | none => none

/-- No other booking with the same key is RELEASING or OUT (R76, check 6). -/
def State.otherInCustody (s : State) (b : Booking) : Bool :=
  s.bookings.any fun x => x.number != b.number && x.key == b.key && x.inCustody

/-- Checks 6 to 11 of R76: the key's slot (R77), or the refusal. -/
def State.slotFor (s : State) (b : Booking) : Except Result SlotNo :=
  if s.otherInCustody b then .error .keyInCustody
  else
    match s.slotOfKey b.key with
    | none => .error .keyNotInCabinet
    | some n =>
      if s.slotOnline n = false then .error .slotOffline
      else if (s.slot n).service ≠ .inService then .error .slotQuarantined
      else if (s.slot n).queued ∨ (s.slot n).channel.isSome then .error .wrongState
      else if Config.releaseCap ≤ s.release.queue.length then .error .queueFull
      else .ok n

/-- What a release request comes to. -/
inductive Admission where
  | refused (r : Result)
  | accepted (slot : SlotNo) (place : Nat)
  deriving DecidableEq, Repr

/-- Steps 1 to 3 of R78; the place is the length of the queue after the append. -/
def State.takeIn (s : State) (b : Booking) (n : SlotNo) (src : Source) : State × Admission :=
  let s1 := (s.toReleasing b.number src).enqueueRelease { booking := b.number, slot := n, source := src }
  (s1, .accepted n s1.release.queue.length)

/-- A wrong code is counted (R73, test 5c). -/
def State.countCode (s : State) (b : Booking) (r : Result) : State :=
  if r = .codeWrong then s.mapBooking b.number fun x => { x with failures := x.failures + 1 } else s

/-- The checks of R76 in order, `code` being the code a kiosk entry carries, then the admission of R78 up to its answer. -/
def State.askRelease (s : State) (n : Nat) (src : Source) (code : Option Nat) : State × Admission :=
  if s.hold then (s, .refused .supplyHold)
  else if s.inSession then (s, .refused .serviceActive)
  else
    match s.booking? n with
    | none => (s, .refused .notFound)
    | some b =>
      if b.state ≠ .loaded then (s, .refused .wrongState)
      else
        match s.codeRefusal b code with
        | some r => (s.countCode b r, .refused r)
        | none =>
          match s.slotFor b with
          | .error r => (s, .refused r)
          | .ok slot => s.takeIn b slot src

def Admission.reply : Admission → Reply
  | .refused r => .of r
  | .accepted n p => { result := .accepted, fields := .accepted n p }

/-- An admission makes the arbiter run (R78, step 5; R83). -/
def Admission.after : Admission → State → State
  | .refused _, s => s
  | .accepted _ _, s => s.arbiter

/-- RELEASE: booking number 0 is refused before any check; the arbiter runs last (R76, R78). -/
def State.releaseRequest (s : State) (n : Nat) : State × Reply :=
  if n = 0 then s.refuse .badField
  else
    let r := s.askRelease n .counter none
    (r.2.after r.1, r.2.reply)

def Admission.kioskReply (n : Nat) : Admission → KioskReply
  | .refused r => { booking := n, result := r, accepted := none }
  | .accepted slot place => { booking := n, result := .accepted, accepted := some (slot, place) }

/-- CODE_ENTRY: "A booking number of 0, or a code above 999,999, is refused BAD_FIELD before any check" (R73). -/
def State.codeEntry (s : State) (r : PairReq) : State × KioskReply :=
  if r.first = 0 ∨ Config.codeMax < r.second then (s, { booking := r.first, result := .badField, accepted := none })
  else
    let a := s.askRelease r.first .kiosk (some r.second)
    (a.1, a.2.kioskReply r.first)

/-! ### Alerts (R138, R140) -/

/-- ALERT_ACK. -/
def State.alertAck (s : State) (r : PairReq) : State × Reply :=
  match Subject.ofWire r.first r.second with
  | none => s.refuse .badField
  | some x =>
    match s.ackAlert x with
    | some (c, s1) => (s1, .ok (.ackedClass c))
    | none => s.refuse .notFound

/-- ALERT_MASK: 1 to 60 minutes. -/
def State.alertMask (s : State) (minutes : Nat) : State × Reply :=
  if minutes = 0 ∨ 60 < minutes then s.refuse .badField
  else ((s.setAlerts { s.alerts with mask := some (60 * minutes) }).judgeLines).accept

/-- ALERT_UNMASK. -/
def State.alertUnmask (s : State) : State × Reply := ((s.setAlerts { s.alerts with mask := none }).judgeLines).accept

/-! ### Slots (R52, R53) -/

/-- The slot's faults and counts are cleared and it is IN_SERVICE; the count falls if it was QUARANTINED; SLOT_FAULT is
withdrawn (R53). -/
def State.clearSlot (s : State) (n : SlotNo) : State :=
  let u := modUnit (moduleOf n)
  let was := (s.slot n).service
  let s1 := s.modSlotLamp n fun r =>
    { r with faults := .none, slow := 0, chatter := 0, chatterStart := none, service := .inService }
  let s2 := if was = .quarantined then s1.putUnit u { s1.unit u with quarantined := (s1.unit u).quarantined - 1 } else s1
  s2.withdrawAlert (.slot n) [.slotFault]

/-- SLOT_CLEAR. -/
def State.slotClear (s : State) (n : Nat) : State × Reply :=
  if h : n < 384 then
    if s.slotOnline ⟨n, h⟩ then (s.clearSlot ⟨n, h⟩).accept else s.refuse .slotOffline
  else s.refuse .badField

/-- The slot is QUARANTINED with MANUAL and reported; "SLOT_FAULT is not raised"; the module follows R38 (R52). -/
def State.manualQuarantine (s : State) (n : SlotNo) : State :=
  let m := moduleOf n
  let s1 := (s.quarantine n (some .manual)).reportFault n none .manual none
  if s1.fullNow m (s.quarantinedOf m) then (s1.retire m).arbiter else s1

/-- SLOT_QUARANTINE. -/
def State.slotQuarantine (s : State) (n : Nat) : State × Reply :=
  if h : n < 384 then
    if (s.slot ⟨n, h⟩).channel.isSome ∨ (s.slot ⟨n, h⟩).queued then s.refuse .wrongState
    else (s.manualQuarantine ⟨n, h⟩).accept
  else s.refuse .badField

/-! ### Units and the bin (R39, R112) -/

/-- MODULE_REVIVE: the checks of R39 in order. -/
def State.moduleRevive (s : State) (a : Nat) : State × Reply :=
  match unitAt a with
  | none => s.refuse .badField
  | some u =>
    if s.hold then s.refuse .supplyHold
    else
      match (s.unit u).state with
      | .absent => (s.revive u .reviveAbsent).accept
      | .retired => (s.revive u .reviveRetired).accept
      | _ => s.refuse .wrongState

/-- BIN_DISCARD (R112). -/
def State.binDiscard (s : State) (d : Nat) : State × Reply :=
  match s.drop? d with
  | none => s.refuse .notFound
  | some e => if e.state = .inHand then (s.binLeave e).accept else s.refuse .wrongState

/-! ### Sessions and RESTART (R168, R172, R175) -/

/-- SERVICE_BEGIN: the checks of R172 in order. -/
def State.serviceBegin (s : State) : State × Reply :=
  if s.hold then s.refuse .supplyHold
  else if s.inSession then s.refuse .wrongState
  else if s.usedChannels ≠ 0 ∨ s.release.queue ≠ [] then s.refuse .wrongState
  else (s.beginSession, .ok (.limit (60 * s.params.service)))

/-- SERVICE_END (R175). -/
def State.serviceEnd (s : State) : State × Reply :=
  if s.inSession then (s.endSession .ended, .ok (.left s.session.removals.length)) else s.refuse .wrongState

/-! ### The meanings -/

def execRelease (tag : Byte) (body : List Byte) (s : State) : Host.Outcome State Fault Refusal :=
  .next (s.takeRequest 0x0A tag (readOne 4 body) fun n s => s.releaseRequest n)

def execAlertAck (tag : Byte) (body : List Byte) (s : State) : Host.Outcome State Fault Refusal :=
  .next (s.takeRequest 0x0B tag (readPair 1 4 body) fun r s => s.alertAck r)

def execAlertMask (tag : Byte) (body : List Byte) (s : State) : Host.Outcome State Fault Refusal :=
  .next (s.takeRequest 0x0C tag (readOne 1 body) fun n s => s.alertMask n)

def execAlertUnmask (tag : Byte) (body : List Byte) (s : State) : Host.Outcome State Fault Refusal :=
  .next (s.takeRequest 0x0D tag (readNone body) fun _ s => s.alertUnmask)

def execSlotClear (tag : Byte) (body : List Byte) (s : State) : Host.Outcome State Fault Refusal :=
  .next (s.takeRequest 0x0E tag (readOne 2 body) fun n s => s.slotClear n)

def execSlotQuarantine (tag : Byte) (body : List Byte) (s : State) : Host.Outcome State Fault Refusal :=
  .next (s.takeRequest 0x0F tag (readOne 2 body) fun n s => s.slotQuarantine n)

def execModuleRevive (tag : Byte) (body : List Byte) (s : State) : Host.Outcome State Fault Refusal :=
  .next (s.takeRequest 0x10 tag (readOne 1 body) fun n s => s.moduleRevive n)

def execBinDiscard (tag : Byte) (body : List Byte) (s : State) : Host.Outcome State Fault Refusal :=
  .next (s.takeRequest 0x11 tag (readOne 2 body) fun n s => s.binDiscard n)

def execServiceBegin (tag : Byte) (body : List Byte) (s : State) : Host.Outcome State Fault Refusal :=
  .next (s.takeRequest 0x12 tag (readNone body) fun _ s => s.serviceBegin)

def execServiceEnd (tag : Byte) (body : List Byte) (s : State) : Host.Outcome State Fault Refusal :=
  .next (s.takeRequest 0x13 tag (readNone body) fun _ s => s.serviceEnd)

/-- RESTART "carries no fields and has no refusal"; its answer is OK, and the start-up follows when it has been sent. -/
def execRestart (tag : Byte) (body : List Byte) (s : State) : Host.Outcome State Fault Refusal :=
  .next (s.takeRequest 0x14 tag (readNone body) fun _ s => s.accept)

/-- A CODE_ENTRY body is booking number (4) and code (3) (R179); the arbiter runs last (R78, step 5). -/
def execCodeEntry (tag : Byte) (body : List Byte) (s : State) : Host.Outcome State Fault Refusal :=
  .next (s.takeKioskFrame tag
    (fun s =>
      match readPair 4 3 body with
      | some r => s.codeEntry r
      | none => (s, .of .badField))
    KioskReply.after)

end Sys2Proof.Machine
end

