-- ==== Sys2Proof/Machine/Queries.lean ====
section
/-! DEFINITION. The meanings of the query rows, HEARTBEAT, and the frames of unknown kinds. -/

namespace Sys2Proof.Machine

/-- A request answered from the state with nothing changed. -/
def asked {α : Type} (f : State → α → Reply) (a : α) (s : State) : State × Reply := (s, f s a)

/-- STATUS_QUERY: the part byte decides (R158). -/
def State.takeStatusQuery (s : State) (tag : Byte) (body : List Byte) : State :=
  s.takeRequest 0x15 tag (readOne 1 body) (asked State.statusQuery)

/-- BOOKING_QUERY: the form byte decides (R74, R75, R179). -/
def State.takeBookingQuery (s : State) (tag : Byte) (body : List Byte) : State :=
  s.takeRequest 0x17 tag (readBookingQuery body) (asked fun s r =>
    match r with
    | .single n => s.bookingQuery n
    | .list n => s.bookingList n)

/-- ALERT_QUERY: the form byte decides (R143, R144, R179). -/
def State.takeAlertQuery (s : State) (tag : Byte) (body : List Byte) : State :=
  s.takeRequest 0x19 tag (readAlertQuery body) (asked fun s r =>
    match r with
    | .list => .ok (.alerts s.alertListAnswer)
    | .subject k i => s.subjectQuery k i)

/-! ### The meanings -/

def execStatusQuery (tag : Byte) (body : List Byte) (s : State) : Host.Outcome State Fault Refusal :=
  .next (s.takeStatusQuery tag body)

def execStatusQueryUnits (tag : Byte) (body : List Byte) (s : State) : Host.Outcome State Fault Refusal :=
  .next (s.takeStatusQuery tag body)

def execSlotQuery (tag : Byte) (body : List Byte) (s : State) : Host.Outcome State Fault Refusal :=
  .next (s.takeRequest 0x16 tag (readPair 2 1 body) (asked fun s r => s.slotQuery r.first r.second))

def execBookingQuery (tag : Byte) (body : List Byte) (s : State) : Host.Outcome State Fault Refusal :=
  .next (s.takeBookingQuery tag body)

def execBookingQueryList (tag : Byte) (body : List Byte) (s : State) : Host.Outcome State Fault Refusal :=
  .next (s.takeBookingQuery tag body)

def execKeyQuery (tag : Byte) (body : List Byte) (s : State) : Host.Outcome State Fault Refusal :=
  .next (s.takeRequest 0x18 tag (readOne 4 body) (asked State.keyQuery))

def execAlertQuery (tag : Byte) (body : List Byte) (s : State) : Host.Outcome State Fault Refusal :=
  .next (s.takeAlertQuery tag body)

def execAlertQuerySubject (tag : Byte) (body : List Byte) (s : State) : Host.Outcome State Fault Refusal :=
  .next (s.takeAlertQuery tag body)

/-- HEARTBEAT answers "the link state as it stood before the HEARTBEAT's frame was taken" (R156). -/
def execHeartbeat (tag : Byte) (body : List Byte) (s : State) : Host.Outcome State Fault Refusal :=
  .next (s.takeRequest 0x1A tag (readNone body) (asked fun t _ => t.heartbeat s.link.state))

def execUnknownKind (kind tag : Byte) (_body : List Byte) (s : State) : Host.Outcome State Fault Refusal :=
  .next (s.takeUnknown kind tag)

def execKioskUnknownKind (_kind tag : Byte) (_body : List Byte) (s : State) : Host.Outcome State Fault Refusal :=
  .next (s.takeKioskFrame tag (fun s => (s, .of .unknownKind)) fun _ s => s)

end Sys2Proof.Machine
end

