-- ==== Sys2Proof/Machine/Events.lean ====
section
/-! DEFINITION. The meanings of the rows that are no request: the ports' receivers and transmitters, start-up and RESET,
supply and panel, the boundary and the expiries, and the Slot Bus. Each is one line over a named operation. -/

namespace Sys2Proof.Machine

/-! ### Ports -/

def execFrameCrcError (p : Port) (s : State) : Host.Outcome State Fault Refusal := .next (s.event fun s => s.crcError p)

def execFrameTimeout (p : Port) (clock : Nat) (s : State) : Host.Outcome State Fault Refusal :=
  .next (s.event fun s => s.frameTimeout p clock)

def execFrameFormatError (p : Port) (s : State) : Host.Outcome State Fault Refusal :=
  .next (s.event fun s => s.formatError p)

def execFrameStartMarker (p : Port) (clock : Nat) (s : State) : Host.Outcome State Fault Refusal :=
  .next (s.event fun s => s.marker p clock)

def execLinkFrameSent (s : State) : Host.Outcome State Fault Refusal := .next (s.event State.linkSent)

def execKioskFrameSent (s : State) : Host.Outcome State Fault Refusal := .next (s.event State.kioskSent)

/-! ### Start-up and RESET -/

def execRestartRequest (pins : Pins) (s : State) : Host.Outcome State Fault Refusal :=
  .next (s.event fun s => s.restartNow pins)

def execPowerOn (pins : Pins) (resetLow : Bool) (s : State) : Host.Outcome State Fault Refusal :=
  .next (if resetLow then s.powerOnWaiting pins else startUp s.pending pins .powerOn)

def execResetAsserted (s : State) : Host.Outcome State Fault Refusal := .next s.stop

def execResetLine (pins : Pins) (s : State) : Host.Outcome State Fault Refusal := .next (s.resetReleased pins)

/-! ### Supply and panel: SUPA high, low and high in the three supply rows -/

def execSupplyChange (supb : Bool) (s : State) : Host.Outcome State Fault Refusal :=
  .next (s.event fun s => s.supplyTo true supb)

def execHoldEntry (supb : Bool) (s : State) : Host.Outcome State Fault Refusal :=
  .next (s.event fun s => s.supplyTo false supb)

def execHoldExit (supb : Bool) (s : State) : Host.Outcome State Fault Refusal :=
  .next (s.event fun s => s.supplyTo true supb)

def execPanelChange (isOpen : Bool) (s : State) : Host.Outcome State Fault Refusal :=
  .next (s.event fun s => s.panelTo isOpen)

/-! ### Time -/

def execOneSecondBoundary (s : State) : Host.Outcome State Fault Refusal := .next (s.event State.boundary)

def execDeadlineExpiry (s : State) : Host.Outcome State Fault Refusal := .next (s.event State.takeDeadlines)

def execWindowExpiry (c : Fin 4) (s : State) : Host.Outcome State Fault Refusal :=
  .next (s.event fun s => s.windowExpiry c)

def execRecoveryRetry (addr : Byte) (s : State) : Host.Outcome State Fault Refusal :=
  .next (s.event fun s =>
    match unitAt addr.toNat with
    | some u => s.retryProbe u
    | none => s)

def execUnslottedLimitReached (s : State) : Host.Outcome State Fault Refusal := .next (s.event State.markUnslotted)

def execMaskExpiry (s : State) : Host.Outcome State Fault Refusal := .next (s.event State.maskExpiry)

def execSupervisionExpiry (s : State) : Host.Outcome State Fault Refusal := .next (s.event State.supervisionExpiry)

def execServiceLimitExpiry (s : State) : Host.Outcome State Fault Refusal := .next (s.event State.serviceLimitExpiry)

/-! ### Slot Bus -/

def execProbeReply (addr : Byte) (payload : List Byte) (s : State) : Host.Outcome State Fault Refusal :=
  .next (s.event fun s => s.takeReply addr (readProbeReply payload))

def execPollReply (addr : Byte) (payload : List Byte) (s : State) : Host.Outcome State Fault Refusal :=
  .next (s.event fun s => s.takeReply addr (readPollReply payload))

def execStatusReply (addr : Byte) (payload : List Byte) (s : State) : Host.Outcome State Fault Refusal :=
  .next (s.event fun s => s.takeReply addr (readStatusReply payload))

def execLatchOpenReply (addr : Byte) (payload : List Byte) (s : State) : Host.Outcome State Fault Refusal :=
  .next (s.event fun s => s.takeReply addr (readLatchReply .openIt payload))

def execLatchCloseReply (addr : Byte) (payload : List Byte) (s : State) : Host.Outcome State Fault Refusal :=
  .next (s.event fun s => s.takeReply addr (readLatchReply .closeIt payload))

def execLampsReply (addr : Byte) (payload : List Byte) (s : State) : Host.Outcome State Fault Refusal :=
  .next (s.event fun s => s.takeReply addr (readLampsReply payload))

def execFlapReply (addr : Byte) (payload : List Byte) (s : State) : Host.Outcome State Fault Refusal :=
  .next (s.event fun s => s.takeReply addr (readFlapFrame payload))

def execBadReply (s : State) : Host.Outcome State Fault Refusal := .next (s.event State.miss)

def execReplyDeadline (clock : Nat) (s : State) : Host.Outcome State Fault Refusal :=
  .next (s.event fun s => s.replyDeadline clock)

def execCommandLastByteSent (clock : Nat) (s : State) : Host.Outcome State Fault Refusal :=
  .next (s.event fun s => s.commandSent clock)

end Sys2Proof.Machine
end

