-- ==== Sys2Proof/Machine/Dispatch.lean ====
section
/-! DEFINITION. One arm for each command: a direct call of its meaning. -/

namespace Sys2Proof.Machine

def exec (i : Instr) (s : State) : Host.Outcome State Fault Refusal :=
  match i with
  | .keyLoad tag body => Sys2Proof.Machine.execKeyLoad tag body s
  | .keyDrop tag body => Sys2Proof.Machine.execKeyDrop tag body s
  | .bookingLoad tag body => Sys2Proof.Machine.execBookingLoad tag body s
  | .bookingAmend tag body => Sys2Proof.Machine.execBookingAmend tag body s
  | .bookingCancel tag body => Sys2Proof.Machine.execBookingCancel tag body s
  | .bookingRetire tag body => Sys2Proof.Machine.execBookingRetire tag body s
  | .policySet tag body => Sys2Proof.Machine.execPolicySet tag body s
  | .paramSet tag body => Sys2Proof.Machine.execParamSet tag body s
  | .timeSet tag body => Sys2Proof.Machine.execTimeSet tag body s
  | .release tag body => Sys2Proof.Machine.execRelease tag body s
  | .alertAck tag body => Sys2Proof.Machine.execAlertAck tag body s
  | .alertMask tag body => Sys2Proof.Machine.execAlertMask tag body s
  | .alertUnmask tag body => Sys2Proof.Machine.execAlertUnmask tag body s
  | .slotClear tag body => Sys2Proof.Machine.execSlotClear tag body s
  | .slotQuarantine tag body => Sys2Proof.Machine.execSlotQuarantine tag body s
  | .moduleRevive tag body => Sys2Proof.Machine.execModuleRevive tag body s
  | .binDiscard tag body => Sys2Proof.Machine.execBinDiscard tag body s
  | .serviceBegin tag body => Sys2Proof.Machine.execServiceBegin tag body s
  | .serviceEnd tag body => Sys2Proof.Machine.execServiceEnd tag body s
  | .restart tag body => Sys2Proof.Machine.execRestart tag body s
  | .statusQuery tag body => Sys2Proof.Machine.execStatusQuery tag body s
  | .statusQueryUnits tag body => Sys2Proof.Machine.execStatusQueryUnits tag body s
  | .slotQuery tag body => Sys2Proof.Machine.execSlotQuery tag body s
  | .bookingQuery tag body => Sys2Proof.Machine.execBookingQuery tag body s
  | .bookingQueryList tag body => Sys2Proof.Machine.execBookingQueryList tag body s
  | .keyQuery tag body => Sys2Proof.Machine.execKeyQuery tag body s
  | .alertQuery tag body => Sys2Proof.Machine.execAlertQuery tag body s
  | .alertQuerySubject tag body => Sys2Proof.Machine.execAlertQuerySubject tag body s
  | .heartbeat tag body => Sys2Proof.Machine.execHeartbeat tag body s
  | .unknownKind kind tag body => Sys2Proof.Machine.execUnknownKind kind tag body s
  | .codeEntry tag body => Sys2Proof.Machine.execCodeEntry tag body s
  | .kioskUnknownKind kind tag body => Sys2Proof.Machine.execKioskUnknownKind kind tag body s
  | .frameCrcError port => Sys2Proof.Machine.execFrameCrcError port s
  | .frameTimeout port clock => Sys2Proof.Machine.execFrameTimeout port clock s
  | .frameFormatError port => Sys2Proof.Machine.execFrameFormatError port s
  | .linkFrameSent => Sys2Proof.Machine.execLinkFrameSent s
  | .kioskFrameSent => Sys2Proof.Machine.execKioskFrameSent s
  | .restartRequest pins => Sys2Proof.Machine.execRestartRequest pins s
  | .powerOn pins resetLow => Sys2Proof.Machine.execPowerOn pins resetLow s
  | .resetAsserted => Sys2Proof.Machine.execResetAsserted s
  | .resetLine pins => Sys2Proof.Machine.execResetLine pins s
  | .supplyChange supb => Sys2Proof.Machine.execSupplyChange supb s
  | .holdEntry supb => Sys2Proof.Machine.execHoldEntry supb s
  | .holdExit supb => Sys2Proof.Machine.execHoldExit supb s
  | .panelChange isOpen => Sys2Proof.Machine.execPanelChange isOpen s
  | .oneSecondBoundary => Sys2Proof.Machine.execOneSecondBoundary s
  | .deadlineExpiry => Sys2Proof.Machine.execDeadlineExpiry s
  | .windowExpiry channel => Sys2Proof.Machine.execWindowExpiry channel s
  | .recoveryRetry unit => Sys2Proof.Machine.execRecoveryRetry unit s
  | .unslottedLimitReached => Sys2Proof.Machine.execUnslottedLimitReached s
  | .maskExpiry => Sys2Proof.Machine.execMaskExpiry s
  | .supervisionExpiry => Sys2Proof.Machine.execSupervisionExpiry s
  | .serviceLimitExpiry => Sys2Proof.Machine.execServiceLimitExpiry s
  | .probeReply unit payload => Sys2Proof.Machine.execProbeReply unit payload s
  | .pollReply unit payload => Sys2Proof.Machine.execPollReply unit payload s
  | .statusReply unit payload => Sys2Proof.Machine.execStatusReply unit payload s
  | .latchOpenReply unit payload => Sys2Proof.Machine.execLatchOpenReply unit payload s
  | .latchCloseReply unit payload => Sys2Proof.Machine.execLatchCloseReply unit payload s
  | .lampsReply unit payload => Sys2Proof.Machine.execLampsReply unit payload s
  | .flapReply unit payload => Sys2Proof.Machine.execFlapReply unit payload s
  | .badReply => Sys2Proof.Machine.execBadReply s
  | .replyDeadline clock => Sys2Proof.Machine.execReplyDeadline clock s
  | .frameStartMarker port clock => Sys2Proof.Machine.execFrameStartMarker port clock s
  | .commandLastByteSent clock => Sys2Proof.Machine.execCommandLastByteSent clock s

end Sys2Proof.Machine
end

