-- ==== Sys2Proof/Safety.lean ====
section
/-! DEFINITION. The terms claims are stated in: a state without its alert fields, lamps, bus and ports (what most rules speak
of), and the laws the spec says the part keeps. -/

namespace Sys2Proof.Machine

/-! ### The tables of a state -/

def KeyEntry.bare (e : KeyEntry) : KeyEntry := { e with alert := .clear }
def SlotRec.bare (r : SlotRec) : SlotRec := { r with lamp := .off, alert := .clear }
def Booking.bare (b : Booking) : Booking := { b with alert := .clear }
def DropEntry.bare (e : DropEntry) : DropEntry := { e with alert := .clear }
def UnitRec.bare (r : UnitRec) : UnitRec := { r with lampsWanted := false, alert := .clear }
def CondRec.bare (r : CondRec) : CondRec := { r with alert := .clear }

/-- The state with everything set aside that the Alert Unit, the lamps, the Slot Bus and the two ports keep for themselves:
alert fields, the Alert List and the lines, lamp fields and LAMPS updates, the pending LATCH commands and the transaction in
flight, the Branch Link, and the Kiosk Port but for its enable. What stays is the tables, the release unit, the units, the
conditions' active flags, time, parameters, policy, mode, session, pins and the mask. -/
def State.tables (s : State) : State :=
  { s with
    conds := s.conds.map CondRec.bare
    alerts := { list := [], mask := s.alerts.mask, lines := .none }
    directory := s.directory.map KeyEntry.bare
    bookings := s.bookings.map Booking.bare
    slots := s.slots.map SlotRec.bare
    units := s.units.map UnitRec.bare
    bus := { latches := [], nextAge := 0, lastPolled := none, flight := none }
    bin := { s.bin with entries := s.bin.entries.map DropEntry.bare }
    link := .start
    kiosk := .start s.kiosk.enabled }

/-! ### Laws of the part -/

/-- R150, R152, R162: the queues of the ports. -/
def State.portsBounded (s : State) : Prop :=
  s.link.answers.length ≤ 4 ∧ s.link.reports.length ≤ 32 ∧ s.kiosk.notices.length ≤ 4

/-- R134: "The Alert List holds at most 8 records". -/
def State.alertListBounded (s : State) : Prop := s.alerts.list.length ≤ 8

/-- R1, R59, R79, R99, R173: the capacities of the tables. -/
def State.tablesBounded (s : State) : Prop :=
  s.directory.length ≤ 512 ∧ s.bookings.length ≤ 256 ∧ s.release.queue.length ≤ 16 ∧ s.bin.entries.length ≤ 64
    ∧ s.inBinCount ≤ 48 ∧ s.session.removals.length ≤ 32

/-- R1, R59: the Directory and the Booking Table are kept in ascending number, which are therefore unique. -/
def State.tablesOrdered (s : State) : Prop :=
  (s.directory.map (·.tag)).Pairwise (· < ·) ∧ (s.bookings.map (·.number)).Pairwise (· < ·)

/-- R157, R132: every parameter in its range, every priority from 0 to 7. -/
def State.settingsInRange (s : State) : Prop :=
  (5 ≤ s.params.window ∧ s.params.window ≤ 60) ∧ (40 ≤ s.params.slowLatch ∧ s.params.slowLatch ≤ 250)
    ∧ (5 ≤ s.params.supervision ∧ s.params.supervision ≤ 300) ∧ (5 ≤ s.params.unslotted ∧ s.params.unslotted ≤ 120)
    ∧ (1 ≤ s.params.service ∧ s.params.service ≤ 60) ∧ (8 ≤ s.params.nearFull ∧ s.params.nearFull ≤ 47)
    ∧ ∀ c : AlertClass, (s.policyOf c).priority ≤ 7

/-- R139: the three lines are driven by the mask, the Alert List and the Policy Table; released while RESET is asserted. -/
def State.linesRight (s : State) : Prop :=
  s.alerts.lines = if s.power.stopped then .none else s.judgedLines

/-- R40, R82, R94: in HOLD no transaction is in flight, no unit is ONLINE and the budget is 0. -/
def State.holdQuiet (s : State) : Prop :=
  s.mode.level = .lost → s.bus.flight = none ∧ (∀ u : UnitIx, (s.unit u).state ≠ .online) ∧ s.release.budget = 0

/-- R115: cabinet time is a value from 0 to 4,294,967,295, or unset. -/
def State.timeInRange (s : State) : Prop := ∀ t : Nat, s.time = some t → t ≤ Config.maxTime

/-! ### A frame taken and answered -/

/-- A Branch Link frame that comes in is taken: the part runs (R168) and the Answer Queue has room (R149). -/
def State.hears (s : State) : Prop := s.power.stopped = false ∧ s.link.answers.length < 4

/-- The transmitter and the Answer Queue once the transmitter, if it was IDLE, has taken the oldest answer at the end of the
event (R151). -/
def BranchLink.moved (l : BranchLink) : LinkTx × List Answer :=
  match l.tx, l.answers with
  | .sending f, q => (.sending f, q)
  | _, x :: q => (.sending (.answer x), q)
  | tx, [] => (tx, [])

/-- The same once an answer has joined the queue (R150, R151). -/
def BranchLink.given (l : BranchLink) (a : Answer) : LinkTx × List Answer :=
  { l with answers := l.answers ++ [a] }.moved

/-- Step 1 of R148 as far as the tables go: a valid frame ends STANDALONE, and with it the LINK_LOST condition (R154). -/
def State.heard (s : State) : State :=
  if s.link.state = .standalone then s.putCond .linkLost { s.cond .linkLost with active := false } else s

/-- A next state `t` in which a frame that came in at `s` has been taken: the tables are those of `u`, the answer `a` has
joined the Answer Queue, the receiver is SEARCHING, the link CONNECTED, and supervision runs anew (R148, R154, R155). -/
def Answered (s t : State) (a : Answer) (u : State) : Prop :=
  t.tables = u.tables ∧ (t.link.tx, t.link.answers) = s.link.given a
    ∧ t.link.rx = .searching ∧ t.link.state = .connected ∧ t.link.supervision = some t.params.supervision

/-- The command ANSWERS A NEXT STATE in which its frame has been taken and answered. -/
def Served (s : State) (i : Instr) (a : Answer) (u : State) : Prop := ∃ t : State, exec i s = .next t ∧ Answered s t a u

/-- The command ANSWERS A NEXT STATE that differs from step 1 of R148 in nothing but the answer, supervision, and the bus's
next command. -/
def Asked (s : State) (i : Instr) (a : Answer) : Prop :=
  exec i s = .next
    (s.frameBegin.setLink
      { s.frameBegin.link with
        tx := (s.link.given a).1, answers := (s.link.given a).2, supervision := some s.params.supervision }).chooseCommand

/-- A counter of 16 bits rises by 1 and stops at 65,535 (R147, R159). -/
def up (n : Nat) : Nat := if n < 65535 then n + 1 else n

/-- The command ANSWERS A NEXT STATE that differs from step 1 of R148 in nothing but the overrun count, supervision, the
transmitter's next answer, and the bus's next command: no answer is placed and no block has acted (R149). -/
def Overrun (s : State) (i : Instr) : Prop :=
  exec i s = .next
    (s.frameBegin.setLink
      { s.frameBegin.link with
        tx := s.link.moved.1, answers := s.link.moved.2, supervision := some s.params.supervision
        counts := { s.frameBegin.link.counts with overrun := up s.frameBegin.link.counts.overrun } }).chooseCommand

/-- An answer with no fields behind its result. -/
def plain (kind tag : Byte) (r : Result) : Answer := { kind, tag, result := r, fields := .nothing }

/-- A kiosk frame that comes in is taken: the part runs (R168), the port is enabled (R160) and the answer place is empty
(R161). -/
def State.kioskHears (s : State) : Prop :=
  s.power.stopped = false ∧ s.kiosk.enabled = true ∧ s.kiosk.answer = none

/-- The transmitter and the answer place once a KIOSK_ANSWER has been placed and an IDLE transmitter has taken it (R162). -/
def KioskPort.given (k : KioskPort) (a : KioskAnswer) : KioskTx × Option KioskAnswer :=
  if k.tx = .idle then (.sending (.answer a), none) else (k.tx, some a)

/-- The command ANSWERS A NEXT STATE in which its kiosk frame has been taken and answered (R161). -/
def KioskServed (s : State) (i : Instr) (a : KioskAnswer) (u : State) : Prop :=
  ∃ t : State, exec i s = .next t ∧ t.tables = u.tables ∧ (t.kiosk.tx, t.kiosk.answer) = s.kiosk.given a
    ∧ t.kiosk.rx = .searching

/-! ### Other commands -/

/-- The command ANSWERS A NEXT STATE: `u`, with the bus taking its next command if it is idle (R31). -/
def Gives (s : State) (i : Instr) (u : State) : Prop := exec i s = .next u.chooseCommand

/-- The command ANSWERS A NEXT STATE that differs from `s` in nothing but its KIOSK_ANSWER, the kiosk receiver, and the bus's
next command. -/
def KioskAsked (s : State) (i : Instr) (a : KioskAnswer) : Prop :=
  Gives s i { s with kiosk := { s.kiosk with rx := .searching, tx := (s.kiosk.given a).1, answer := (s.kiosk.given a).2 } }

/-- The command ANSWERS A NEXT STATE whose tables are those of `u`. -/
def Makes (s : State) (i : Instr) (u : State) : Prop := ∃ t : State, exec i s = .next t ∧ t.tables = u.tables

/-- The grant arbiter has nothing to do: "the queue is empty or the count of non-FREE channels has reached the budget"
(R83). -/
def State.granted (s : State) : Prop := s.release.queue = [] ∨ s.release.budget ≤ s.usedChannels

/-- The body of the last report that waits. -/
def State.lastReport (s : State) : Option ReportBody := s.link.reports.getLast?.map (·.body)

/-- The Branch Link transmitter is SENDING (R151). -/
def State.linkBusy (s : State) : Prop := ∃ f : LinkFrame, s.link.tx = .sending f

/-- A LATCH command of a channel, or of none for a stray close, waits in the pending set or is being sent (R30, R31). -/
def State.latchAsked (s : State) (n : SlotNo) (dir : LatchDir) (c : Option ChanNo) : Prop :=
  ∃ l : LatchCmd, l.slot = n ∧ l.dir = dir ∧ l.channel = c
    ∧ (l ∈ s.bus.latches ∨ ∃ f : Flight, s.bus.flight = some f ∧ f.cmd = .latch l)

/-- The Kiosk Port is enabled and its transmitter sends a frame, so that a notice placed waits in its queue (R162). -/
def State.kioskBusy (s : State) : Prop := s.kiosk.enabled = true ∧ ∃ f : KioskFrame, s.kiosk.tx = .sending f

/-- Between `s` and `t` the one notice of a release has been placed where its source is KIOSK, and none where it is not
(R98). -/
def State.tells (s t : State) (source : Option Source) (booking : Nat) (event : NoticeEvent) : Prop :=
  s.kioskBusy →
    (source = some .kiosk → t.kiosk.notices.getLast? = some { booking, event })
      ∧ (source ≠ some .kiosk → t.kiosk.notices = s.kiosk.notices)

/-- A condition's active flag is set to `b`. -/
def State.condTo (s : State) (c : Condition) (b : Bool) : State := s.putCond c { s.cond c with active := b }

/-- PANEL_OPEN judged by R171. -/
def State.panelJudged (s : State) : State :=
  s.condTo .panelOpen (s.mode.panelOpen && s.session.remaining.isNone && !(s.cond .serviceOverrun).active)

/-- CHUTE_NEAR_FULL judged by R109. -/
def State.nearFullJudged (s : State) : State := s.condTo .chuteNearFull (decide (s.params.nearFull ≤ s.inBinCount))

/-- Flap wanted judged by R107, and CHUTE_LOCKED by R108 where it has changed. -/
def State.flapJudged (s : State) : State :=
  let want : FlapPos := if 48 ≤ s.inBinCount ∨ 64 ≤ s.bin.entries.length then .locked else .unlocked
  let refused := s.chute.refused && want == .unlocked
  if want = s.chute.wanted then s
  else { s with chute := { s.chute with wanted := want, refused } }.condTo .chuteLocked (want == FlapPos.locked || refused)

/-- Every IN_BIN entry is handed over at cabinet time, and what rests on the counts judged again (R110). -/
def State.handedOver (s : State) : State :=
  State.flapJudged (State.nearFullJudged
    { s with
      bin := { s.bin with
        entries := s.bin.entries.map fun x =>
          if x.state = .inBin then { x with state := .inHand, handed := s.time, age := 0 } else x } })

/-- Everything of a booking's last release is forgotten: the booking has left LOADED (R60, R9). -/
def State.lastReleaseCleared (s : State) (n : Nat) : State :=
  { s with slots := s.slots.map fun r => if r.lastRelease = some n then { r with lastRelease := none } else r }

/-- The bookings with a number, changed. -/
def State.withBooking (s : State) (n : Nat) (f : Booking → Booking) : State :=
  { s with bookings := s.bookings.map fun b => if b.number = n then f b else b }

/-- A channel, a slot and a unit, changed. -/
def State.withChan (s : State) (c : ChanNo) (x : Channel) : State :=
  { s with release := { s.release with channels := s.release.channels.set c x } }
def State.withSlot (s : State) (n : SlotNo) (f : SlotRec → SlotRec) : State := { s with slots := s.slots.set n (f s.slots[n]) }
def State.withUnit (s : State) (u : UnitIx) (f : UnitRec → UnitRec) : State := { s with units := s.units.set u (f s.units[u]) }

/-- A Directory key's missing flag (R5). -/
def State.withMissing (s : State) (tag : Nat) (b : Bool) : State :=
  { s with directory := s.directory.map fun e => if e.tag = tag then { e with missing := b } else e }

/-- A change counted by R50, where it is counted at all. -/
def SlotRec.changed (r : SlotRec) (time : Option Nat) : SlotRec :=
  match time with
  | some t => if r.faults.sensorChatter then r else r.counted t
  | none => r

/-- A slot emptied by a removal that is counted (R15, R50). -/
def State.emptied (s : State) (n : SlotNo) : State :=
  s.withSlot n fun r => { r with occ := .empty, tag := none, since := s.time }.changed s.time

/-- A slot emptied by a removal that is not counted, the slot holding a channel (R15, R50). -/
def State.emptiedUncounted (s : State) (n : SlotNo) : State :=
  s.withSlot n fun r => { r with occ := .empty, tag := none, since := s.time }

/-- A change that has been counted was the seventh of a slot without a chatter fault (R50, R51). -/
def State.chattered (s : State) (n : SlotNo) : Bool :=
  s.time.isSome && !(s.slot n).faults.sensorChatter && decide (7 ≤ (s.slot n).chatter)

/-- A slot QUARANTINED for a fault, the module's count rising where it was not QUARANTINED (R44, R46, R47, R51). -/
def State.outOfService (s : State) (n : SlotNo) (f : FaultSet → FaultSet) : State :=
  (s.withSlot n fun r => { r with service := .quarantined, faults := f r.faults }).withUnit (modUnit (moduleOf n)) fun x =>
    { x with quarantined := if (s.slot n).service = .quarantined then x.quarantined else x.quarantined + 1 }

/-- A queue entry gone, its slot not queued, and its booking LOADED (R80). -/
def State.unqueued (s : State) (e : QueueEntry) : State :=
  { (s.withBooking e.booking fun b => { b with state := .loaded }).withSlot e.slot fun r => { r with queued := false } with
    release := { s.release with queue := s.release.queue.erase e } }

/-- R51 judged after a change that has been counted: on the seventh, SENSOR_CHATTER joins the fault set, the slot is QUARANTINED,
and its queue entry is aborted. -/
def State.chatterJudged (s : State) (n : SlotNo) : State :=
  if s.chattered n then
    let q := s.outOfService n fun f => { f with sensorChatter := true }
    match s.release.queue.find? fun e => e.slot == n with
    | some e => q.unqueued e
    | none => q
  else s

/-- A slot filled by an insertion that is counted (R12, R13, R9, R50). -/
def State.filled (s : State) (n : SlotNo) (occ : Occupancy) (tag : Option Nat) : State :=
  s.withSlot n fun r => { r with occ, tag, since := s.time, lastRelease := none }.changed s.time

/-- A removal that is no late take: noted in a session whose list has room, and otherwise forced, so that its key is missing
(R16, R17, R173). -/
def State.removedFrom (s : State) (n : SlotNo) (tag : Option Nat) : State :=
  if s.session.remaining.isSome ∧ s.session.removals.length < 32 then
    { s with session := { s.session with removals := s.session.removals ++ [{ tag, slot := n, time := s.time }] } }
  else
    match tag with
    | some k => s.withMissing k true
    | none => s

/-- A late take of a booking at a cabinet time (R90, R71, R121). -/
def State.takenLate (s : State) (b : Booking) (now : Nat) : State :=
  { (s.withBooking b.number fun y => { y with state := .out, taken := some now, stage := some (b.stageAt now) }).lastReleaseCleared
      b.number with
    dueList :=
      let others := s.dueList.filter fun e => e.booking != b.number
      match b.nextDeadline (b.stageAt now) with
      | some d => insertBy DueEntry.before { deadline := d, booking := b.number } others
      | none => others }

/-- A key that has come to a slot: its OUT booking is RETURNED there and leaves the Due List, it is not missing, and no session
has it as removed (R101, R102, R5, R173). -/
def State.cameBack (s : State) (k : Nat) (n : SlotNo) : State :=
  let struck : State :=
    { s.withMissing k false with
      session := { s.session with
        removals :=
          if s.session.remaining.isSome then s.session.removals.filter fun r => r.tag != some k else s.session.removals } }
  match s.outBooking k with
  | some b =>
    { struck.withBooking b.number fun x =>
        { x with
          state := .returned
          returned := some { time := s.time, place := .slot n }
          lateness := s.time.map fun t => min ((t - x.due + 59) / 60) 65535 } with
      dueList := s.dueList.filter fun e => e.booking != b.number }
  | none => struck

/-- A command of kind `c` is in flight to unit `u`, whose record lets its reply be delivered, and a frame from address `addr` is
that unit's (R23, R26). The command may still be in transmission (log 23). -/
def State.awaits (s : State) (u : UnitIx) (c : BusCmd) (addr : Byte) : Prop :=
  s.power.stopped = false ∧ (∃ f : Flight, s.bus.flight = some f ∧ f.unit = u ∧ f.cmd = c ∧ f.stale = false)
    ∧ unitAddr u = addr.toNat ∧ (s.unit u).state = (if c = .probe then .probing else .online)

/-- A module is ONLINE and reports its 16 slots `st` in a STATUS reply: the record at each position, an UNKNOWN one counting as
R19 has it, and the reply agree but at the positions `but`. A read that failed over a HELD record agrees (R20). -/
def State.agrees (s : State) (m : ModIx) (st : List SlotStatus) (but : Fin 16 → Bool) : Prop :=
  ∀ (p : Fin 16) (x : SlotStatus), but p = false → st[p.val]? = some x →
    match (s.slot (slotAt m p)).countedAs with
    | .empty => x.seen = .empty
    | .held k => x.seen = .tagged k ∨ x.seen = .unread
    | .noTag => x.seen = .unread

/-- The START report has been queued once the last START probe has ended, that of `u` here (R41, R170). -/
def State.startDone (s : State) (u : UnitIx) (c : ProbeCause) : Bool :=
  s.mode.startReported || c == .start && allUnits.all fun x => x == u || (s.unit x).cause != some .start

/-- The command `i` brings the full status `st` of module `m` for reconciliation: a STATUS reply, or a PROBE reply that is not taken
as a fill (R18, R19, R35). `base` is `s` with the unit's record as the reply leaves it; the START report's mark is the model's
(log 14). -/
def State.reads (s : State) (i : Instr) (m : ModIx) (st : List SlotStatus) (base : State) : Prop :=
  ∃ (addr : Byte) (payload : List Byte),
    (i = .statusReply addr payload ∧ s.awaits (modUnit m) .status addr ∧ readStatus (modUnit m) payload = some (.slots st)
      ∧ base = s.withUnit (modUnit m) fun r => { r with misses := 0, resync := false })
    ∨ ∃ cause : ProbeCause,
        i = .probeReply addr payload ∧ s.awaits (modUnit m) .probe addr ∧ readProbe (modUnit m) payload = some (.slots st)
          ∧ (s.unit (modUnit m)).cause = some cause ∧ (cause ≠ .start ∨ s.directory ≠ [])
          ∧ base =
            { s.withUnit (modUnit m) fun r =>
                { r with state := .online, cause := none, misses := 0, attempts := 0, retry := none, resync := false } with
              mode := { s.mode with
                startOnline := if cause = .start then s.mode.startOnline + 1 else s.mode.startOnline
                startReported := s.startDone (modUnit m) cause } }

/-- No tag stands in two slot records (R8). -/
def State.tagsApart (s : State) : Prop :=
  ∀ (n n' : SlotNo) (k : Nat), (s.slot n).tag = some k → (s.slot n').tag = some k → n = n'

/-- A module's UNKNOWN slots restored: HELD with their last-seen tag, or EMPTY (R19). -/
def State.restored (s : State) (m : ModIx) (but : Fin 16 → Bool) : State :=
  { s with
    slots := Vector.ofFn fun n : SlotNo =>
      let r : SlotRec := s.slot n
      if moduleOf n = m ∧ but (positionOf n) = false ∧ r.occ = Occupancy.unknown then
        { r with occ := if r.tag = none then Occupancy.empty else Occupancy.held, since := s.time }
      else r }

/-- The chute unit's status brings its record up to date, and a hatch newly OPEN hands every IN_BIN entry over (R42, R108,
R110). -/
def State.chuteSeen (s : State) (flap hatch : Byte) : State :=
  let refused := s.chute.refused && flap == 0
  let u := State.condTo
    { s with
      chute := { s.chute with confirmed := if flap = 0 then .locked else .unlocked, hatchOpen := hatch == 0, refused } }
    .chuteLocked (s.chute.wanted == .locked || refused)
  if hatch = 0 ∧ s.chute.hatchOpen = false then u.handedOver else u

/-- A delivered reply sets the unit's misses to 0 (R26). -/
def State.replied (s : State) (u : UnitIx) : State := s.withUnit u fun r => { r with misses := 0 }

/-- A command of kind `c` to unit `u` has been missed by `i`: a bad reply, or the reply deadline (R23). -/
def State.missedBy (s : State) (u : UnitIx) (c : BusCmd) (i : Instr) : Prop :=
  s.power.stopped = false
    ∧ ∃ f : Flight, s.bus.flight = some f ∧ f.unit = u ∧ f.cmd = c ∧ f.stale = false
      ∧ (i = .badReply ∨ ∃ since clock : Nat, f.phase = .awaiting since ∧ since + 25 ≤ clock ∧ i = .replyDeadline clock)

/-- Tag `tag` is the tag of no slot record and of no Drop Bin List entry. -/
def State.nowhere (s : State) (tag : Nat) : Prop :=
  (∀ n : SlotNo, (s.slot n).tag ≠ some tag) ∧ ∀ e ∈ s.bin.entries, e.tag ≠ some tag

/-- What a release request of R76 comes to, the checks in order; `code` is the code a CODE_ENTRY carries (R73). -/
def State.admission (s : State) (n : Nat) (code : Option Nat) : Result :=
  if s.mode.level = .lost then .supplyHold
  else if s.session.remaining.isSome then .serviceActive
  else
    match s.booking? n with
    | none => .notFound
    | some b =>
      if b.state ≠ .loaded then .wrongState
      else if code.isSome ∧ (b.kind ≠ .rental ∨ b.code = none) then .kioskNotAllowed
      else if code.isSome ∧ 5 ≤ b.failures then .kioskLocked
      else if code.isSome ∧ b.code ≠ code then .codeWrong
      else if code.isSome && b.window.any (fun w => !s.time.any fun t => decide (w.1 ≤ t) && decide (t ≤ w.2)) then
        .outsideWindow
      else if s.bookings.any fun x => x.number != b.number && x.key == b.key && (x.state == .releasing || x.state == .out) then
        .keyInCustody
      else
        match s.slotOfKey b.key with
        | none => .keyNotInCabinet
        | some m =>
          if (s.unit (modUnit (moduleOf m))).state ≠ .online then .slotOffline
          else if (s.slot m).service ≠ .inService then .slotQuarantined
          else if (s.slot m).queued ∨ (s.slot m).channel ≠ none then .wrongState
          else if 16 ≤ s.release.queue.length then .queueFull
          else .accepted

/-- Steps 1 to 3 of R78 as far as the tables go. -/
def State.admitted (s : State) (n : Nat) (m : SlotNo) (src : Source) : State :=
  let s1 := ((s.withBooking n fun b => { b with state := .releasing, source := some src }).lastReleaseCleared n).withSlot m
    fun r => { r with queued := true }
  { s1 with release := { s1.release with queue := s1.release.queue ++ [{ booking := n, slot := m, source := src }] } }

/-- A grant of the only entry of the queue, to channel `c` (R83), as far as the tables go. -/
def State.grantedAlone (s : State) (n : Nat) (m : SlotNo) (c : ChanNo) : State :=
  let s1 := (s.withChan c (.opening m n)).withSlot m fun r => { r with queued := false, channel := some c }
  { s1 with release := { s1.release with queue := [] } }

/-! ### A start-up -/

/-- The start-up of R169, over the pins it samples and its cause. -/
def Started (pending : List Instr) (pins : Pins) (cause : StartCause) (t : State) : Prop :=
  let level : SupplyLevel := if pins.supa = false then .lost else if pins.supb then .good else .low
  let rate : LinkRate := if pins.strap0 then .baud115200 else if pins.strap1 then .baud230400 else .baud57600
  let listed : List (Condition × AlertClass) :=
    (if level = .good then [] else [(.supply, .supply)]) ++ (if pins.panel then [(.panelOpen, .panelOpen)] else [])
  let raised (k : Nat) (x : Condition × AlertClass) : ReportBody :=
    .alertRaised { subject := .cabinet x.1, cls := x.2, listLen := k + 1, waitLen := 0 } 7 none false
  t.pending = pending ∧ t.pins = pins
    ∧ t.power = { stopped := false, powerOnWaits := false }
    ∧ t.mode = { level, cause, rate, strapFault := pins.strap0 && pins.strap1, panelOpen := pins.panel, startOnline := 0
                 startReported := false }
    ∧ t.session = { remaining := none, removals := [] }
    ∧ t.params = { window := 20, slowLatch := 120, supervision := 30, unslotted := 30, service := 15, nearFull := 40 }
    ∧ t.policy = Policy.start ∧ t.time = none ∧ t.dueList = [] ∧ t.directory = [] ∧ t.bookings = []
    ∧ (∀ n : SlotNo, t.slot n = .start)
    ∧ t.release.queue = [] ∧ (∀ c : ChanNo, t.chan c = .free)
    ∧ t.release.budget = (if level = .good then 4 else if level = .low then 1 else 0)
    ∧ (∀ u : UnitIx, t.unit u = if level = .lost then { UnitRec.start with state := .dark } else .start)
    ∧ t.bus.latches = [] ∧ t.bus.lastPolled = none
    ∧ t.bus.flight = (if level = .lost then none
        else some { unit := 0, cmd := .probe, phase := .transmitting, stale := false })
    ∧ t.chute = { wanted := .unlocked, confirmed := .locked, hatchOpen := false, refused := false }
    ∧ t.bin = { entries := [], nextDrop := 0 } ∧ t.kiosk = .start pins.strap2
    ∧ t.link.rx = .searching ∧ t.link.tx = .idle ∧ t.link.state = .awaiting ∧ t.link.supervision = none
    ∧ t.link.answers = [] ∧ t.link.counts = .start
    ∧ t.link.reports.map (·.body) =
        (if level = .good then [] else [.supplyState none level (level == .lost) (if level = .low then 1 else 0) 0])
          ++ listed.mapIdx raised
    ∧ (∀ r ∈ t.link.reports, r.time = none ∧ r.gap = false)
    ∧ (∀ c : Condition, t.cond c =
        match listed.lookup c with
        | some k => { active := true, alert := { cls := some k, waiting := false, acked := none, raised := none } }
        | none => { active := false, alert := { cls := none, waiting := false, acked := none, raised := none } })
    ∧ t.alerts.mask = none
    ∧ t.alerts.list = listed.map (fun x => { subject := .cabinet x.1, cls := x.2, raised := none })
    ∧ t.linesRight

end Sys2Proof.Machine
end

