-- ==== Sys2Proof/Certificates/Slice0/Obligations.lean ====
section
/-! DEFINITION. The statements for the provers, from the numbered rules of spec/. A request's statement gives its checks as one
nested choice of result and the tables it leaves; `Served`, `Asked`, `KioskServed`, `Gives` and `Makes` (Safety.lean) each
conclude that exec answers a next state. Everything a statement's tables do not change is its frame. -/

open Sys2Proof Sys2Proof.Machine

/-! ### The queue of commands, start-up and RESET -/

/-- The command at the front is run on the state with the queue's rest; an empty queue idles (log 2). -/
def Obligations.StepRunsTheFrontCommand : Prop :=
  (∀ (s : State) (c : Instr) (rest : List Instr), s.pending = c :: rest → step s = exec c (s.setPending rest))
    ∧ ∀ s : State, s.pending = [] → step s = .next s

/-- The state after reset is the start-up of R169 at the pins of log 1, it has the default parameters (R157) and Policy Table
(R132: priority, BEACON, BUZZER, ATTN, enabled, by class number), and every invariant stated below holds of it. -/
def Obligations.ResetIsAPowerOnStart : Prop :=
  (∀ s : State, exec (.powerOn Pins.atReset false) s = .next (State.reset.setPending s.pending))
    ∧ Started [] Pins.atReset .powerOn State.reset
    ∧ State.reset.policy.toList.map (fun p => (p.priority, p.lines.beacon, p.lines.buzzer, p.lines.attn, p.enabled)) =
        [(2, false, false, true, true), (4, true, false, true, true), (6, true, true, true, true),
         (1, false, false, true, true), (3, false, false, true, true), (5, true, false, true, true),
         (6, true, true, true, true), (3, false, false, true, true), (5, true, false, true, true),
         (2, false, false, true, true), (4, true, false, true, true), (3, false, false, true, true),
         (7, true, true, true, true), (4, true, false, true, true), (5, true, false, false, true),
         (7, true, true, true, true)]
    ∧ State.reset.portsBounded ∧ State.reset.alertListBounded ∧ State.reset.tablesBounded ∧ State.reset.tablesOrdered
    ∧ State.reset.settingsInRange ∧ State.reset.timeInRange ∧ State.reset.linesRight ∧ State.reset.holdQuiet

/-- POWER_ON, RESET_LINE and the last byte of the answer to an accepted RESTART start the part anew (R168, R169): every table,
record, port and report of the start-up. That last byte is two rows, LINK_FRAME_SENT with the pins as last held and
RESTART_REQUEST with the pins given, which acts only while such an answer is being sent (the model's choice, log 8). RESET_LINE
starts also a part that was not seen stopped (the model's choice, log 9); ending a power-up it keeps cause POWER_ON. The mark
of the START report is the model's (log 14). -/
def Obligations.StartUpSetsEveryStartUpValue : Prop :=
  ∀ (s : State) (pins : Pins),
    (∃ t : State, exec (.powerOn pins false) s = .next t ∧ Started s.pending pins .powerOn t)
      ∧ (∃ t : State, exec (.resetLine pins) s = .next t
          ∧ Started s.pending pins (if s.power.powerOnWaits then .powerOn else .resetLine) t)
      ∧ (∀ a : Answer, s.power.stopped = false → s.link.tx = .sending (.answer a) → a.kind = 0x94 → a.result = .ok →
          (∃ t : State, exec .linkFrameSent s = .next t ∧ Started s.pending s.pins .restartRequest t)
            ∧ ∃ t : State, exec (.restartRequest pins) s = .next t ∧ Started s.pending pins .restartRequest t)
      ∧ (s.power.stopped = false →
          (∀ a : Answer, s.link.tx = .sending (.answer a) → ¬ (a.kind = 0x94 ∧ a.result = .ok)) →
          Gives s (.restartRequest pins) s)

/-- RESET asserted stops the part and releases its lines; a power-up with RESET low waits for the release (R168); and while RESET
is asserted every command but POWER_ON, RESET_ASSERTED and RESET_LINE leaves the state as it is (the model's reading, log 9). -/
def Obligations.ResetStopsThePart : Prop :=
  (∀ (s : State) (pins : Pins),
    (∃ t : State, exec .resetAsserted s = .next t ∧ t.power = { s.power with stopped := true } ∧ t.bus.flight = none
        ∧ t.alerts = { s.alerts with lines := .none }
        ∧ t.link = { s.link with rx := .searching, tx := .idle } ∧ t.kiosk = { s.kiosk with rx := .searching, tx := .idle }
        ∧ t.tables = { s with power := { s.power with stopped := true } }.tables)
      ∧ ∃ t : State, exec (.powerOn pins true) s = .next t
        ∧ t.power = { stopped := true, powerOnWaits := true } ∧ t.bus.flight = none
        ∧ t.alerts.lines = .none ∧ t.link.tx = .idle ∧ t.kiosk.tx = .idle ∧ t.pending = s.pending)
    ∧ ∀ (s : State) (i : Instr), s.power.stopped = true → (∀ p b, i ≠ .powerOn p b) → i ≠ .resetAsserted →
      (∀ p, i ≠ .resetLine p) → exec i s = .next s

/-! ### The two ports -/

/-- R149: a valid Branch Link frame over a full Answer Queue is discarded unanswered and counted. It still makes the link
CONNECTED and restarts supervision; its request is not taken: but for the count the next state is that of step 1 of R148, so
that no table, alert, report or port has anything of it. -/
def Obligations.AnOverrunIsDiscardedAndCounted : Prop :=
  ∀ (s : State) (i : Instr) (kind tag : Byte) (body : List Byte), s.power.stopped = false →
    i.frame = some (.branch, kind, tag, body) → 4 ≤ s.link.answers.length →
    Overrun s i
      ∧ ∃ t : State, exec i s = .next t ∧ t.tables = s.heard.tables
        ∧ (t.link.tx, t.link.answers) = s.link.moved ∧ t.link.rx = .searching
        ∧ t.link.state = .connected ∧ t.link.supervision = some s.params.supervision
        ∧ t.link.counts.overrun = up s.link.counts.overrun ∧ t.kiosk = s.kiosk
        ∧ (s.link.state ≠ .standalone →
            t.alerts = s.alerts ∧ t.link.reports = s.link.reports ∧ ∀ x : Subject, t.alertOf x = s.alertOf x)

/-- Step 3 of R148: a body that does not match its layout (R178, R179) is answered BAD_FIELD, and a frame of an unknown kind
UNKNOWN_KIND, kind 0xFF, with the kind byte received; nothing changes but what every valid frame does (Asked, KioskAsked). The
layouts: a fixed length; for KEY_LOAD, BOOKING_LOAD and BOOKING_AMEND a presence or flag byte with no bit that names no field,
and the length it gives; for BOOKING_QUERY and ALERT_QUERY a form byte of 0 or 1. -/
def Obligations.AMisshapenFrameIsRefused : Prop :=
  ∀ (s : State) (tag : Byte) (body : List Byte),
    (s.hears →
      (∀ kind : Byte,
        Asked s (.unknownKind kind tag body) { kind := 0xFF, tag, result := .unknownKind, fields := .kindByte kind })
      ∧ (body.length ≠ 1 →
          Asked s (.alertMask tag body) (plain 0x8C tag .badField)
            ∧ Asked s (.moduleRevive tag body) (plain 0x90 tag .badField)
            ∧ Asked s (.statusQuery tag body) (plain 0x95 tag .badField)
            ∧ Asked s (.statusQueryUnits tag body) (plain 0x95 tag .badField))
      ∧ (body.length ≠ 2 →
          Asked s (.slotClear tag body) (plain 0x8E tag .badField)
            ∧ Asked s (.slotQuarantine tag body) (plain 0x8F tag .badField)
            ∧ Asked s (.binDiscard tag body) (plain 0x91 tag .badField))
      ∧ (body.length ≠ 3 →
          Asked s (.paramSet tag body) (plain 0x88 tag .badField)
            ∧ Asked s (.slotQuery tag body) (plain 0x96 tag .badField))
      ∧ (body.length ≠ 4 →
          Asked s (.keyDrop tag body) (plain 0x82 tag .badField)
            ∧ Asked s (.bookingCancel tag body) (plain 0x85 tag .badField)
            ∧ Asked s (.bookingRetire tag body) (plain 0x86 tag .badField)
            ∧ Asked s (.policySet tag body) (plain 0x87 tag .badField)
            ∧ Asked s (.timeSet tag body) (plain 0x89 tag .badField)
            ∧ Asked s (.release tag body) (plain 0x8A tag .badField)
            ∧ Asked s (.keyQuery tag body) (plain 0x98 tag .badField))
      ∧ (body.length ≠ 5 →
          Asked s (.alertAck tag body) (plain 0x8B tag .badField)
            ∧ Asked s (.bookingQuery tag body) (plain 0x97 tag .badField)
            ∧ Asked s (.bookingQueryList tag body) (plain 0x97 tag .badField))
      ∧ (readKeyLoad body = none ∨ (body.length ≠ 7 ∧ body.length ≠ 9) ∨ (∃ p : Byte, body[6]? = some p ∧ 1 < p.toNat) →
          Asked s (.keyLoad tag body) (plain 0x81 tag .badField))
      ∧ (readBookingLoad body = none ∨ body.length < 17 ∨ 28 < body.length
            ∨ (∃ p : Byte, body[9]? = some p ∧ 3 < p.toNat) →
          Asked s (.bookingLoad tag body) (plain 0x83 tag .badField))
      ∧ (readBookingAmend body = none ∨ body.length < 5 ∨ 25 < body.length
            ∨ (∃ p : Byte, body[4]? = some p ∧ 31 < p.toNat) →
          Asked s (.bookingAmend tag body) (plain 0x84 tag .badField))
      ∧ ((∃ p : Byte, body[0]? = some p ∧ 1 < p.toNat) →
          Asked s (.bookingQuery tag body) (plain 0x97 tag .badField)
            ∧ Asked s (.bookingQueryList tag body) (plain 0x97 tag .badField))
      ∧ (readAlertQuery body = none ∨ (body.length ≠ 1 ∧ body.length ≠ 6)
            ∨ (∃ p : Byte, body[0]? = some p ∧ 1 < p.toNat) →
          Asked s (.alertQuery tag body) (plain 0x99 tag .badField)
            ∧ Asked s (.alertQuerySubject tag body) (plain 0x99 tag .badField))
      ∧ (body ≠ [] →
          Asked s (.alertUnmask tag body) (plain 0x8D tag .badField)
            ∧ Asked s (.serviceBegin tag body) (plain 0x92 tag .badField)
            ∧ Asked s (.serviceEnd tag body) (plain 0x93 tag .badField)
            ∧ Asked s (.restart tag body) (plain 0x94 tag .badField)
            ∧ Asked s (.heartbeat tag body) (plain 0x9A tag .badField)))
      ∧ (s.kioskHears →
          (∀ kind : Byte, KioskAsked s (.kioskUnknownKind kind tag body)
            { tag, booking := 0, result := .unknownKind, accepted := none })
          ∧ (body.length ≠ 7 →
              KioskAsked s (.codeEntry tag body) { tag, booking := 0, result := .badField, accepted := none }))

/-- R145 to R147: a bad CRC, a bad length and the 200 ms limit each end a frame, put the receiver to SEARCHING and raise their
count by 1, stopping at 65,535; a marker puts a SEARCHING receiver to RECEIVING and is passed over in RECEIVING. A valid kiosk
frame over an occupied answer place is discarded and counted, with nothing else changed (R161). A disabled Kiosk Port takes
and counts nothing, no valid frame either (R160, log 21). The clock is the part's own, as the command carries it (log 5). -/
def Obligations.ReceiversCountWhatTheyDiscard : Prop :=
  ∀ (s : State) (clock : Nat), s.power.stopped = false →
    Gives s (.frameCrcError .branch)
        { s with link := { s.link with rx := .searching, counts := { s.link.counts with crc := up s.link.counts.crc } } }
      ∧ Gives s (.frameFormatError .branch)
        { s with
          link := { s.link with rx := .searching, counts := { s.link.counts with format := up s.link.counts.format } } }
      ∧ (∀ m : Nat, s.link.rx = .receiving m →
          Gives s (.frameStartMarker .branch clock) s
            ∧ (m + 200 ≤ clock → Gives s (.frameTimeout .branch clock)
                { s with
                  link := { s.link with
                    rx := .searching, counts := { s.link.counts with timeout := up s.link.counts.timeout } } })
            ∧ (clock < m + 200 → Gives s (.frameTimeout .branch clock) s))
      ∧ (s.link.rx = .searching →
          Gives s (.frameStartMarker .branch clock) { s with link := { s.link with rx := .receiving clock } }
            ∧ Gives s (.frameTimeout .branch clock) s)
      ∧ (s.kiosk.enabled = true →
          Gives s (.frameCrcError .kiosk)
              { s with
                kiosk := { s.kiosk with rx := .searching, counts := { s.kiosk.counts with crc := up s.kiosk.counts.crc } } }
            ∧ Gives s (.frameFormatError .kiosk)
              { s with
                kiosk := { s.kiosk with
                  rx := .searching, counts := { s.kiosk.counts with format := up s.kiosk.counts.format } } }
            ∧ (∀ m : Nat, s.kiosk.rx = .receiving m →
                Gives s (.frameStartMarker .kiosk clock) s
                  ∧ (m + 200 ≤ clock → Gives s (.frameTimeout .kiosk clock)
                      { s with
                        kiosk := { s.kiosk with
                          rx := .searching, counts := { s.kiosk.counts with timeout := up s.kiosk.counts.timeout } } })
                  ∧ (clock < m + 200 → Gives s (.frameTimeout .kiosk clock) s))
            ∧ (s.kiosk.rx = .searching →
                Gives s (.frameStartMarker .kiosk clock) { s with kiosk := { s.kiosk with rx := .receiving clock } }
                  ∧ Gives s (.frameTimeout .kiosk clock) s))
      ∧ (s.kiosk.enabled = false →
          Gives s (.frameCrcError .kiosk) s ∧ Gives s (.frameFormatError .kiosk) s
            ∧ Gives s (.frameTimeout .kiosk clock) s ∧ Gives s (.frameStartMarker .kiosk clock) s)
      ∧ ∀ (i : Instr) (kind tag : Byte) (body : List Byte), i.frame = some (.kiosk, kind, tag, body) →
          (s.kiosk.enabled = true → s.kiosk.answer ≠ none →
            Gives s i
              { s with
                kiosk := { s.kiosk with
                  rx := .searching, counts := { s.kiosk.counts with overrun := up s.kiosk.counts.overrun } } })
          ∧ (s.kiosk.enabled = false → Gives s i s)

/-- R151 and R162: when a transmitter ends a frame it sends the oldest answer, else the oldest report while the link is
CONNECTED, else it is IDLE; on the kiosk the KIOSK_ANSWER, else the oldest notice. (The last byte of the answer to a RESTART is
in StartUpSetsEveryStartUpValue.) R152: while a frame is being sent, a report joins the tail of the Report Queue; on a full
queue the oldest is discarded and counted, and the new oldest has its gap flag set. R162, R98: a notice joins the tail of the
Kiosk Notice Queue, a fifth one discards the oldest and counts it, an idle transmitter with nothing to send takes it at once,
and a disabled port discards it. -/
def Obligations.TransmittersChooseTheNextFrame : Prop :=
  ∀ s : State, s.power.stopped = false →
    (∀ f : LinkFrame, s.link.tx = .sending f → (∀ a : Answer, f = .answer a → ¬ (a.kind = 0x94 ∧ a.result = .ok)) →
      Gives s .linkFrameSent
        { s with
          link := match s.link.answers, s.link.state, s.link.reports with
            | a :: rest, _, _ => { s.link with tx := .sending (.answer a), answers := rest }
            | [], .connected, r :: rest => { s.link with tx := .sending (.report r), reports := rest }
            | _, _, _ => { s.link with tx := .idle } })
      ∧ ((∀ f : LinkFrame, s.link.tx ≠ .sending f) → Gives s .linkFrameSent s)
      ∧ (∀ f : KioskFrame, s.kiosk.tx = .sending f →
          Gives s .kioskFrameSent
            { s with
              kiosk := match s.kiosk.answer, s.kiosk.notices with
                | some a, _ => { s.kiosk with tx := .sending (.answer a), answer := none }
                | none, n :: rest => { s.kiosk with tx := .sending (.notice n), notices := rest }
                | none, [] => { s.kiosk with tx := .idle } })
      ∧ (s.kiosk.tx = .idle → Gives s .kioskFrameSent s)
      ∧ (∀ b : ReportBody, s.linkBusy →
          let r : Report := { time := s.time, gap := false, body := b }
          (s.link.reports.length < 32 →
            s.queueReport b = { s with link := { s.link with reports := s.link.reports ++ [r] } })
          ∧ ∀ (o n : Report) (rest : List Report), s.link.reports = o :: n :: rest → s.link.reports.length = 32 →
              s.queueReport b =
                { s with
                  link := { s.link with
                    reports := { n with gap := true } :: rest ++ [r]
                    counts := { s.link.counts with dropped := up s.link.counts.dropped } } })
      ∧ ∀ (booking : Nat) (event : NoticeEvent),
          let n : Notice := { booking, event }
          (s.kiosk.enabled = false → s.placeNotice booking event = s)
          ∧ (s.kioskBusy → s.kiosk.notices.length < 4 →
              s.placeNotice booking event = { s with kiosk := { s.kiosk with notices := s.kiosk.notices ++ [n] } })
          ∧ (∀ (o : Notice) (rest : List Notice), s.kioskBusy → s.kiosk.notices = o :: rest → s.kiosk.notices.length = 4 →
              s.placeNotice booking event =
                { s with
                  kiosk := { s.kiosk with
                    notices := rest ++ [n]
                    counts := { s.kiosk.counts with dropped := up s.kiosk.counts.dropped } } })
          ∧ (s.kiosk.enabled = true → s.kiosk.tx = .idle → s.kiosk.answer = none → s.kiosk.notices = [] →
              s.placeNotice booking event = { s with kiosk := { s.kiosk with tx := .sending (.notice n) } })

/-! ### The Key Directory and the Booking Table -/

/-- R2 and R3: KEY_LOAD's checks in order, then a new entry in its place by tag, or the new unit and home in the old entry. -/
def Obligations.KeyLoadChecksThenLoads : Prop :=
  ∀ (s : State) (tag : Byte) (body : List Byte) (r : KeyLoadReq), s.hears → readKeyLoad body = some r →
    let home : Option SlotNo := r.home.map (Fin.ofNat 384)
    let res : Result :=
      if 383 < r.home.getD 0 ∨ r.tag = 0 ∨ r.unit = 0 then .badField
      else if s.entry? r.tag = none ∧ 512 ≤ s.directory.length then .tableFull
      else if s.directory.any fun e => e.tag != r.tag && e.home.isSome && e.home == home then .homeTaken
      else if (s.entry? r.tag).any (fun e => e.home != home) ∧ (s.placed r.tag || s.keyInCustody r.tag) = true then .keyInUse
      else .ok
    Served s (.keyLoad tag body) (plain 0x81 tag res)
      (if res = .ok then
        { s.heard with
          directory :=
            if s.entry? r.tag = none then
              insertBy (fun a b => decide (a.tag < b.tag))
                { tag := r.tag, unit := r.unit, home, missing := false, alert := .clear } s.directory
            else s.directory.map fun e => if e.tag = r.tag then { e with unit := r.unit, home } else e }
      else s.heard)

/-- R4: KEY_DROP of a tag with no entry, of a key in use, and of any other key, whose entry goes. -/
def Obligations.KeyDropChecksThenDrops : Prop :=
  ∀ (s : State) (tag : Byte) (body : List Byte) (k : Nat), s.hears → readOne 4 body = some k →
    let res : Result :=
      if s.entry? k = none then .notFound
      else if s.placed k ∨ (s.bookings.any fun b =>
          b.key == k && (b.state == .loaded || b.state == .releasing || b.state == .out)) = true then .keyInUse
      else .ok
    Served s (.keyDrop tag body) (plain 0x82 tag res)
      (if res = .ok then { s.heard with directory := s.directory.filter fun e => e.tag != k } else s.heard)

/-- R62 and R63: BOOKING_LOAD's checks in order, then a LOADED booking in its place by number. -/
def Obligations.BookingLoadChecksThenLoads : Prop :=
  ∀ (s : State) (tag : Byte) (body : List Byte) (r : BookingLoadReq), s.hears → readBookingLoad body = some r →
    let res : Result :=
      if s.time = none then .timeUnset
      else if r.number = 0 ∨ r.key = 0 ∨ 1 < r.kind ∨ 240 < r.grace ∨ 1440 < r.escalation ∨ 999999 < r.code.getD 0 then
        .badField
      else if (r.kind = 1 ∧ r.code ≠ none) ∨ (r.window.any fun w => decide (w.2 < w.1) || decide (r.due ≤ w.1)) = true then
        .badField
      else if s.bookings.any fun b => b.number == r.number then .duplicate
      else if 256 ≤ s.bookings.length then .tableFull
      else if s.entry? r.key = none then .notFound
      else .ok
    Served s (.bookingLoad tag body) (plain 0x83 tag res)
      (if res = .ok then
        { s.heard with
          bookings := insertBy (fun a b => decide (a.number < b.number))
            { number := r.number, kind := if r.kind = 0 then .rental else .service, key := r.key, code := r.code
              window := r.window, due := r.due, grace := r.grace, escalation := r.escalation, state := .loaded, source := none
              stage := none, taken := none, returned := none, lateness := none, failures := 0, alert := .clear } s.bookings }
      else s.heard)

/-- R64 to R66: BOOKING_AMEND's checks in order; a LOADED booking takes the flagged fields, a flagged code sets its failures
to 0. An OUT booking also takes the stage at the present time and its new place in the Due List (R127). -/
def Obligations.BookingAmendChecksThenAmends : Prop :=
  ∀ (s : State) (tag : Byte) (body : List Byte) (r : BookingAmendReq), s.hears → readBookingAmend body = some r →
    let amend : Booking → Booking := fun b =>
      { b with
        due := r.due.getD b.due, grace := r.grace.getD b.grace, escalation := r.escalation.getD b.escalation
        code := r.code.getD b.code, window := r.window.getD b.window
        failures := if r.code = none then b.failures else 0 }
    let ranges : Bool := !(r.due.isNone && r.grace.isNone && r.escalation.isNone && r.code.isNone && r.window.isNone)
      && decide (r.grace.getD 0 ≤ 240) && decide (r.escalation.getD 0 ≤ 1440) && decide ((r.code.getD none).getD 0 ≤ 999999)
    let agrees : Booking → Bool := fun b =>
      (b.kind == .rental || b.code.isNone) && !(b.window.any fun w => decide (w.2 < w.1) || decide (b.due ≤ w.1))
    (s.booking? r.number = none → Served s (.bookingAmend tag body) (plain 0x84 tag .notFound) s.heard)
      ∧ ∀ b : Booking, s.booking? r.number = some b →
        (b.state ≠ .out →
          let res : Result :=
            if ranges = false then .badField
            else if b.state ≠ .loaded then .wrongState
            else if agrees (amend b) = false then .badField
            else .ok
          Served s (.bookingAmend tag body) (plain 0x84 tag res)
            (if res = .ok then s.heard.withBooking r.number amend else s.heard))
        ∧ (b.state = .out → ranges = false → Served s (.bookingAmend tag body) (plain 0x84 tag .badField) s.heard)
        ∧ (b.state = .out → ranges = true → r.code ≠ none ∨ r.window ≠ none →
            Served s (.bookingAmend tag body) (plain 0x84 tag .wrongState) s.heard)
        ∧ ∀ (old : Stage) (now : Nat), b.state = .out → ranges = true → r.code = none → r.window = none → b.stage = some old →
            s.time = some now →
            let st := (amend b).stageAt now
            ∃ t : State, exec (.bookingAmend tag body) s = .next t
              ∧ (t.booking? r.number).map Booking.bare = some { (amend b).bare with stage := some st }
              ∧ (∀ k : Nat, k ≠ r.number → (t.booking? k).map Booking.bare = (s.booking? k).map Booking.bare)
              ∧ Answered s t (plain 0x84 tag .ok)
                { s.heard with
                  bookings := t.bookings
                  dueList :=
                    let rest := s.dueList.filter fun e => e.booking != r.number
                    match (amend b).nextDeadline st with
                    | some d => insertBy DueEntry.before { deadline := d, booking := r.number } rest
                    | none => rest }

/-- R67, R68, R95, R98: BOOKING_CANCEL of a LOADED, a queued, an OPENING and an OPEN booking, with the slots' last release, the
report, the close command and, for a kiosk release, the notice ABORTED. -/
def Obligations.BookingCancelWithdrawsTheRelease : Prop :=
  ∀ (s : State) (tag : Byte) (body : List Byte) (n : Nat), s.hears → readOne 4 body = some n →
    let cancel : State → State := fun u => (u.withBooking n fun b => { b with state := .cancelled }).lastReleaseCleared n
    (s.booking? n = none → Served s (.bookingCancel tag body) (plain 0x85 tag .notFound) s.heard)
      ∧ ∀ b : Booking, s.booking? n = some b →
        (b.state ≠ .loaded → b.state ≠ .releasing → Served s (.bookingCancel tag body) (plain 0x85 tag .wrongState) s.heard)
        ∧ (b.state = .loaded → Served s (.bookingCancel tag body) (plain 0x85 tag .ok) (cancel s.heard))
        ∧ (∀ e : QueueEntry, b.state = .releasing → s.release.queue.find? (fun e => e.booking == n) = some e →
            ∃ t : State, exec (.bookingCancel tag body) s = .next t
              ∧ Answered s t (plain 0x85 tag .ok)
                (cancel
                  { s.heard.withSlot e.slot fun r => { r with queued := false } with
                    release := { s.release with queue := s.release.queue.erase e } })
              ∧ t.lastReport = some (.releaseWithdrawn { booking := n, slot := e.slot, key := some b.key } b.source .queued)
              ∧ s.tells t b.source n .aborted)
        ∧ ∀ (c : ChanNo) (m : SlotNo), b.state = .releasing → s.release.queue.find? (fun e => e.booking == n) = none →
            s.chanOfBooking n = some c →
            ((∃ d : Nat, s.chan c = .opened m n d) → s.granted →
              ∃ t : State, exec (.bookingCancel tag body) s = .next t
                ∧ Answered s t (plain 0x85 tag .ok) (cancel (s.heard.withChan c (.closing m n .withdrawn)))
                ∧ t.lastReport = some (.releaseWithdrawn { booking := n, slot := m, key := some b.key } b.source .opened)
                ∧ s.tells t b.source n .aborted
                ∧ (s.slotOnline m = true → t.latchAsked m .closeIt (some c)))
            ∧ (s.chan c = .opening m n → s.openSent c = true → s.granted →
              ∃ t : State, exec (.bookingCancel tag body) s = .next t
                ∧ Answered s t (plain 0x85 tag .ok) (cancel (s.heard.withChan c (.closing m n .withdrawn)))
                ∧ t.lastReport = some (.releaseWithdrawn { booking := n, slot := m, key := some b.key } b.source .opening)
                ∧ s.tells t b.source n .aborted
                ∧ (s.slotOnline m = true → t.latchAsked m .closeIt (some c)))
            ∧ (s.chan c = .opening m n → s.openSent c = false → s.release.queue = [] →
                (s.slot m).service ≠ .quarantinePending →
              ∃ t : State, exec (.bookingCancel tag body) s = .next t
                ∧ Answered s t (plain 0x85 tag .ok)
                  (cancel ((s.heard.withChan c .free).withSlot m fun r => { r with channel := none }))
                ∧ t.lastReport = some (.releaseWithdrawn { booking := n, slot := m, key := some b.key } b.source .opening)
                ∧ s.tells t b.source n .aborted)

/-- R69: BOOKING_RETIRE of one final booking, or of all of them for the number 0. -/
def Obligations.BookingRetireRemovesFinalBookings : Prop :=
  ∀ (s : State) (tag : Byte) (body : List Byte) (n : Nat), s.hears → readOne 4 body = some n →
    let final : Booking → Bool := fun b => b.state == .returned || b.state == .cancelled
    (n = 0 →
      Served s (.bookingRetire tag body)
        { kind := 0x86, tag, result := .ok, fields := .retired (s.bookings.countP final) }
        { s.heard with bookings := s.bookings.filter fun b => !final b })
      ∧ (n ≠ 0 → s.booking? n = none → Served s (.bookingRetire tag body) (plain 0x86 tag .notFound) s.heard)
      ∧ ∀ b : Booking, n ≠ 0 → s.booking? n = some b →
        (final b = false → Served s (.bookingRetire tag body) (plain 0x86 tag .wrongState) s.heard)
        ∧ (final b = true →
          Served s (.bookingRetire tag body) { kind := 0x86, tag, result := .ok, fields := .retired 1 }
            { s.heard with bookings := s.bookings.filter fun x => x.number != n })

/-! ### Settings and time -/

/-- R133: POLICY_SET's checks, the three values written, and the lines judged again. R157: PARAM_SET's number and range, the old
value answered, the new one taken; a near-full level is judged at once (R109). -/
def Obligations.SettingsRequestsKeepTheirRanges : Prop :=
  (∀ (s : State) (tag : Byte) (body : List Byte) (r : PolicySetReq), s.hears → readPolicySet body = some r →
      (r.cls = 0 ∨ 16 < r.cls ∨ 7 < r.priority ∨ 7 < r.lines ∨ 1 < r.enabled →
        Served s (.policySet tag body) (plain 0x87 tag .badField) s.heard)
        ∧ (1 ≤ r.cls → r.cls ≤ 16 → r.priority ≤ 7 → r.lines ≤ 7 → r.enabled ≤ 1 →
          ∃ t : State, exec (.policySet tag body) s = .next t ∧ t.alerts.lines = t.judgedLines
            ∧ Answered s t (plain 0x87 tag .ok)
              { s.heard with
                policy := s.policy.set (Fin.ofNat 16 (r.cls - 1))
                  { priority := r.priority, enabled := r.enabled == 1
                    lines := { beacon := r.lines.testBit 0, buzzer := r.lines.testBit 1, attn := r.lines.testBit 2 } } }))
    ∧ ∀ (s : State) (tag : Byte) (body : List Byte) (r : PairReq), s.hears → readPair 1 2 body = some r →
      let n := r.first
      let v := r.second
      let p := s.params
      let range : Nat × Nat := [(5, 60), (40, 250), (5, 300), (5, 120), (1, 60), (8, 47)].getD (n - 1) (0, 0)
      let old : Nat := [p.window, p.slowLatch, p.supervision, p.unslotted, p.service, p.nearFull].getD (n - 1) 0
      (n = 0 ∨ 6 < n ∨ v < range.1 ∨ range.2 < v → Served s (.paramSet tag body) (plain 0x88 tag .badField) s.heard)
        ∧ (1 ≤ n → n ≤ 6 → range.1 ≤ v → v ≤ range.2 →
          Served s (.paramSet tag body) { kind := 0x88, tag, result := .ok, fields := .oldParam old }
            (State.nearFullJudged
              { s.heard with
                params :=
                  { window := if n = 1 then v else p.window, slowLatch := if n = 2 then v else p.slowLatch
                    supervision := if n = 3 then v else p.supervision, unslotted := if n = 4 then v else p.unslotted
                    service := if n = 5 then v else p.service, nearFull := if n = 6 then v else p.nearFull } }))

/-- R117 with R85 and R125: TIME_SET while time is unset; to a time that passes no deadline; and to a time that passes the
deadline at the head of the Due List only. Every OPEN window moves with it, held at the top of the count (R116). -/
def Obligations.TimeSetMovesWindowsAndStages : Prop :=
  ∀ (s : State) (tag : Byte) (body : List Byte) (new : Nat), s.hears → readOne 4 body = some new →
    (s.time = none →
      Served s (.timeSet tag body) { kind := 0x89, tag, result := .ok, fields := .oldTime none 0 }
        { s.heard with time := some new })
      ∧ ∀ old : Nat, s.time = some old →
        let moved : State :=
          { s.heard with
            time := some new
            release := { s.release with
              channels := s.release.channels.map fun c => match c with
                | .opened n b d => if new = old then c else .opened n b (min (d + new - old) 4294967295)
                | c => c } }
        (new ≤ old ∨ (∀ e ∈ s.dueList, new < e.deadline) →
          Served s (.timeSet tag body) { kind := 0x89, tag, result := .ok, fields := .oldTime (some old) 0 } moved)
        ∧ ∀ (e : DueEntry) (rest : List DueEntry) (b : Booking), old < new → s.dueList = e :: rest → e.deadline ≤ new →
            (∀ x ∈ rest, new < x.deadline) → s.booking? e.booking = some b →
            let st := b.stageAt new
            let others := s.dueList.filter fun x => x.booking != e.booking
            Served s (.timeSet tag body) { kind := 0x89, tag, result := .ok, fields := .oldTime (some old) 1 }
              { moved.withBooking e.booking fun x => { x with stage := some st } with
                dueList := match b.nextDeadline st with
                  | some d => insertBy DueEntry.before { deadline := d, booking := e.booking } others
                  | none => others }

/-! ### Releases -/

/-- R76 to R78 and R83: RELEASE refused, admitted behind a full budget, and admitted and granted at once to the lowest FREE
channel with its LATCH OPEN command. -/
def Obligations.ReleaseIsCheckedAdmittedAndGranted : Prop :=
  ∀ (s : State) (tag : Byte) (body : List Byte) (n : Nat), s.hears → readOne 4 body = some n →
    (n = 0 → Served s (.release tag body) (plain 0x8A tag .badField) s.heard)
      ∧ (n ≠ 0 → s.admission n none ≠ .accepted → Served s (.release tag body) (plain 0x8A tag (s.admission n none)) s.heard)
      ∧ ∀ (b : Booking) (m : SlotNo), n ≠ 0 → s.admission n none = .accepted → s.booking? n = some b →
        s.slotOfKey b.key = some m →
        let a : Answer :=
          { kind := 0x8A, tag, result := .accepted, fields := .accepted m (s.release.queue.length + 1) }
        (s.release.budget ≤ s.usedChannels → Served s (.release tag body) a (s.heard.admitted n m .counter))
        ∧ ∀ c : ChanNo, s.release.queue = [] → s.usedChannels < s.release.budget → (s.slot m).occ = .held →
            s.chan c = .free → (∀ c' : ChanNo, c' < c → s.chan c' ≠ .free) →
            ∃ t : State, exec (.release tag body) s = .next t
              ∧ Answered s t a ((s.heard.admitted n m .counter).grantedAlone n m c)
              ∧ t.latchAsked m .openIt (some c)

/-- R73, R161: CODE_ENTRY refused before any check, refused by a check with a wrong code counted, admitted behind a full
budget, and admitted and granted at once. -/
def Obligations.CodeEntryIsCheckedAdmittedAndGranted : Prop :=
  ∀ (s : State) (tag : Byte) (body : List Byte) (r : PairReq), s.kioskHears → readPair 4 3 body = some r →
    let n := r.first
    let res := s.admission n (some r.second)
    (n = 0 ∨ 999999 < r.second →
        KioskServed s (.codeEntry tag body) { tag, booking := n, result := .badField, accepted := none } s)
      ∧ (n ≠ 0 → r.second ≤ 999999 → res ≠ .accepted →
        KioskServed s (.codeEntry tag body) { tag, booking := n, result := res, accepted := none }
          (if res = .codeWrong then s.withBooking n fun b => { b with failures := b.failures + 1 } else s))
      ∧ ∀ (b : Booking) (m : SlotNo), n ≠ 0 → r.second ≤ 999999 → res = .accepted → s.booking? n = some b →
        s.slotOfKey b.key = some m →
        let a : KioskAnswer := { tag, booking := n, result := .accepted, accepted := some (m, s.release.queue.length + 1) }
        (s.release.budget ≤ s.usedChannels → KioskServed s (.codeEntry tag body) a (s.admitted n m .kiosk))
        ∧ ∀ c : ChanNo, s.release.queue = [] → s.usedChannels < s.release.budget → (s.slot m).occ = .held →
            s.chan c = .free → (∀ c' : ChanNo, c' < c → s.chan c' ≠ .free) →
            KioskServed s (.codeEntry tag body) a ((s.admitted n m .kiosk).grantedAlone n m c)

/-! ### Alerts -/

/-- R135, R142: a raise takes the first of six cases that applies. Suppressed, nothing changes; otherwise no table but the subject's
alert fields changes, and the list, the mark, the lines and the reports are as the case has them. PANEL_CHANGE to OPEN, where
PANEL_OPEN begins, is such a raise. The counts in the reports are those after the change (the model's reading, log 11). -/
def Obligations.ARaiseTakesTheFirstCaseThatApplies : Prop :=
  (∀ (s : State) (x : Subject) (c : AlertClass) (f : AlertFields), s.alertOf x = some f →
    let t := s.raiseAlert x c
    let info : AlertClass → AlertInfo := fun k =>
      { subject := x, cls := k, listLen := t.alerts.list.length, waitLen := t.waiters.length }
    let raised : Bool → ReportBody := fun waiting => .alertRaised (info c) (s.policyOf c).priority s.time waiting
    let adds : List ReportBody → Prop := fun bs => s.linkBusy → s.link.reports.length ≤ 30 →
      t.link.reports = s.link.reports ++ bs.map fun b => { time := s.time, gap := false, body := b }
    ((s.policyOf c).enabled = false ∨ f.acked = some c → t = s)
      ∧ ((s.policyOf c).enabled = true → f.acked ≠ some c →
        (t.tables = s.tables ∧ ∀ y : Subject, y ≠ x → t.alertOf y = s.alertOf y)
        ∧ (∀ r : AlertRec, s.listed x = some r →
          t.alerts.list = s.alerts.list.map (fun y => if y.subject = x then { y with cls := c, raised := s.time } else y)
            ∧ t.alerts.lines = t.judgedLines ∧ t.alertOf x = some { f with cls := some c }
            ∧ adds [.alertCleared (info r.cls) .replaced false, raised false])
        ∧ (∀ k : AlertClass, s.listed x = none → f.waiting = true → f.cls = some k →
          t.alerts = s.alerts ∧ t.alertOf x = some { f with cls := some c, raised := s.time }
            ∧ adds [.alertCleared (info k) .replaced true, raised true])
        ∧ (s.listed x = none → f.waiting = false → s.alerts.list.length < 8 →
          t.alerts.list = s.alerts.list ++ [{ subject := x, cls := c, raised := s.time }]
            ∧ t.alerts.lines = t.judgedLines
            ∧ t.alertOf x = some { cls := some c, waiting := false, acked := f.acked, raised := none }
            ∧ adds [raised false])
        ∧ (s.listed x = none → f.waiting = false → 8 ≤ s.alerts.list.length →
          t.alerts = s.alerts ∧ t.alertOf x = some { cls := some c, waiting := true, acked := f.acked, raised := s.time }
            ∧ adds [raised true])))
    ∧ ∀ s : State, s.power.stopped = false → s.mode.panelOpen = false → s.session.remaining = none →
        (s.cond .serviceOverrun).active = false → (s.cond .panelOpen).active = false →
        Gives s (.panelChange true)
          (State.raiseAlert
            (State.condTo
              { s with pins := { s.pins with panel := true }, mode := { s.mode with panelOpen := true } } .panelOpen true)
            (.cabinet .panelOpen) .panelOpen)

/-- R138: ALERT_ACK of a bad subject, of one with neither record nor mark, and of one whose record leaves the list or whose mark
is cleared, with its class acknowledged and reported. The subject is looked up as step 1 of R148 leaves it. R137: where a record
leaves, the first waiting subject enters the list at the tail, and is reported. Counts in reports: log 11. -/
def Obligations.AlertAckTakesTheRecordOrMark : Prop :=
  ∀ (s : State) (tag : Byte) (body : List Byte) (r : PairReq), s.hears → readPair 1 4 body = some r →
    (Subject.ofWire r.first r.second = none → Served s (.alertAck tag body) (plain 0x8B tag .badField) s.heard)
      ∧ ∀ x : Subject, Subject.ofWire r.first r.second = some x →
        let u := s.frameBegin
        (u.alertOf x = none → Served s (.alertAck tag body) (plain 0x8B tag .notFound) s.heard)
        ∧ ∀ f : AlertFields, u.alertOf x = some f →
          (u.listed x = none → f.waiting = false → Served s (.alertAck tag body) (plain 0x8B tag .notFound) s.heard)
          ∧ ∀ c : AlertClass,
            ((∃ a : AlertRec, u.listed x = some a ∧ a.cls = c) ∨ (u.listed x = none ∧ f.waiting = true ∧ f.cls = some c)) →
            ∃ t : State, exec (.alertAck tag body) s = .next t
              ∧ Answered s t { kind := 0x8B, tag, result := .ok, fields := .ackedClass c } s.heard
              ∧ t.alertOf x = some { cls := none, waiting := false, acked := some c, raised := none } ∧ t.listed x = none
              ∧ (u.listed x = none → t.lastReport = some (.alertCleared
                  { subject := x, cls := c, listLen := t.alerts.list.length, waitLen := t.waiters.length } .acknowledged true))
              ∧ (u.listed x ≠ none → f.waiting = false → s.alertListBounded → s.tablesOrdered →
                  (s.bin.entries.map (·.number)).Nodup →
                let rest := u.alerts.list.filter fun r => r.subject != x
                (u.waitersInOrder = [] → t.alerts.list = rest ∧ t.lastReport = some (.alertCleared
                  { subject := x, cls := c, listLen := rest.length, waitLen := 0 } .acknowledged false))
                ∧ ∀ (w : Waiter) (others : List Waiter), u.waitersInOrder = w :: others →
                    t.alerts.list = rest ++ [{ subject := w.subject, cls := w.cls, raised := w.raised }]
                      ∧ (∃ g : AlertFields, u.alertOf w.subject = some g ∧ t.alertOf w.subject =
                          some { cls := some w.cls, waiting := false, acked := g.acked, raised := none })
                      ∧ t.lastReport = some (.alertListed
                          { subject := w.subject, cls := w.cls, listLen := rest.length + 1, waitLen := others.length }
                          (s.policyOf w.cls).priority w.raised))

/-- R140 and R141: ALERT_MASK and ALERT_UNMASK, and the end of the mask, each with the lines judged again (R139); MASK_EXPIRY
with any of the mask left changes nothing (log 3). -/
def Obligations.TheMaskIsSetClearedAndExpires : Prop :=
  ∀ (s : State) (tag : Byte) (body : List Byte),
    (s.hears →
      (∀ m : Nat, readOne 1 body = some m → m = 0 ∨ 60 < m →
        Served s (.alertMask tag body) (plain 0x8C tag .badField) s.heard)
      ∧ (∀ m : Nat, readOne 1 body = some m → 1 ≤ m → m ≤ 60 →
        ∃ t : State, exec (.alertMask tag body) s = .next t ∧ t.alerts.lines = .none
          ∧ Answered s t (plain 0x8C tag .ok) { s.heard with alerts := { s.alerts with mask := some (60 * m) } })
      ∧ (body = [] →
        ∃ t : State, exec (.alertUnmask tag body) s = .next t ∧ t.alerts.lines = t.judgedLines
          ∧ Answered s t (plain 0x8D tag .ok) { s.heard with alerts := { s.alerts with mask := none } }))
      ∧ (s.power.stopped = false →
        (s.alerts.mask = some 0 →
          Gives s .maskExpiry
            (let drives : (LineSet → Bool) → Bool := fun line => s.alerts.list.any fun r => line (s.policyOf r.cls).lines
            { s with
              alerts := { s.alerts with
                mask := none
                lines := { beacon := drives (·.beacon), buzzer := drives (·.buzzer), attn := drives (·.attn) } } }))
        ∧ (s.alerts.mask ≠ some 0 → Gives s .maskExpiry s))

/-! ### Slots, units, the bin -/

/-- R53: SLOT_CLEAR's checks; the faults and counts go, the slot is IN_SERVICE, the module's count falls if it was QUARANTINED,
and SLOT_FAULT is withdrawn: no record, no waiting mark and no acknowledged class of it is left on the slot (R136; no subject
has both a record and a mark, R134). -/
def Obligations.SlotClearReturnsASlotToService : Prop :=
  ∀ (s : State) (tag : Byte) (body : List Byte) (n : Nat), s.hears → readOne 2 body = some n →
    (383 < n → Served s (.slotClear tag body) (plain 0x8E tag .badField) s.heard)
      ∧ ∀ m : SlotNo, m.val = n →
        let u := modUnit (moduleOf m)
        ((s.unit u).state ≠ .online → Served s (.slotClear tag body) (plain 0x8E tag .slotOffline) s.heard)
        ∧ ((s.unit u).state = .online →
          ∃ t : State, exec (.slotClear tag body) s = .next t
            ∧ Answered s t (plain 0x8E tag .ok)
              ((s.heard.withSlot m fun r =>
                  { r with
                    faults := { coilOpen := false, coilShort := false, latchJammed := false, sensorChatter := false, manual := false }
                    slow := 0, chatter := 0, chatterStart := none, service := .inService }).withUnit u fun r =>
                { r with quarantined := if (s.slot m).service = .quarantined then r.quarantined - 1 else r.quarantined })
            ∧ (∀ a : AlertRec, t.listed (.slot m) = some a → a.cls ≠ .slotFault)
            ∧ ∃ f : AlertFields, t.alertOf (.slot m) = some f ∧ f.acked ≠ some .slotFault
              ∧ (t.listed (.slot m) = none → f.waiting = true → f.cls ≠ some .slotFault))

/-- R52, R44, R38: SLOT_QUARANTINE's checks; MANUAL joins, the count rises if the slot was not QUARANTINED, SLOT_FAULT is
reported; and a module whose count rises to 16 is retired, or marked while it is DARK. -/
def Obligations.SlotQuarantineTakesASlotOutOfService : Prop :=
  ∀ (s : State) (tag : Byte) (body : List Byte) (n : Nat), s.hears → readOne 2 body = some n →
    (383 < n → Served s (.slotQuarantine tag body) (plain 0x8F tag .badField) s.heard)
      ∧ ∀ m : SlotNo, m.val = n →
        let u := modUnit (moduleOf m)
        let r := s.slot m
        (r.channel ≠ none ∨ r.queued = true → Served s (.slotQuarantine tag body) (plain 0x8F tag .wrongState) s.heard)
        ∧ (r.channel = none → r.queued = false → r.service = .quarantined ∨ (s.unit u).quarantined + 1 < 16 →
          ∃ t : State, exec (.slotQuarantine tag body) s = .next t
            ∧ Answered s t (plain 0x8F tag .ok)
              ((s.heard.withSlot m fun r => { r with service := .quarantined, faults := { r.faults with manual := true } }).withUnit u
                fun x => { x with quarantined := if r.service = .quarantined then x.quarantined else x.quarantined + 1 })
            ∧ t.lastReport = some (.slotFault
                { slot := m, booking := none, kind := .manual, service := .quarantined, slow := r.slow, latch := none }))
        ∧ (r.channel = none → r.queued = false → r.service ≠ .quarantined → (s.unit u).quarantined = 15 →
          ∃ t : State, exec (.slotQuarantine tag body) s = .next t
            ∧ 16 ≤ (t.unit u).quarantined ∧ (t.slot m).service = .quarantined
            ∧ (t.unit u).state = (match (s.unit u).state with
                | .online => .retired
                | .probing => .retired
                | .recovery => .retired
                | x => x)
            ∧ ((s.unit u).state = .dark → (t.unit u).retireMark = true)
            ∧ ((s.unit u).state = .online → ∀ k : SlotNo, moduleOf k = moduleOf m → (t.slot k).occ = .unknown))

/-- R39: MODULE_REVIVE's checks in order, and the unit PROBING with its cause and cleared counts. -/
def Obligations.ModuleReviveProbesAnAbsentOrRetiredUnit : Prop :=
  ∀ (s : State) (tag : Byte) (body : List Byte) (a : Nat), s.hears → readOne 1 body = some a →
    (¬ (1 ≤ a ∧ a ≤ 24 ∨ a = 31) → Served s (.moduleRevive tag body) (plain 0x90 tag .badField) s.heard)
      ∧ ∀ u : UnitIx, unitAddr u = a →
        let r := s.unit u
        let res : Result :=
          if s.mode.level = .lost then .supplyHold
          else if r.state = .absent ∨ r.state = .retired then .ok
          else .wrongState
        Served s (.moduleRevive tag body) (plain 0x90 tag res)
          (if res = .ok then
            s.heard.withUnit u fun x =>
              { x with
                state := .probing
                cause := some (if r.state = .absent then .reviveAbsent else .reviveRetired)
                misses := 0, attempts := 0, retry := none }
          else s.heard)

/-- R112, R111, R107: BIN_DISCARD of no entry, of an IN_BIN entry, and of an IN_HAND entry, which leaves the list, with flap
wanted judged again. -/
def Obligations.BinDiscardRemovesAnEntryInHand : Prop :=
  ∀ (s : State) (tag : Byte) (body : List Byte) (d : Nat), s.hears → readOne 2 body = some d →
    (s.drop? d = none → Served s (.binDiscard tag body) (plain 0x91 tag .notFound) s.heard)
      ∧ ∀ e : DropEntry, s.drop? d = some e →
        (e.state = .inBin → Served s (.binDiscard tag body) (plain 0x91 tag .wrongState) s.heard)
        ∧ (e.state = .inHand →
          Served s (.binDiscard tag body) (plain 0x91 tag .ok)
            (State.flapJudged
              { s.heard with bin := { s.bin with entries := s.bin.entries.filter fun x => x.number != d } }))

/-! ### Sessions -/

/-- R172: SERVICE_BEGIN's checks in order; the session begins with an empty list and the limit in seconds, PANEL_OPEN is judged,
and SERVICE_STATE with reason BEGUN is queued. -/
def Obligations.ServiceBeginStartsASession : Prop :=
  ∀ (s : State) (tag : Byte), s.hears →
    let limit := 60 * s.params.service
    let res : Result :=
      if s.mode.level = .lost then .supplyHold
      else if s.session.remaining ≠ none then .wrongState
      else if (∃ c : ChanNo, s.chan c ≠ .free) ∨ s.release.queue ≠ [] then .wrongState
      else .ok
    (res ≠ .ok → Served s (.serviceBegin tag []) (plain 0x92 tag res) s.heard)
      ∧ (res = .ok →
        ∃ t : State, exec (.serviceBegin tag []) s = .next t
          ∧ Answered s t { kind := 0x92, tag, result := .ok, fields := .limit limit }
            (State.panelJudged { s.heard with session := { remaining := some limit, removals := [] } })
          ∧ t.lastReport = some (.serviceState .begun (some limit) none s.mode.panelOpen))

/-- R174, R175: SERVICE_END, and the service limit's expiry: the session ends, each listed key of the Directory is missing, the
list empties, SERVICE_OVERRUN begins where the limit ended it with the panel OPEN, and PANEL_OPEN is judged. With any of the
limit left the expiry changes nothing (log 3). -/
def Obligations.ASessionEndsByRequestOrLimit : Prop :=
  ∀ (s : State) (tag : Byte),
    let ended : State → State := fun u =>
      { u with
        session := { remaining := none, removals := [] }
        directory := u.directory.map fun e =>
          if s.session.removals.any fun r => r.tag == some e.tag then { e with missing := true } else e }
    (s.hears →
      (s.session.remaining = none → Served s (.serviceEnd tag []) (plain 0x93 tag .wrongState) s.heard)
      ∧ (s.session.remaining ≠ none →
        Served s (.serviceEnd tag []) { kind := 0x93, tag, result := .ok, fields := .left s.session.removals.length }
          (ended s.heard).panelJudged))
      ∧ (s.power.stopped = false →
        (s.session.remaining = some 0 →
          Makes s .serviceLimitExpiry
            (if s.mode.panelOpen then ((ended s).condTo .serviceOverrun true).panelJudged else (ended s).panelJudged))
        ∧ (s.session.remaining ≠ some 0 → Gives s .serviceLimitExpiry s))

/-! ### Queries -/

/-- R156, R158, R21, R22: HEARTBEAT, STATUS_QUERY in both parts, KEY_QUERY and SLOT_QUERY change nothing but what every valid
frame does, and answer from the state as step 1 leaves it. SLOT_QUERY gives as many whole entries as fit the 244 bytes
behind the result code and the more flag (R177; the entries' layout: log 17). So does RESTART, until its answer has been sent
(R168). -/
def Obligations.StatusKeyAndSlotQueriesOnlyAnswer : Prop :=
  ∀ (s : State) (tag : Byte) (body : List Byte), s.hears →
    let u := s.frameBegin
    Asked s (.restart tag []) (plain 0x94 tag .ok)
      ∧ Asked s (.heartbeat tag [])
        { kind := 0x9A, tag, result := .ok
          fields := .heartbeat s.link.state u.time u.link.reports.length u.link.counts.dropped }
      ∧ Asked s (.statusQuery tag [0])
          { kind := 0x95, tag, result := .ok
            fields := .status
              { cause := s.mode.cause, rate := s.mode.rate, kioskOn := s.kiosk.enabled, strapFault := s.mode.strapFault
                hold := s.mode.level == .lost, level := s.mode.level, panelOpen := s.mode.panelOpen
                session := s.session.remaining.map fun r => (r, s.session.removals.length)
                time := s.time, dueCount := s.dueList.length, nextDue := s.dueList.head?.map (·.deadline)
                outStages := [Stage.onTime, .due, .overdue, .escalated].map fun st =>
                  s.bookings.countP fun b => b.state == .out && b.stage == some st
                dirCount := s.directory.length
                bookings := [BookingState.loaded, .releasing, .out, .returned, .cancelled].map fun st =>
                  s.bookings.countP fun b => b.state == st
                budget := s.release.budget, used := allChannels.countP fun c => s.chan c != .free
                queueLen := s.release.queue.length, channels := s.release.channels.toList
                online := allUnits.countP fun x => (s.unit x).state == .online
                inBin := s.bin.entries.countP fun e => e.state == .inBin
                binCount := s.bin.entries.length, nextDrop := s.bin.nextDrop, wanted := s.chute.wanted
                nearFull := (s.cond .chuteNearFull).active, chuteLocked := (s.cond .chuteLocked).active
                listLen := u.alerts.list.length, waitLen := u.waiters.length, mask := s.alerts.mask, lines := u.alerts.lines
                link := .connected, supervision := s.link.supervision, reports := u.link.reports.length
                answers := s.link.answers.length, linkCounts := u.link.counts
                answerHeld := s.kiosk.answer.isSome, notices := s.kiosk.notices.length, kioskCounts := s.kiosk.counts
                params := s.params } }
      ∧ Asked s (.statusQueryUnits tag [1])
          { kind := 0x95, tag, result := .ok
            fields := .units (allUnits.map fun x =>
              { state := (u.unit x).state, misses := (u.unit x).misses, attempts := (u.unit x).attempts
                retry := (u.unit x).retry, resync := (u.unit x).resync
                quarantined := if x = chuteIx then none else some (u.unit x).quarantined
                chute := if x = chuteIx then some (u.chute.wanted, u.chute.confirmed, u.chute.hatchOpen) else none }) }
      ∧ (∀ part : Byte, part ≠ 0 → part ≠ 1 → Asked s (.statusQuery tag [part]) (plain 0x95 tag .badField))
      ∧ (∀ k : Nat, readOne 4 body = some k →
          let a : KeyAnswer :=
            { entry := u.entry? k
              place := match u.slotOfKey k, u.dropOfKey k with
                | some n, _ => if (u.slot n).occ = .held then .inSlot n (u.misplaced n) else .lastSeen n
                | none, some e =>
                  if e.state = .inBin then .inBin e.number else .inHand e.number e.age e.handed e.unslotted
                | none, none => .nowhere
              custody := (u.bookings.find? fun b => b.key == k && (b.state == .releasing || b.state == .out)).map fun b =>
                (b.number, b.state) }
          Asked s (.keyQuery tag body)
            (if k = 0 then plain 0x98 tag .badField
            else if a.entry = none ∧ a.place = .nowhere ∧ a.custody = none then plain 0x98 tag .notFound
            else { kind := 0x98, tag, result := .ok, fields := .key a }))
      ∧ ∀ r : PairReq, readPair 2 1 body = some r →
          (r.second = 0 ∨ 16 < r.second ∨ 384 < r.first + r.second →
            Asked s (.slotQuery tag body) (plain 0x96 tag .badField))
          ∧ (1 ≤ r.second → r.second ≤ 16 → r.first + r.second ≤ 384 →
            ∃ (es : List SlotEntry) (more : Bool),
              Asked s (.slotQuery tag body) { kind := 0x96, tag, result := .ok, fields := .slots es more }
                ∧ es = ((List.range es.length).map fun i => u.slotEntry (Fin.ofNat 384 (r.first + i)))
                ∧ es.length ≤ r.second ∧ (more = false ↔ es.length = r.second)
                ∧ (es.map (·.bytes.length)).sum ≤ 244
                ∧ (more = true →
                    244 < (es.map (·.bytes.length)).sum + (u.slotEntry (Fin.ofNat 384 (r.first + es.length))).bytes.length))

/-- R74, R75, R130, R143, R144: BOOKING_QUERY and ALERT_QUERY in both forms change nothing but what every valid frame does. A booking
is answered with its release position and remaining time, a subject with its places in the Alert List and among the waiting
subjects (in the order of R137) and its raised time. -/
def Obligations.BookingAndAlertQueriesOnlyAnswer : Prop :=
  ∀ (s : State) (tag : Byte) (body : List Byte) (n k : Nat), s.hears →
    let u := s.frameBegin
    (readBookingQuery body = some (.single n) →
        Asked s (.bookingQuery tag body)
          (match u.booking? n with
          | none => plain 0x97 tag .notFound
          | some b =>
            let left : Nat → Nat := fun d => d - u.time.getD 0
            let holds : ChanNo → Bool := fun c => match u.chan c with
              | .opening _ k => k == n
              | .opened _ k _ => k == n
              | _ => false
            let position : Option ReleasePos :=
              if b.state ≠ .releasing then none
              else
                match u.release.queue.findIdx? (fun e => e.booking == n), allChannels.find? holds with
                | some place, _ => some (.queued (place + 1))
                | none, some c =>
                  match u.chan c with
                  | .opened _ _ d => some (.opened c (left d))
                  | _ => some (.opening c)
                | none, none => none
            let remaining : Option Nat :=
              if b.state ≠ .out then none
              else
                match b.stage with
                | some .onTime => some (left b.due)
                | some .due => some (left b.overdueAt)
                | some .overdue => b.escalationAt.map left
                | _ => none
            { kind := 0x97, tag, result := .ok, fields := .booking { booking := b, position, remaining } }))
      ∧ (readBookingQuery body = some (.list n) →
        let from_ := u.bookings.filter fun b => decide (n ≤ b.number)
        Asked s (.bookingQueryList tag body)
          { kind := 0x97, tag, result := .ok
            fields := .bookings
              ((from_.take 10).map fun b => { number := b.number, kind := b.kind, key := b.key, state := b.state, stage := b.stage })
              (decide (10 < from_.length)) })
      ∧ (readAlertQuery body = some .list →
        Asked s (.alertQuery tag body)
          { kind := 0x99, tag, result := .ok
            fields := .alerts
              { mask := u.alerts.mask, lines := u.alerts.lines
                records := u.alerts.list.map fun r => (r, (u.policyOf r.cls).priority)
                waitCount := u.waiters.length, waiters := u.waitersInOrder.take 8 } })
      ∧ (readAlertQuery body = some (.subject n k) →
        (Subject.ofWire n k = none → Asked s (.alertQuerySubject tag body) (plain 0x99 tag .badField))
        ∧ ∀ x : Subject, Subject.ofWire n k = some x →
          (u.alertOf x = none → Asked s (.alertQuerySubject tag body) (plain 0x99 tag .notFound))
          ∧ ∀ f : AlertFields, u.alertOf x = some f →
            Asked s (.alertQuerySubject tag body)
              { kind := 0x99, tag, result := .ok
                fields := .subject
                  { cls := f.cls
                    listed := (u.alerts.list.findIdx? fun r => r.subject == x).map (· + 1)
                    waiting := if f.waiting then (u.waitersInOrder.findIdx? fun w => w.subject == x).map (· + 1) else none
                    raised := match u.listed x with
                      | some r => r.raised
                      | none => if f.waiting then f.raised else none
                    acked := f.acked
                    active := match x with
                      | .cabinet c => some (u.cond c).active
                      | _ => none } })

/-! ### Supply and panel -/

/-- R163, R164: SUPPLY_CHANGE to GOOD or LOW sets the budget to 4 or 1, reports SUPPLY_STATE, and ends or begins the SUPPLY
condition; a change to the level held changes nothing but the pins noted (log 6). The arbiter has no grant to make. -/
def Obligations.SupplyChangeSetsBudgetAndCondition : Prop :=
  ∀ (s : State) (supb : Bool), s.power.stopped = false →
    let new : SupplyLevel := if supb then .good else .low
    let budget := if supb then 4 else 1
    (s.mode.level = new → Gives s (.supplyChange supb) { s with pins := { s.pins with supa := true, supb } })
      ∧ (s.mode.level ≠ new → s.mode.level ≠ .lost → s.release.queue = [] ∨ budget ≤ s.usedChannels →
        ∃ t : State, exec (.supplyChange supb) s = .next t
          ∧ t.tables = (State.condTo
              { s with
                pins := { s.pins with supa := true, supb }
                mode := { s.mode with level := new }
                release := { s.release with budget } } .supply (!supb)).tables
          ∧ (s.linkBusy → s.link.reports.length ≤ 24 →
            s.link.reports ++
                [{ time := s.time, gap := false
                   body := .supplyState (some s.mode.level) new false budget s.usedChannels }] <+: t.link.reports))

/-- R165, R94, R40, R8: HOLD_ENTRY leaves no channel in use, no queue entry, no transaction and no pending command, no booking
RELEASING that stood in the queue or held a channel, every PROBING, ONLINE or RECOVERY unit DARK, the slots of modules that were
ONLINE UNKNOWN with the tags of the HELD ones, no session, and SUPPLY active. -/
def Obligations.HoldEntryFreesAndDarkens : Prop :=
  ∀ (s : State) (supb : Bool), s.power.stopped = false → s.mode.level ≠ .lost →
    ∃ t : State, exec (.holdEntry supb) s = .next t
      ∧ t.mode = { s.mode with level := .lost } ∧ t.pins = { s.pins with supa := false, supb }
      ∧ t.release.budget = 0 ∧ t.release.queue = [] ∧ (∀ c : ChanNo, t.chan c = .free)
      ∧ t.bus.flight = none ∧ t.bus.latches = [] ∧ t.bus.lastPolled = none ∧ t.chute = { s.chute with confirmed := .locked }
      ∧ (∀ u : UnitIx, (t.unit u).state = (match (s.unit u).state with
          | .probing => .dark
          | .online => .dark
          | .recovery => .dark
          | x => x))
      ∧ (∀ n : SlotNo, ((t.slot n).occ, (t.slot n).tag) =
          if s.slotOnline n then
            (.unknown, if (s.slot n).occ = .held ∨ (s.slot n).occ = .unknown then (s.slot n).tag else none)
          else ((s.slot n).occ, (s.slot n).tag))
      ∧ t.bookings.map Booking.bare = (s.bookings.map fun b =>
          let inUse (c : ChanNo) : Bool := match s.chan c with
            | .opening _ k => k == b.number
            | .opened _ k _ => k == b.number
            | _ => false
          (if (s.release.queue.any fun e => e.booking == b.number) || allChannels.any inUse then { b with state := .loaded }
          else b).bare)
      ∧ t.session.remaining = none ∧ (t.cond .supply).active = true
      ∧ t.time = s.time ∧ t.params = s.params ∧ t.policy = s.policy ∧ t.dueList = s.dueList ∧ t.alerts.mask = s.alerts.mask
      ∧ t.bin.entries.map DropEntry.bare = s.bin.entries.map DropEntry.bare ∧ t.bin.nextDrop = s.bin.nextDrop

/-- R167, R40, R38: HOLD_EXIT sets the budget, sends every DARK unit to PROBING, or to RETIRED where it is marked, and ends
SUPPLY at GOOD; the Release Queue is empty, as HOLD_ENTRY leaves it. The START report's mark may be set by a unit that retires
(log 14). -/
def Obligations.HoldExitProbesDarkUnits : Prop :=
  ∀ (s : State) (supb : Bool), s.power.stopped = false → s.mode.level = .lost → s.release.queue = [] →
    ∃ (t : State) (reported : Bool), exec (.holdExit supb) s = .next t
      ∧ t.tables =
        (let u : State :=
          { s with
            pins := { s.pins with supa := true, supb }
            mode := { s.mode with level := if supb then .good else .low, startReported := reported }
            release := { s.release with budget := if supb then 4 else 1 }
            units := s.units.map fun r =>
              if r.state = .dark then
                if r.retireMark then { r with state := .retired, cause := none, retireMark := false }
                else { r with state := .probing }
              else r }
        if supb then u.condTo .supply false else u).tables
      ∧ ((∀ u : UnitIx, (s.unit u).retireMark = false) → reported = s.mode.startReported)

/-- R171: PANEL_CHANGE sets the panel state; closing ends SERVICE_OVERRUN first, and PANEL_OPEN is judged. A level equal to the
one held changes nothing but the pin noted (log 6). -/
def Obligations.PanelChangeJudgesTheConditions : Prop :=
  ∀ (s : State) (isOpen : Bool), s.power.stopped = false →
    let noted : State := { s with pins := { s.pins with panel := isOpen } }
    (s.mode.panelOpen = isOpen → Gives s (.panelChange isOpen) noted)
      ∧ (s.mode.panelOpen ≠ isOpen →
        Makes s (.panelChange isOpen)
          (let u : State := { noted with mode := { s.mode with panelOpen := isOpen } }
          (if isOpen then u else u.condTo .serviceOverrun false).panelJudged))

/-! ### Time -/

/-- R115, R37, R141, R155, R174, R113: a one-second boundary moves cabinet time while it is set, the retry times in RECOVERY, the
mask, supervision while CONNECTED, the session and the ages in hand. That it moves nothing else, each expiry being a command of
its own, and that a count at 0 stays there until its expiry is taken, is the model's choice (log 3). -/
def Obligations.ABoundaryMovesEveryCount : Prop :=
  ∀ s : State, s.power.stopped = false →
    Gives s .oneSecondBoundary
      { s with
        time := s.time.map fun n => min (n + 1) 4294967295
        units := s.units.map fun r => if r.state = .recovery then { r with retry := r.retry.map fun n => n - 1 } else r
        alerts := { s.alerts with mask := s.alerts.mask.map fun n => n - 1 }
        link :=
          if s.link.state = .connected then { s.link with supervision := s.link.supervision.map fun n => n - 1 } else s.link
        session := { s.session with remaining := s.session.remaining.map fun n => n - 1 }
        bin := { s.bin with
          entries := s.bin.entries.map fun e =>
            if e.state = .inHand then { e with age := min (e.age + 1) 7200 } else e } }

/-- R123, R124: DEADLINE_EXPIRY takes the head of the Due List once its deadline is reached: its stage, its class, its new
place. With no deadline reached it changes nothing (log 3). -/
def Obligations.ADeadlineExpiryAdvancesTheHead : Prop :=
  ∀ s : State, s.power.stopped = false →
    (s.time = none ∨ s.dueList = [] → Gives s .deadlineExpiry s)
      ∧ ∀ (now : Nat) (e : DueEntry) (rest : List DueEntry), s.time = some now → s.dueList = e :: rest →
        (now < e.deadline → Gives s .deadlineExpiry s)
        ∧ ∀ b : Booking, e.deadline ≤ now → (∀ x ∈ rest, now < x.deadline) → s.booking? e.booking = some b →
          let st := b.stageAt now
          let others := s.dueList.filter fun x => x.booking != e.booking
          ∃ t : State, exec .deadlineExpiry s = .next t
            ∧ t.tables =
              { s.withBooking e.booking fun x => { x with stage := some st } with
                dueList := match b.nextDeadline st with
                  | some d => insertBy DueEntry.before { deadline := d, booking := e.booking } others
                  | none => others }.tables
            ∧ ∀ c : AlertClass, st.cls = some c → (s.policyOf c).enabled = true → b.alert.acked ≠ some c →
              ∃ f : AlertFields, t.alertOf (.booking e.booking) = some f ∧ f.cls = some c

/-- R87: WINDOW_EXPIRY of an OPEN channel whose deadline is reached: CLOSING with reason EXPIRED, the booking LOADED, the slot's
last release, UNTAKEN, LATCH CLOSE, RELEASE_UNTAKEN and, for a kiosk release, the notice UNTAKEN (R98); of any other channel,
nothing (log 3). -/
def Obligations.AWindowExpiryClosesTheChannel : Prop :=
  ∀ (s : State) (c : ChanNo), s.power.stopped = false →
    (s.time = none ∨ (∀ n b d, s.chan c ≠ .opened n b d) → Gives s (.windowExpiry c) s)
      ∧ ∀ (n : SlotNo) (b d now : Nat), s.chan c = .opened n b d → s.time = some now →
        (now < d → Gives s (.windowExpiry c) s)
        ∧ (d ≤ now →
          ∃ t : State, exec (.windowExpiry c) s = .next t
            ∧ t.tables = (((s.withChan c (.closing n b .expired)).withBooking b fun k => { k with state := .loaded }).withSlot n
                fun r => { r with lastRelease := some b }).tables
            ∧ (s.slotOnline n = true → t.latchAsked n .closeIt (some c))
            ∧ (s.linkBusy → t.lastReport = some (.releaseUntaken
                { booking := b, slot := n, key := (s.booking? b).map (·.key) } c ((s.booking? b).bind (·.source))))
            ∧ s.tells t ((s.booking? b).bind (·.source)) b .untaken
            ∧ ∀ k : Booking, s.booking? b = some k → (s.policyOf .untaken).enabled = true → k.alert.acked ≠ some .untaken →
              ∃ f : AlertFields, t.alertOf (.booking b) = some f ∧ f.cls = some .untaken)

/-- R37, R113, R155: RECOVERY_RETRY, UNSLOTTED_LIMIT_REACHED and SUPERVISION_EXPIRY, each where its condition holds, and
nothing where it does not (log 3). -/
def Obligations.CountsThatRunOutAct : Prop :=
  ∀ (s : State) (addr : Byte), s.power.stopped = false →
    (∀ u : UnitIx, unitAddr u = addr.toNat →
      Gives s (.recoveryRetry addr)
        (if (s.unit u).state = .recovery ∧ (s.unit u).retry = some 0 then
          s.withUnit u fun r => { r with state := .probing, cause := some .retry, retry := none }
        else s))
      ∧ ((∀ u : UnitIx, unitAddr u ≠ addr.toNat) → Gives s (.recoveryRetry addr) s)
      ∧ (let due : DropEntry → Bool := fun e => e.state == .inHand && !e.unslotted && decide (60 * s.params.unslotted ≤ e.age)
        Makes s .unslottedLimitReached
            { s with
              bin := { s.bin with
                entries := s.bin.entries.map fun e =>
                  { e with unslotted := e.unslotted || s.bin.entries.any fun x => x.number == e.number && due x } } }
          ∧ (s.bin.entries.any due = false → Gives s .unslottedLimitReached s))
      ∧ (s.link.state = .connected → s.link.supervision = some 0 →
        ∃ t : State, exec .supervisionExpiry s = .next t ∧ t.tables = (s.condTo .linkLost true).tables
          ∧ t.link.state = .standalone ∧ t.link.supervision = none
          ∧ t.link.counts.losses = up s.link.counts.losses)
      ∧ (¬ (s.link.state = .connected ∧ s.link.supervision = some 0) → Gives s .supervisionExpiry s)

/-! ### The Slot Bus -/

/-- R31: with the bus idle in RUN, the next command is a LATCH of an ONLINE unit not under resync, else FLAP, else the STATUS read
of the lowest unit under resync, else the PROBE of the lowest PROBING unit, else LAMPS of the lowest module that wants them,
else a POLL of an ONLINE unit, else none. A LATCH put back after one miss goes first, the others by age. -/
def Obligations.TheBusTakesCommandsInOrder : Prop :=
  ∀ s : State, s.bus.flight = none → s.mode.level ≠ .lost →
    let open_ : UnitIx → Bool := fun u => (s.unit u).state == .online && !(s.unit u).resync
    let latches := s.bus.latches.filter fun l => open_ (modUnit (moduleOf l.slot))
    let flap : Bool := (s.unit chuteIx).state == .online && s.chute.wanted != s.chute.confirmed
    let sent : UnitIx → BusCmd → Option Flight := fun u c => some { unit := u, cmd := c, phase := .transmitting, stale := false }
    let lowest : UnitIx → (UnitIx → Bool) → Prop := fun u p => p u = true ∧ ∀ x : UnitIx, x < u → p x = false
    let status : UnitIx → Bool := fun u => (s.unit u).state == .online && (s.unit u).resync
    let probe : UnitIx → Bool := fun u => (s.unit u).state == .probing
    let lamps : UnitIx → Bool := fun u => u != chuteIx && (s.unit u).lampsWanted && open_ u
    let t := s.chooseCommand
    if latches ≠ [] then
      ∃ l ∈ latches, t.bus.flight = sent (modUnit (moduleOf l.slot)) (.latch l) ∧ t.bus.latches = s.bus.latches.erase l
        ∧ ((∃ x ∈ latches, x.tries = 1) → l.tries = 1)
        ∧ ((∀ x ∈ latches, x.tries ≠ 1) → latches.head? = some l)
    else if flap then t.bus.flight = sent chuteIx (.flap s.chute.wanted)
    else if allUnits.any status then ∃ u : UnitIx, lowest u status ∧ t.bus.flight = sent u .status
    else if allUnits.any probe then ∃ u : UnitIx, lowest u probe ∧ t.bus.flight = sent u .probe
    else if allUnits.any lamps then
      ∃ (u : UnitIx) (m : ModIx), u = modUnit m ∧ lowest u lamps ∧ (t.unit u).lampsWanted = false
        ∧ t.bus.flight = sent u (.lamps (positions.map fun p => (s.slot (slotAt m p)).lamp))
    else if allUnits.any open_ then
      ∃ u : UnitIx, open_ u = true ∧ t.bus.flight = sent u .poll ∧ t.bus.lastPolled = some u
        ∧ (match s.bus.lastPolled with
          | some last =>
            let after : UnitIx → Bool := fun x => open_ x && decide (last < x)
            if allUnits.any after then lowest u after else lowest u open_
          | none => lowest u open_)
    else t = s

/-- R23, R26, R38: with no transaction in flight a reply changes nothing; a reply from another address, of another kind, or with
a broken layout or a value its field does not have (R24, R181) is a bad reply; and where the unit has left the state R26 asks for, whatever ends the transaction is
discarded whole. Before the 25 ms are over REPLY_DEADLINE changes nothing (log 3). A reply counts whenever a transaction is in
flight, and a LATCH reply of the other direction as one of another kind (log 23). -/
def Obligations.AReplyThatDoesNotBelongIsMissed : Prop :=
  ∀ (s : State) (addr : Byte) (payload : List Byte) (i : Instr) (clock : Nat), s.power.stopped = false →
    let rows : List Instr :=
      [.probeReply addr payload, .pollReply addr payload, .statusReply addr payload, .latchOpenReply addr payload,
       .latchCloseReply addr payload, .lampsReply addr payload, .flapReply addr payload]
    i ∈ rows →
      (s.bus.flight = none → Gives s i s ∧ Gives s .badReply s ∧ Gives s (.replyDeadline clock) s)
      ∧ ∀ f : Flight, s.bus.flight = some f →
        (f.phase = .transmitting ∨ (∃ since : Nat, f.phase = .awaiting since ∧ clock < since + 25) →
          Gives s (.replyDeadline clock) s)
        ∧
        let own : Instr := match f.cmd with
          | .probe => .probeReply addr payload
          | .poll => .pollReply addr payload
          | .status => .statusReply addr payload
          | .latch l => if l.dir = .openIt then .latchOpenReply addr payload else .latchCloseReply addr payload
          | .lamps _ => .lampsReply addr payload
          | .flap _ => .flapReply addr payload
        let size : Option Nat := match f.cmd with
          | .probe => some (if f.unit = chuteIx then 3 else 81)
          | .poll => none
          | .status => some (if f.unit = chuteIx then 2 else 80)
          | .latch _ => some 2
          | .lamps _ => some 0
          | .flap _ => some 1
        let read : Bool := match f.cmd with
          | .probe => (readProbe f.unit payload).isSome
          | .poll => if f.unit = chuteIx then (readPoll readChuteEntry payload).isSome else (readPoll readModuleEntry payload).isSome
          | .status => (readStatus f.unit payload).isSome
          | .latch _ => (readLatch payload).isSome
          | .lamps _ => payload.isEmpty
          | .flap _ => (readFlapReply payload).isSome
        let byte : Nat → Nat := fun k => (payload.getD k 0).toNat
        let wrong : Bool := match f.cmd with
          | .probe => byte 0 != (if f.unit = chuteIx then 1 else 0) || (f.unit == chuteIx && (decide (1 < byte 1) || decide (1 < byte 2)))
          | .poll => decide (16 < byte 0 % 32) || payload.length != 1 + 5 * (byte 0 % 32)
          | .status => f.unit == chuteIx && (decide (1 < byte 0) || decide (1 < byte 1))
          | .latch _ => decide (2 < byte 0)
          | .lamps _ => false
          | .flap _ => decide (1 < byte 0)
        (unitAddr f.unit ≠ addr.toNat ∨ i ≠ own ∨ (∃ k : Nat, size = some k ∧ payload.length ≠ k) ∨ wrong = true
            ∨ read = false →
          exec i s = exec .badReply s)
        ∧ (f.stale = true ∨ (s.unit f.unit).state ≠ (if f.cmd = .probe then .probing else .online) →
          Gives s i { s with bus := { s.bus with flight := none } }
            ∧ Gives s .badReply { s with bus := { s.bus with flight := none } })

/-- R23, R27, R28: a first or second miss of an ONLINE unit, by BAD_REPLY or by the 25 ms deadline, raises its misses and has its
effect on the command. -/
def Obligations.AMissBelowThreeIsCounted : Prop :=
  ∀ (s : State) (u : UnitIx) (c : BusCmd) (i : Instr), s.missedBy u c i → c ≠ .probe → (s.unit u).state = .online →
    (s.unit u).misses < 2 →
      Gives s i
        { s.withUnit u fun r =>
            { r with
              misses := r.misses + 1
              resync := r.resync || c == .poll
              lampsWanted := r.lampsWanted || (match c with
                | .lamps _ => true
                | _ => false) } with
          bus := { s.bus with
            flight := none
            latches := match c with
              | .latch l => insertBy LatchCmd.older { l with tries := l.tries + 1 } s.bus.latches
              | _ => s.bus.latches } }

/-- R36, R8, R41: the third miss in a row of an ONLINE unit puts it in RECOVERY with retry time 2 and MODULE_LOST raised; the slots
of a module become UNKNOWN. First where no channel is in use on the module and no queue entry names its slots; then, R93, R49,
R80, R98, in every case: no channel and no queue entry of its slots is left, an OPENING, OPEN or queued booking is LOADED with
its RELEASE_ABORTED and notice, its slot has the last release, and a CLOSING booking is as before. -/
def Obligations.TheThirdMissLosesTheUnit : Prop :=
  ∀ (s : State) (u : UnitIx) (c : BusCmd) (i : Instr), s.missedBy u c i → c ≠ .probe → (s.unit u).state = .online →
    2 ≤ (s.unit u).misses →
    let on : SlotNo → Prop := fun n => modUnit (moduleOf n) = u
    (s.granted → (∀ (k : ChanNo) (n : SlotNo), (s.chan k).slot? = some n → ¬ on n) → (∀ e ∈ s.release.queue, ¬ on e.slot) →
      ∃ t : State, exec i s = .next t
        ∧ t.tables =
          { s.withUnit u fun r => { r with state := .recovery, retry := some 2, misses := 3, resync := false } with
            slots := Vector.ofFn fun n : SlotNo =>
              let r : SlotRec := s.slot n
              if modUnit (moduleOf n) = u ∧ r.occ ≠ Occupancy.unknown then
                { r with occ := Occupancy.unknown, tag := if r.occ = Occupancy.held then r.tag else none, since := s.time }
              else r }.tables
        ∧ (∀ l ∈ t.bus.latches, modUnit (moduleOf l.slot) ≠ u)
        ∧ ((s.policyOf .moduleLost).enabled = true → (s.unit u).alert.acked ≠ some .moduleLost →
            (t.unit u).alert.cls = some .moduleLost)
        ∧ (s.linkBusy → t.lastReport = some (.moduleState u .online .recovery (s.unit u).attempts)))
      ∧ ∃ t : State, exec i s = .next t
        ∧ ((t.unit u).state = .recovery ∨ (t.unit u).state = .retired ∧ 16 ≤ (t.unit u).quarantined)
        ∧ (∀ (k : ChanNo) (n : SlotNo), (t.chan k).slot? = some n → ¬ on n) ∧ (∀ e ∈ t.release.queue, ¬ on e.slot)
        ∧ (∀ l ∈ t.bus.latches, ¬ on l.slot)
        ∧ ∀ (info : Nat → SlotNo → RelInfo), (info = fun b n => { booking := b, slot := n, key := (s.booking? b).map (·.key) }) →
          let reported : ReportBody → Prop := fun b => s.linkBusy → s.link.reports.length ≤ 8 → s.release.queue.length ≤ 16 →
            b ∈ t.link.reports.map (·.body)
          (∀ e ∈ s.release.queue, on e.slot →
            (∀ b : Booking, t.booking? e.booking = some b → b.state = .loaded)
              ∧ (t.slot e.slot).queued = false
              ∧ reported (.releaseAborted (info e.booking e.slot) (some e.source) .queued .moduleOffline))
          ∧ ∀ (k : ChanNo) (n : SlotNo), (s.chan k).slot? = some n → on n → (∀ k' : ChanNo, (s.chan k').slot? = some n → k' = k) →
            ((t.slot n).channel = none
              ∧ ((s.slot n).service = .quarantinePending → (t.slot n).service = .quarantined))
            ∧ (∀ (b : Nat) (phase : ReleasePhase),
                (s.chan k = .opening n b ∧ phase = .opening) ∨ (∃ d : Nat, s.chan k = .opened n b d) ∧ phase = .opened →
              (∀ x : Booking, t.booking? b = some x → x.state = .loaded) ∧ (t.slot n).lastRelease = some b
                ∧ reported (.releaseAborted (info b n) ((s.booking? b).bind (·.source)) phase .moduleOffline)
                ∧ ((s.booking? b).bind (·.source) = some .kiosk → s.kioskBusy → s.kiosk.notices = [] → s.release.queue = [] →
                    { booking := b, event := .aborted } ∈ t.kiosk.notices))
            ∧ ∀ (b : Nat) (why : CloseReason), s.chan k = .closing n b why → s.release.queue = [] →
                (∀ k' : ChanNo, k' ≠ k → (s.chan k').booking? ≠ some b) →
                (t.booking? b).map Booking.bare = (s.booking? b).map Booking.bare

/-- R35, R37: a missed PROBE, by cause: START and REVIVE_ABSENT end ABSENT, REVIVE_RETIRED in RECOVERY with one attempt, RETRY and
HOLD_END in RECOVERY with one attempt more, or RETIRED at the fifth. The START report's mark is the model's (log 14). -/
def Obligations.AFailedProbeGoesByItsCause : Prop :=
  ∀ (s : State) (u : UnitIx) (i : Instr) (cause : ProbeCause), s.missedBy u .probe i → (s.unit u).state = .probing →
    (s.unit u).cause = some cause →
    let r := s.unit u
    let attempts : Nat := match cause with
      | .start => r.attempts
      | .reviveAbsent => r.attempts
      | .reviveRetired => 1
      | .retry => r.attempts + 1
      | .holdEnd => r.attempts + 1
    let state : UnitState := match cause with
      | .start => .absent
      | .reviveAbsent => .absent
      | .reviveRetired => .recovery
      | .retry => if 5 ≤ r.attempts + 1 then .retired else .recovery
      | .holdEnd => if 5 ≤ r.attempts + 1 then .retired else .recovery
    Makes s i
      { s.withUnit u fun r =>
          { r with state, attempts, cause := none, retry := if state = .recovery then some 2 else none } with
        mode := { s.mode with startReported := s.startDone u cause } }

/-- R35, R42, R108, R110: the chute unit's PROBE reply, hatch OPEN or CLOSED, brings it ONLINE and takes flap and hatch; a hatch
newly OPEN hands the IN_BIN entries over. The START report's mark is the model's (log 14). -/
def Obligations.AChuteProbeReplyBringsItOnline : Prop :=
  ∀ (s : State) (addr flap hatch : Byte) (cause : ProbeCause), s.awaits chuteIx .probe addr →
    (s.unit chuteIx).cause = some cause → flap = 0 ∨ flap = 1 → hatch = 0 ∨ hatch = 1 →
    Makes s (.probeReply addr [1, flap, hatch])
      (State.chuteSeen
        { s.withUnit chuteIx fun r =>
            { r with state := .online, cause := none, misses := 0, attempts := 0, retry := none, resync := false } with
          mode := { s.mode with
            startOnline := if cause = .start then s.mode.startOnline + 1 else s.mode.startOnline
            startReported := s.startDone chuteIx cause } }
        flap hatch)

/-- R35, R18: a slot module's START probe reply, with an empty Directory, brings the module ONLINE and fills its slots with what it
reports; no tag of the reply is held by a record before, or reported twice. -/
def Obligations.AStartProbeReplyFillsTheSlots : Prop :=
  ∀ (s : State) (addr : Byte) (m : ModIx) (payload : List Byte) (st : List SlotStatus), s.awaits (modUnit m) .probe addr →
    (s.unit (modUnit m)).cause = some .start → s.directory = [] →
    readProbe (modUnit m) payload = some (.slots st) →
    (∀ (tag : Nat) (n : SlotNo), .tagged tag ∈ st.map (·.seen) → (s.slot n).tag ≠ some tag) →
    (∀ tag : Nat, (st.map (·.seen)).count (.tagged tag) ≤ 1) →
    ∃ t : State, exec (.probeReply addr payload) s = .next t
      ∧ (t.unit (modUnit m)).state = .online ∧ (t.unit (modUnit m)).cause = none ∧ (t.unit (modUnit m)).misses = 0
      ∧ t.mode.startOnline = s.mode.startOnline + 1
      ∧ (∀ (p : Fin 16) (x : SlotStatus), st[p.val]? = some x →
          ((t.slot (slotAt m p)).occ, (t.slot (slotAt m p)).tag) = match x.seen with
            | .empty => (.empty, none)
            | .unread => (.heldNoTag, none)
            | .tagged k => (.held, some k))
      ∧ ∀ n : SlotNo, moduleOf n ≠ m → ((t.slot n).occ, (t.slot n).tag) = ((s.slot n).occ, (s.slot n).tag)

/-- R18, R19, R20, R29, R35, R42, R108, R110: a STATUS reply, or a PROBE reply that is reconciled, that agrees with the records, an
UNKNOWN one counting as its last-seen tag or as EMPTY and an unread tag agreeing with a HELD one. It restores the UNKNOWN slots;
a STATUS reply clears resync, a PROBE reply brings the module ONLINE (START mark: log 14). It changes no other table, and a STATUS
reply no alert and no report; it adds a stray close for each latch reported OPEN that no channel and no LATCH command concerns.
The chute unit's STATUS reply, hatch OPEN or CLOSED, brings its record up to date. -/
def Obligations.AStatusReplyThatAgreesRestores : Prop :=
  ∀ (s : State) (addr : Byte) (payload : List Byte) (i : Instr),
    (∀ (m : ModIx) (st : List SlotStatus) (base : State), s.reads i m st base → s.granted → s.agrees m st (fun _ => false) →
      s.tagsApart →
      ∃ t : State, exec i s = .next t ∧ t.tables = (base.restored m fun _ => false).tables
        ∧ (i = .statusReply addr payload → t.link = s.link ∧ t.alerts = s.alerts ∧ t.kiosk = s.kiosk)
        ∧ ∀ (p : Fin 16) (x : SlotStatus), st[p.val]? = some x → x.latchOpen = true → (s.slot (slotAt m p)).channel = none →
            (∀ l ∈ s.bus.latches, l.slot ≠ slotAt m p) → t.latchAsked (slotAt m p) .closeIt none)
      ∧ ∀ flap hatch : Byte, s.awaits chuteIx .status addr → payload = [flap, hatch] → flap = 0 ∨ flap = 1 →
          hatch = 0 ∨ hatch = 1 →
          Makes s (.statusReply addr payload)
            ((s.withUnit chuteIx fun r => { r with misses := 0, resync := false }).chuteSeen flap hatch)

/-- R18, R19, R20, R16, R35: a STATUS reply, or a PROBE reply that is reconciled, that differs from the records at one position of a
slot without a channel: a removal (forced, noted in a session, or a late take without the latch condition), an insertion of a
tag that is nowhere, of one held live elsewhere or of an unread one, a tag learned (R13), and one key in another's stead; and at
two positions, a move. The other UNKNOWN slots are restored. That KEY_REMOVED_FORCED carries no removal time of its own is log
17, the START mark log 14. -/
def Obligations.AStatusReplyThatDiffersIsReconciled : Prop :=
  ∀ (s : State) (i : Instr) (m : ModIx) (st : List SlotStatus) (base : State) (p : Fin 16) (x : SlotStatus),
    s.reads i m st base → s.granted → s.tagsApart →
    st[p.val]? = some x → (s.slot (slotAt m p)).channel = none → (s.slot (slotAt m p)).chatter < 5 →
    let n := slotAt m p
    let late : Nat → Prop := fun k =>
      ∃ (b : Nat) (y : Booking), (s.slot n).lastRelease = some b ∧ s.booking? b = some y ∧ y.state = .loaded ∧ y.key = k
    (s.agrees m st (fun q => q == p) →
      let makes : State → Prop := fun u => Makes s i (u.restored m fun q => q == p)
      (∀ k : Nat, (s.slot n).countedAs = .held k →
        let gone : ReportBody := .keyRemovedForced n ((s.entry? k).map (·.tag)) ((s.entry? k).map (·.unit)) none false
        (x.seen = .empty → ¬ late k →
          makes ((base.emptied n).removedFrom n (some k))
            ∧ ∃ t : State, exec i s = .next t
              ∧ (s.session.remaining = none → s.linkBusy →
                ((∃ (addr : Byte) (payload : List Byte), i = .statusReply addr payload) → t.lastReport = some gone)
                  ∧ (s.link.reports.length ≤ 20 → gone ∈ t.link.reports.map (·.body))))
        ∧ (∀ (b : Booking) (now : Nat), x.seen = .empty → (s.slot n).lastRelease = some b.number →
            s.booking? b.number = some b → b.state = .loaded → b.key = k → s.release.queue = [] → s.time = some now →
          makes ((base.emptied n).takenLate b now))
        ∧ ∀ k' : Nat, x.seen = .tagged k' → k' ≠ k → s.nowhere k' → ¬ late k →
          makes ((((base.emptied n).removedFrom n (some k)).filled n .held (some k')).cameBack k' n))
      ∧ ((s.slot n).countedAs = .noTag → (s.slot n).tag = none → x.seen = .empty → makes ((base.emptied n).removedFrom n none))
      ∧ ((s.slot n).countedAs = .noTag → ∀ k : Nat, x.seen = .tagged k → s.nowhere k →
          makes ((base.withSlot n fun r => { r with occ := .held, tag := some k }).cameBack k n))
      ∧ ((s.slot n).countedAs = .empty →
          (x.seen = .unread → makes (base.filled n .heldNoTag none))
          ∧ (∀ k : Nat, x.seen = .tagged k → s.nowhere k → makes ((base.filled n .held (some k)).cameBack k n))
          ∧ ∀ (k : Nat) (n' : SlotNo), x.seen = .tagged k → n' ≠ n → (s.slot n').occ = .held → (s.slot n').tag = some k →
              s.slotOnline n' = true → makes ((base.filled n .heldNoTag none).withMissing k false)))
      ∧ ∀ (q : Fin 16) (y : SlotStatus) (k : Nat), q ≠ p → st[q.val]? = some y →
          s.agrees m st (fun r => r == p || r == q) → (s.slot n).countedAs = .held k → x.seen = .empty →
          (s.slot (slotAt m q)).countedAs = .empty → y.seen = .tagged k → (s.slot (slotAt m q)).channel = none →
          (s.slot (slotAt m q)).chatter < 5 → (∀ e ∈ s.bin.entries, e.tag ≠ some k) →
          Makes s i
            ((((base.emptied n).filled (slotAt m q) .held (some k)).cameBack k (slotAt m q)).restored m fun r => r == p || r == q)

/-- R12, R72, R102, R106, R51 of a POLL reply with one insertion of a read tag at an EMPTY slot: the slot is HELD with it, and the
OUT booking of the key is RETURNED there with its lateness; a seventh change in the window also quarantines the slot, where that
is not the module's sixteenth. The tag is nowhere in the cabinet before. -/
def Obligations.AnInsertionReturnsTheKey : Prop :=
  ∀ (s : State) (addr : Byte) (m : ModIx) (payload : List Byte) (p : Fin 16) (k : Nat) (latch overflow : Bool) (b : Booking),
    s.awaits (modUnit m) .poll addr →
    readPoll readModuleEntry payload = some { overflow, entries := [{ pos := p, change := .inserted k, latchOpen := latch }] } →
    let n := slotAt m p
    (s.slot n).occ = .empty → (s.slot n).channel = none → (s.slot n).chatter < 6 ∨ (s.unit (modUnit m)).quarantined < 15 →
    s.nowhere k → s.outBooking k = some b → s.granted →
    Makes s (.pollReply addr payload)
      (State.chatterJudged
        { (((s.withUnit (modUnit m) fun r => { r with misses := 0, resync := r.resync || overflow }).withSlot n fun r =>
              { r with occ := .held, tag := some k, since := s.time, lastRelease := none }.changed s.time).withBooking b.number fun x =>
            { x with
              state := .returned
              returned := some { time := s.time, place := .slot n }
              lateness := s.time.map fun t => min ((t - x.due + 59) / 60) 65535 }).withMissing k false with
          dueList := s.dueList.filter fun e => e.booking != b.number
          session := { s.session with
            removals :=
              if s.session.remaining.isSome then s.session.removals.filter fun r => r.tag != some k
              else s.session.removals } } n)

/-- R15 to R17, R90, R173, R51 of a POLL reply with one removal from a HELD slot without a channel. With the latch open, after a
release that the slot's last release names, it is a late take; every other is forced, so that its key is missing, or goes to the
Service Removal List in a session. A seventh change in the window also quarantines the slot with SENSOR_CHATTER, reports and
raises SLOT_FAULT and aborts the slot's queue entry, where that is not the module's sixteenth. That KEY_REMOVED_FORCED carries no
removal time of its own is log 17. -/
def Obligations.ARemovalIsForcedNotedOrLate : Prop :=
  ∀ (s : State) (addr : Byte) (m : ModIx) (payload : List Byte) (p : Fin 16) (k : Nat) (latch overflow : Bool),
    s.awaits (modUnit m) .poll addr →
    readPoll readModuleEntry payload = some { overflow, entries := [{ pos := p, change := .removed, latchOpen := latch }] } →
    let n := slotAt m p
    (s.slot n).occ = .held → (s.slot n).tag = some k → (s.slot n).channel = none →
    (s.slot n).chatter < 6 ∨ (s.unit (modUnit m)).quarantined < 15 → s.granted →
    let emptied : State := (s.withUnit (modUnit m) fun r => { r with misses := 0, resync := r.resync || overflow }).emptied n
    let late : Prop :=
      ∃ (b : Nat) (y : Booking), (s.slot n).lastRelease = some b ∧ s.booking? b = some y ∧ y.state = .loaded ∧ y.key = k
    (latch = false ∨ ¬ late →
      let gone : ReportBody := .keyRemovedForced n ((s.entry? k).map (·.tag)) ((s.entry? k).map (·.unit)) none false
      ∃ t : State, exec (.pollReply addr payload) s = .next t
        ∧ t.tables = ((emptied.removedFrom n (some k)).chatterJudged n).tables
        ∧ (s.session.remaining = none → s.linkBusy →
          ((s.slot n).chatter < 6 → t.lastReport = some gone)
            ∧ (s.link.reports.length ≤ 20 → gone ∈ t.link.reports.map (·.body)))
        ∧ (emptied.chattered n = true →
          (s.linkBusy → s.link.reports.length ≤ 20 →
            .slotFault
              { slot := n, booking := none, kind := .sensorChatter, service := .quarantined, slow := (s.slot n).slow, latch := none }
                ∈ t.link.reports.map (·.body)
            ∧ ∀ e : QueueEntry, s.release.queue.find? (fun e => e.slot == n) = some e →
              .releaseAborted { booking := e.booking, slot := n, key := (s.booking? e.booking).map (·.key) } (some e.source) .queued
                .quarantine ∈ t.link.reports.map (·.body))
          ∧ ((s.policyOf .slotFault).enabled = true → (s.slot n).alert.acked ≠ some .slotFault →
              (t.slot n).alert.cls = some .slotFault)))
      ∧ ∀ (b now : Nat) (x : Booking), latch = true → (s.slot n).lastRelease = some b → s.booking? b = some x →
          x.state = .loaded → x.key = k → s.release.queue = [] → s.time = some now →
          Makes s (.pollReply addr payload) ((emptied.takenLate x now).chatterJudged n)

/-- R86, R88, R89, R71, R121 of a POLL reply with one removal from a slot with a channel, which is not counted (R50). OPEN: a take.
The channel is CLOSING with reason TAKEN, the booking OUT with its stage and place in the Due List, LATCH CLOSE is asked for, and
a kiosk is told TAKEN (R98). OPENING with the latch open: the same, the CLOSE in the place of the waiting OPEN (its age: log 20).
OPENING with it closed: the OPEN is withdrawn, the channel FREE, the booking LOADED with no last release set, RELEASE_ABORTED with
KEY_GONE and the notice ABORTED; the removal is no late take. CLOSING: as from a slot with no channel, which stays CLOSING. -/
def Obligations.ARemovalFromAChannelsSlotGoesByItsPhase : Prop :=
  ∀ (s : State) (addr : Byte) (m : ModIx) (payload : List Byte) (p : Fin 16) (latch overflow : Bool) (c : ChanNo)
    (b now : Nat) (x : Booking),
    s.awaits (modUnit m) .poll addr →
    readPoll readModuleEntry payload = some { overflow, entries := [{ pos := p, change := .removed, latchOpen := latch }] } →
    let n := slotAt m p
    (s.slot n).occ = .held → (s.slot n).channel = some c → s.granted →
    let st := x.stageAt now
    let others := s.dueList.filter fun e => e.booking != b
    let emptied : State :=
      (s.withUnit (modUnit m) fun r => { r with misses := 0, resync := r.resync || overflow }).emptiedUncounted n
    let source := x.source
    let info : RelInfo := { booking := b, slot := n, key := some x.key }
    let isTake : State → Prop := fun t =>
      t.tables =
          { (emptied.withBooking b fun y => { y with state := .out, taken := some now, stage := some st }).withChan c
              (.closing n b .taken) with
            dueList := match x.nextDeadline st with
              | some e => insertBy DueEntry.before { deadline := e, booking := b } others
              | none => others }.tables
        ∧ t.latchAsked n .closeIt (some c)
        ∧ (s.linkBusy → t.lastReport = some (.releaseTaken info c source (some now)))
        ∧ s.tells t source b .taken
    (∀ d : Nat, s.chan c = .opened n b d → s.time = some now → s.booking? b = some x →
        ∃ t : State, exec (.pollReply addr payload) s = .next t ∧ isTake t)
      ∧ (s.chan c = .opening n b → latch = true → s.time = some now → s.booking? b = some x →
          ∃ t : State, exec (.pollReply addr payload) s = .next t ∧ isTake t
            ∧ ∀ l ∈ s.bus.latches, l.channel = some c → l.dir = .openIt →
              (∀ y ∈ t.bus.latches, y.channel = some c → y.dir ≠ .openIt)
                ∧ ∃ y : LatchCmd, y.slot = n ∧ y.dir = .closeIt ∧ y.channel = some c ∧ y.age = l.age ∧ y.tries = 0
                  ∧ (y ∈ t.bus.latches ∨ ∃ f : Flight, t.bus.flight = some f ∧ f.cmd = .latch y))
      ∧ (s.chan c = .opening n b → latch = false → s.booking? b = some x → s.release.queue = [] →
            (s.slot n).service ≠ .quarantinePending →
          ∃ t : State, exec (.pollReply addr payload) s = .next t
            ∧ t.tables =
              ((((emptied.withChan c .free).withSlot n fun r => { r with channel := none }).withBooking b fun y =>
                { y with state := .loaded }).removedFrom n (s.slot n).tag).tables
            ∧ (∀ y ∈ t.bus.latches, y.channel = some c → y.dir ≠ .openIt)
            ∧ (s.linkBusy → s.link.reports.length ≤ 20 →
              .releaseAborted info source .opening .keyGone ∈ t.link.reports.map (·.body))
            ∧ s.tells t source b .aborted)
      ∧ ∀ (e : Nat) (why : CloseReason), s.chan c = .closing n e why →
          ((∀ (e' : Nat) (y : Booking), latch = true → (s.slot n).lastRelease = some e' → s.booking? e' = some y →
              ¬ (y.state = .loaded ∧ (s.slot n).tag = some y.key)) →
            Makes s (.pollReply addr payload) (emptied.removedFrom n (s.slot n).tag))
          ∧ (latch = true → (s.slot n).lastRelease = some b → s.booking? b = some x → x.state = .loaded →
              (s.slot n).tag = some x.key → s.release.queue = [] → s.time = some now →
              Makes s (.pollReply addr payload) (emptied.takenLate x now))

/-- R100, R104, R105, R110 of a POLL reply of the chute unit with one entry: a drop at a limit is only reported; an unread drop is
recorded; the drop of a key whose booking is OUT closes it; an opened hatch hands every IN_BIN entry over. The count's drop number
is free and the tag is nowhere in the cabinet before. That the report of a drop at a limit has its conflict and foreign flags clear
for every tag is the model's reading (log 28). -/
def Obligations.TheChuteRecordsDropsAndHandsThemOver : Prop :=
  ∀ (s : State) (addr : Byte) (payload : List Byte) (e : ChuteEntry) (overflow : Bool), s.awaits chuteIx .poll addr →
    readPoll readChuteEntry payload = some { overflow, entries := [e] } →
    let base : State := s.withUnit chuteIx fun r => { r with misses := 0, resync := r.resync || overflow }
    let full : Bool := decide (64 ≤ s.bin.entries.length) || decide (48 ≤ s.inBinCount)
    let d := s.bin.nextDrop
    let entry : DropEntry :=
      { number := d, tag := none, foreign := false, state := .inBin, dropped := s.time, handed := none, age := 0
        unslotted := false, booking := none, alert := .clear }
    (full = true → ∀ tag : Option Nat, e = (match tag with
        | some k => .drop k
        | none => .dropUnread) →
      ∃ t : State, exec (.pollReply addr payload) s = .next t ∧ t.tables = base.tables
        ∧ (s.linkBusy → t.lastReport = some (.chuteDrop
          { drop := none, tag, booking := none, unread := tag.isNone, conflict := false, foreign := false, notRecorded := true
            inBin := s.inBinCount, count := s.bin.entries.length })))
      ∧ (full = false → (∀ x ∈ s.bin.entries, x.number ≠ d) →
        (e = .dropUnread →
          Makes s (.pollReply addr payload)
            (State.flapJudged (State.nearFullJudged
              { base with bin := { entries := s.bin.entries ++ [entry], nextDrop := (d + 1) % 65536 } })))
        ∧ ∀ (k : Nat) (b : Booking), e = .drop k → s.nowhere k → s.outBooking k = some b →
          Makes s (.pollReply addr payload)
            (State.flapJudged (State.nearFullJudged
              { (base.withBooking b.number fun x =>
                    { x with
                      state := .returned
                      returned := some { time := s.time, place := .drop d }
                      lateness := s.time.map fun t => min ((t - x.due + 59) / 60) 65535 }).withMissing k false with
                bin :=
                  { entries := s.bin.entries ++
                      [{ entry with tag := some k, foreign := (s.entry? k).isNone, booking := some b.number }]
                    nextDrop := (d + 1) % 65536 }
                dueList := s.dueList.filter fun x => x.booking != b.number
                session := { s.session with
                  removals :=
                    if s.session.remaining.isSome then s.session.removals.filter fun r => r.tag != some k
                    else s.session.removals } })))
      ∧ (e = .hatchOpened → s.chute.hatchOpen = false →
        Makes s (.pollReply addr payload)
          (State.flapJudged (State.nearFullJudged
            { base with
              chute := { s.chute with hatchOpen := true }
              bin := { s.bin with
                entries := s.bin.entries.map fun x =>
                  if x.state = .inBin then { x with state := .inHand, handed := s.time, age := 0 } else x } })))

/-- R84, R45 to R49, R91, R92, R29, R98: a LATCH OPEN reply for an OPENING channel that is good, slow or a fault, with the notice
OPEN or ABORTED of a kiosk release; a LATCH CLOSE reply, which frees the channel, takes a QUARANTINE_PENDING slot out of service
where it is good, and any slot where it is a fault, which is reported and raised; an OPEN reply for a CLOSING channel, which tells
the kiosk nothing and frees the channel where it is a fault, its CLOSE withdrawn; and a reply for a stray close. -/
def Obligations.LatchRepliesMoveTheChannel : Prop :=
  ∀ (s : State) (addr : Byte) (payload : List Byte) (l : LatchCmd) (r : LatchReply),
    let n := l.slot
    let u := modUnit (moduleOf n)
    let kindOf : LatchReply → FaultKind := fun r => match r.coil with
      | .openCoil => .coilOpen
      | .shortCoil => .coilShort
      | .normal => .latchJammed
    let faultOf : LatchReply → FaultSet → FaultSet := fun r f =>
      { f with
        coilOpen := f.coilOpen || r.coil == .openCoil, coilShort := f.coilShort || r.coil == .shortCoil
        latchJammed := f.latchJammed || r.coil == .normal }
    s.awaits u (.latch l) addr → readLatch payload = some r →
    (∀ (c : ChanNo) (b now : Nat), l.dir = .openIt → l.channel = some c → s.chan c = .opening n b → s.time = some now →
      let deadline := min (now + s.params.window) 4294967295
      let opened : State := (s.replied u).withChan c (.opened n b deadline)
      (r.coil = .normal → r.travel ≠ 255 → r.travel ≤ s.params.slowLatch →
        ∃ t : State, exec (.latchOpenReply addr payload) s = .next t ∧ t.tables = opened.tables
          ∧ (s.linkBusy → t.lastReport = some (.releaseGranted
              { booking := b, slot := n, key := (s.booking? b).map (·.key) } c ((s.booking? b).bind (·.source)) deadline r.travel))
          ∧ s.tells t ((s.booking? b).bind (·.source)) b (.opened n))
      ∧ (r.coil = .normal → r.travel ≠ 255 → s.params.slowLatch < r.travel →
        ∃ t : State, exec (.latchOpenReply addr payload) s = .next t
          ∧ t.tables =
            (opened.withSlot n fun x =>
              { x with
                slow := min (x.slow + 1) 3
                service := if 2 ≤ x.slow ∧ x.service = .inService then .quarantinePending else x.service }).tables
          ∧ s.tells t ((s.booking? b).bind (·.source)) b (.opened n))
      ∧ (r.coil ≠ .normal ∨ r.travel = 255 → s.release.queue = [] → (s.slot n).service = .inService →
          (s.unit u).quarantined < 15 →
        ∃ t : State, exec (.latchOpenReply addr payload) s = .next t
          ∧ t.tables =
          ((((s.withChan c .free).withSlot n fun x =>
              { x with
                channel := none, service := .quarantined, lastRelease := some b
                faults := { x.faults with
                  coilOpen := x.faults.coilOpen || r.coil == .openCoil
                  coilShort := x.faults.coilShort || r.coil == .shortCoil
                  latchJammed := x.faults.latchJammed || r.coil == .normal } }).withBooking b fun k =>
            { k with state := .loaded }).withUnit u fun x => { x with misses := 0, quarantined := x.quarantined + 1 }).tables
          ∧ s.tells t ((s.booking? b).bind (·.source)) b .aborted))
      ∧ (∀ (c : ChanNo) (b : Nat) (why : CloseReason), l.dir = .closeIt → l.channel = some c → s.chan c = .closing n b why →
          r.coil = .normal → r.travel ≠ 255 → s.release.queue = [] → (s.unit u).quarantined < 15 →
        let pending : Bool := (s.slot n).service == .quarantinePending
        Makes s (.latchCloseReply addr payload)
          (((s.withChan c .free).withSlot n fun x =>
              { x with channel := none, service := if pending then .quarantined else x.service }).withUnit u fun x =>
            { x with misses := 0, quarantined := if pending then x.quarantined + 1 else x.quarantined }))
      ∧ (∀ (c : ChanNo) (b : Nat) (why : CloseReason), l.dir = .closeIt → l.channel = some c → s.chan c = .closing n b why →
          r.coil ≠ .normal ∨ r.travel = 255 → s.release.queue = [] → (s.unit u).quarantined < 15 →
        ∃ t : State, exec (.latchCloseReply addr payload) s = .next t
          ∧ t.tables =
            ((((s.replied u).withChan c .free).withSlot n fun x => { x with channel := none }).outOfService n (faultOf r)).tables
          ∧ (s.linkBusy → s.link.reports.length ≤ 20 →
            .slotFault
              { slot := n, booking := some b, kind := kindOf r, service := .quarantined, slow := (s.slot n).slow
                latch := some (r.travel, .closeIt) } ∈ t.link.reports.map (·.body))
          ∧ ((s.policyOf .slotFault).enabled = true → (s.slot n).alert.acked ≠ some .slotFault →
              (t.slot n).alert.cls = some .slotFault))
      ∧ (∀ (c : ChanNo) (b : Nat) (why : CloseReason), l.dir = .openIt → l.channel = some c → s.chan c = .closing n b why →
        (r.coil = .normal → r.travel ≠ 255 →
          ∃ t : State, exec (.latchOpenReply addr payload) s = .next t ∧ t.kiosk = s.kiosk
            ∧ t.tables =
              ((s.replied u).withSlot n fun x =>
                if r.travel ≤ s.params.slowLatch then x
                else
                  { x with
                    slow := min (x.slow + 1) 3
                    service := if 2 ≤ x.slow ∧ x.service = .inService then .quarantinePending else x.service }).tables
            ∧ (r.travel ≤ s.params.slowLatch → t.link = s.link))
        ∧ (r.coil ≠ .normal ∨ r.travel = 255 → s.release.queue = [] → (s.unit u).quarantined < 15 →
          ∃ t : State, exec (.latchOpenReply addr payload) s = .next t ∧ t.kiosk = s.kiosk
            ∧ t.tables =
              ((((s.replied u).withChan c .free).withSlot n fun x => { x with channel := none }).outOfService n (faultOf r)).tables
            ∧ ∀ y ∈ t.bus.latches, y.channel = some c → y.dir ≠ .closeIt))
      ∧ (l.dir = .closeIt → l.channel = none → Makes s (.latchCloseReply addr payload) (s.replied u))

/-- R26, R42, R108, R23: a LAMPS reply only ends its command; a FLAP reply sets flap confirmed, and the refused mark where an
UNLOCK was answered LOCKED; the last byte of a command releases SBDE and starts the reply deadline. -/
def Obligations.LampsFlapAndTheLastByte : Prop :=
  ∀ (s : State) (addr : Byte),
    (∀ (u : UnitIx) (ps : List Lamp), s.awaits u (.lamps ps) addr →
      Gives s (.lampsReply addr []) { s.replied u with bus := { s.bus with flight := none } })
      ∧ (∀ (want : FlapPos) (flap : Byte), s.awaits chuteIx (.flap want) addr → flap = 0 ∨ flap = 1 →
        let refused := flap == 0 && (s.chute.refused || want == .unlocked)
        Makes s (.flapReply addr [flap])
          (State.condTo
            { s.replied chuteIx with
              chute := { s.chute with confirmed := if flap = 0 then .locked else .unlocked, refused } }
            .chuteLocked (s.chute.wanted == .locked || refused)))
      ∧ ∀ (clock : Nat) (f : Flight), s.power.stopped = false → s.bus.flight = some f →
        (f.phase = .transmitting →
          s.sbde = true
            ∧ ∃ t : State, exec (.commandLastByteSent clock) s = .next t ∧ t.sbde = false
              ∧ t = { s with bus := { s.bus with flight := some { f with phase := .awaiting clock } } })
        ∧ (f.phase ≠ .transmitting → s.sbde = false ∧ exec (.commandLastByteSent clock) s = .next s)

/-! ### Judgements -/

/-- R119: the three stage deadlines and the stage at a time. R45: the class of a latch reply. R55: the lamp pattern of a slot. -/
def Obligations.StagesLatchClassesAndLamps : Prop :=
  (∀ (b : Booking) (t : Nat),
    let top := 4294967295
    let overdue := min (b.due + 60 * b.grace) top
    let escalation := min (overdue + 60 * b.escalation) top
    b.overdueAt = overdue ∧ b.escalationAt = (if b.escalation = 0 then none else some escalation)
      ∧ b.stageAt t =
        (if b.escalation ≠ 0 ∧ escalation ≤ t then .escalated
        else if overdue ≤ t then .overdue
        else if b.due ≤ t then .due
        else .onTime))
    ∧ (∀ (limit travel : Nat) (dir : LatchDir),
      latchClass limit dir { coil := .openCoil, travel } = .fault .coilOpen
        ∧ latchClass limit dir { coil := .shortCoil, travel } = .fault .coilShort
        ∧ latchClass limit dir { coil := .normal, travel := 255 } = .fault .latchJammed
        ∧ (travel ≤ 254 → latchClass limit .closeIt { coil := .normal, travel } = .good
          ∧ latchClass limit .openIt { coil := .normal, travel } = if travel ≤ limit then .good else .slow))
    ∧ ∀ (s : State) (n : SlotNo),
      let r := s.slot n
      let guiding : Bool := match r.channel.map s.chan with
        | some (.opening _ _) => true
        | some (.opened _ _ _) => true
        | _ => false
      s.lampOf n =
        (if r.service = .quarantined then .fast
        else if guiding then .steady
        else if r.alert.cls = some .foreignKey ∨ r.alert.cls = some .duplicateTag ∨ s.misplaced n = true then .slow
        else .off)

/-! ### Frames of requests that touch no alert -/

/-- Named requests, while the link is not STANDALONE, leave the Alert List, every alert field, the reports, the counts and the
Kiosk Port as they are, and add no LATCH command; a new record's alert fields are clear. -/
def Obligations.QuietRequestsTouchNoAlertOrReport : Prop :=
  ∀ (s : State) (tag kind : Byte) (body : List Byte) (i : Instr), s.hears → s.link.state ≠ .standalone →
    i ∈ [.keyLoad tag body, .bookingLoad tag body, .policySet tag body, .alertMask tag body, .alertUnmask tag body,
      .moduleRevive tag body, .restart tag body, .statusQuery tag body, .statusQueryUnits tag body, .slotQuery tag body,
      .bookingQuery tag body, .bookingQueryList tag body, .keyQuery tag body, .alertQuery tag body,
      .alertQuerySubject tag body, .heartbeat tag body, .unknownKind kind tag body] →
    ∃ t : State, exec i s = .next t ∧ t.alerts.list = s.alerts.list ∧ t.link.reports = s.link.reports
      ∧ t.link.counts = s.link.counts ∧ t.kiosk = s.kiosk ∧ (∀ l ∈ t.bus.latches, l ∈ s.bus.latches)
      ∧ ∀ (x : Subject) (f : AlertFields), t.alertOf x = some f →
          s.alertOf x = some f ∨ (s.alertOf x = none ∧ f = { cls := none, waiting := false, acked := none, raised := none })

/-! ### Encodings -/

/-- R177, R145, R181: a well-formed frame command, laid out in bytes, is read back as itself, on either port; so is a Slot Bus
reply. That a LATCH reply is read by the direction its command had is the model's reading (log 23). -/
def Obligations.FramesAreReadBackAsTheCommandsTheyCarry : Prop :=
  (∀ (i : Instr) (port : Port) (kind tag : Byte) (body : List Byte), i.wf = true → i.frame = some (port, kind, tag, body) →
    readFrame port (linkEnvelope kind tag body) = some i)
    ∧ ∀ (addr : Byte) (payload : List Byte), payload.length ≤ 119 →
      readBusFrame false (busEnvelope addr 0x81 payload) = some (.probeReply addr payload)
        ∧ readBusFrame false (busEnvelope addr 0x82 payload) = some (.pollReply addr payload)
        ∧ readBusFrame false (busEnvelope addr 0x83 payload) = some (.statusReply addr payload)
        ∧ readBusFrame false (busEnvelope addr 0x84 payload) = some (.latchOpenReply addr payload)
        ∧ readBusFrame true (busEnvelope addr 0x84 payload) = some (.latchCloseReply addr payload)
        ∧ readBusFrame false (busEnvelope addr 0x85 payload) = some (.lampsReply addr payload)
        ∧ readBusFrame false (busEnvelope addr 0x86 payload) = some (.flapReply addr payload)

/-- R178, R179, R181: request bodies and Slot Bus payloads, laid out in bytes at values their fields can carry, are read back as
themselves. -/
def Obligations.BodiesAndPayloadsAreReadBack : Prop :=
  (∀ (tag unit : Nat) (home : Option Nat), tag < 4294967296 → unit < 65536 → (∀ h, home = some h → h < 65536) →
    readKeyLoad (KeyLoadReq.bytes { tag, unit, home }) = some { tag, unit, home })
    ∧ (∀ r : BookingLoadReq, r.number < 4294967296 → r.kind < 256 → r.key < 4294967296 → r.due < 4294967296 → r.grace < 256 →
      r.escalation < 65536 → (∀ c, r.code = some c → c < 16777216) →
      (∀ a b, r.window = some (a, b) → a < 4294967296 ∧ b < 4294967296) → readBookingLoad r.bytes = some r)
    ∧ (∀ r : BookingAmendReq, r.number < 4294967296 → (∀ d, r.due = some d → d < 4294967296) → (∀ g, r.grace = some g → g < 256) →
      (∀ e, r.escalation = some e → e < 65536) → (∀ c, r.code = some (some c) → c < 16777216) →
      (∀ a b, r.window = some (some (a, b)) → a < 4294967296 ∧ b < 4294967296) → readBookingAmend r.bytes = some r)
    ∧ (∀ r : PolicySetReq, r.cls < 256 → r.priority < 256 → r.lines < 256 → r.enabled < 256 → readPolicySet r.bytes = some r)
    ∧ (∀ (j k : Nat) (r : PairReq), r.first < 256 ^ j → r.second < 256 ^ k → readPair j k (r.bytes j k) = some r)
    ∧ (∀ k n : Nat, n < 256 ^ k → readOne k (beBytes k n) = some n)
    ∧ (∀ n : Nat, n < 4294967296 →
      readBookingQuery (BookingQueryReq.single n).bytes = some (.single n)
        ∧ readBookingQuery (BookingQueryReq.list n).bytes = some (.list n))
    ∧ (∀ k n : Nat, k < 256 → n < 4294967296 → readAlertQuery (AlertQueryReq.subject k n).bytes = some (.subject k n))
    ∧ (∀ (m : ModIx) (st : List SlotStatus), st.length = 16 → (∀ x ∈ st, ∀ t, x.seen = .tagged t → 0 < t ∧ t < 4294967296) →
      readProbe (modUnit m) (UnitStatus.slots st).probeBytes = some (.slots st)
        ∧ readStatus (modUnit m) (UnitStatus.slots st).bytes = some (.slots st))
    ∧ (∀ p : Poll ModuleEntry, p.entries.length ≤ 16 →
      (∀ e ∈ p.entries, ∀ t, e.change = .inserted t → 0 < t ∧ t < 4294967296) →
      readPoll readModuleEntry (p.bytes ModuleEntry.bytes) = some p)
    ∧ (∀ p : Poll ChuteEntry, p.entries.length ≤ 16 → (∀ e ∈ p.entries, ∀ t, e = .drop t → 0 < t ∧ t < 4294967296) →
      readPoll readChuteEntry (p.bytes ChuteEntry.bytes) = some p)
    ∧ ∀ r : LatchReply, r.travel < 256 → readLatch r.bytes = some r

/-! ### Invariants every step keeps -/

/-- R1, R59, R79, R99, R134, R150, R152, R157, R162, R115: every step keeps the capacities of the tables and queues, the ranges of
the settings, and the range of cabinet time. -/
def Obligations.EveryStepKeepsCapacitiesAndRanges : Prop :=
  ∀ s s' : State,
    s.portsBounded → s.alertListBounded → s.tablesBounded → s.settingsInRange → s.timeInRange → step s = .next s' →
    s'.portsBounded ∧ s'.alertListBounded ∧ s'.tablesBounded ∧ s'.settingsInRange ∧ s'.timeInRange

/-- R1, R59: every step keeps the Directory in ascending tag and the Booking Table in ascending number, no two alike. -/
def Obligations.EveryStepKeepsTheTablesInOrder : Prop :=
  ∀ s s' : State, s.tablesOrdered → step s = .next s' → s'.tablesOrdered

/-- R139: every step keeps the three lines driven as the mask, the Alert List and the Policy Table have them. -/
def Obligations.EveryStepKeepsTheLinesRight : Prop := ∀ s s' : State, s.linesRight → step s = .next s' → s'.linesRight

/-- R40, R82, R94: every step keeps HOLD quiet: no transaction in flight, no unit ONLINE, budget 0. -/
def Obligations.EveryStepKeepsHoldQuiet : Prop := ∀ s s' : State, s.holdQuiet → step s = .next s' → s'.holdQuiet
end

