-- ==== Sys2Proof/Laws/State.lean ====
section
/-! SUPPORT. One lemma for each field under each update of a block of state: the field set reads as set, every other as
before. -/

namespace Sys2Proof.Machine

/-! ### State.setPending -/

@[simp] theorem State.setPending_pending (s : State) (x : List Instr) : (s.setPending x).pending = x := rfl
@[simp] theorem State.setPending_power (s : State) (x : List Instr) : (s.setPending x).power = s.power := rfl
@[simp] theorem State.setPending_pins (s : State) (x : List Instr) : (s.setPending x).pins = s.pins := rfl
@[simp] theorem State.setPending_mode (s : State) (x : List Instr) : (s.setPending x).mode = s.mode := rfl
@[simp] theorem State.setPending_session (s : State) (x : List Instr) : (s.setPending x).session = s.session := rfl
@[simp] theorem State.setPending_conds (s : State) (x : List Instr) : (s.setPending x).conds = s.conds := rfl
@[simp] theorem State.setPending_params (s : State) (x : List Instr) : (s.setPending x).params = s.params := rfl
@[simp] theorem State.setPending_policy (s : State) (x : List Instr) : (s.setPending x).policy = s.policy := rfl
@[simp] theorem State.setPending_time (s : State) (x : List Instr) : (s.setPending x).time = s.time := rfl
@[simp] theorem State.setPending_dueList (s : State) (x : List Instr) : (s.setPending x).dueList = s.dueList := rfl
@[simp] theorem State.setPending_alerts (s : State) (x : List Instr) : (s.setPending x).alerts = s.alerts := rfl
@[simp] theorem State.setPending_directory (s : State) (x : List Instr) : (s.setPending x).directory = s.directory := rfl
@[simp] theorem State.setPending_bookings (s : State) (x : List Instr) : (s.setPending x).bookings = s.bookings := rfl
@[simp] theorem State.setPending_slots (s : State) (x : List Instr) : (s.setPending x).slots = s.slots := rfl
@[simp] theorem State.setPending_release (s : State) (x : List Instr) : (s.setPending x).release = s.release := rfl
@[simp] theorem State.setPending_units (s : State) (x : List Instr) : (s.setPending x).units = s.units := rfl
@[simp] theorem State.setPending_bus (s : State) (x : List Instr) : (s.setPending x).bus = s.bus := rfl
@[simp] theorem State.setPending_chute (s : State) (x : List Instr) : (s.setPending x).chute = s.chute := rfl
@[simp] theorem State.setPending_bin (s : State) (x : List Instr) : (s.setPending x).bin = s.bin := rfl
@[simp] theorem State.setPending_link (s : State) (x : List Instr) : (s.setPending x).link = s.link := rfl
@[simp] theorem State.setPending_kiosk (s : State) (x : List Instr) : (s.setPending x).kiosk = s.kiosk := rfl

/-! ### State.setPower -/

@[simp] theorem State.setPower_pending (s : State) (x : Power) : (s.setPower x).pending = s.pending := rfl
@[simp] theorem State.setPower_power (s : State) (x : Power) : (s.setPower x).power = x := rfl
@[simp] theorem State.setPower_pins (s : State) (x : Power) : (s.setPower x).pins = s.pins := rfl
@[simp] theorem State.setPower_mode (s : State) (x : Power) : (s.setPower x).mode = s.mode := rfl
@[simp] theorem State.setPower_session (s : State) (x : Power) : (s.setPower x).session = s.session := rfl
@[simp] theorem State.setPower_conds (s : State) (x : Power) : (s.setPower x).conds = s.conds := rfl
@[simp] theorem State.setPower_params (s : State) (x : Power) : (s.setPower x).params = s.params := rfl
@[simp] theorem State.setPower_policy (s : State) (x : Power) : (s.setPower x).policy = s.policy := rfl
@[simp] theorem State.setPower_time (s : State) (x : Power) : (s.setPower x).time = s.time := rfl
@[simp] theorem State.setPower_dueList (s : State) (x : Power) : (s.setPower x).dueList = s.dueList := rfl
@[simp] theorem State.setPower_alerts (s : State) (x : Power) : (s.setPower x).alerts = s.alerts := rfl
@[simp] theorem State.setPower_directory (s : State) (x : Power) : (s.setPower x).directory = s.directory := rfl
@[simp] theorem State.setPower_bookings (s : State) (x : Power) : (s.setPower x).bookings = s.bookings := rfl
@[simp] theorem State.setPower_slots (s : State) (x : Power) : (s.setPower x).slots = s.slots := rfl
@[simp] theorem State.setPower_release (s : State) (x : Power) : (s.setPower x).release = s.release := rfl
@[simp] theorem State.setPower_units (s : State) (x : Power) : (s.setPower x).units = s.units := rfl
@[simp] theorem State.setPower_bus (s : State) (x : Power) : (s.setPower x).bus = s.bus := rfl
@[simp] theorem State.setPower_chute (s : State) (x : Power) : (s.setPower x).chute = s.chute := rfl
@[simp] theorem State.setPower_bin (s : State) (x : Power) : (s.setPower x).bin = s.bin := rfl
@[simp] theorem State.setPower_link (s : State) (x : Power) : (s.setPower x).link = s.link := rfl
@[simp] theorem State.setPower_kiosk (s : State) (x : Power) : (s.setPower x).kiosk = s.kiosk := rfl

/-! ### State.setPins -/

@[simp] theorem State.setPins_pending (s : State) (x : Pins) : (s.setPins x).pending = s.pending := rfl
@[simp] theorem State.setPins_power (s : State) (x : Pins) : (s.setPins x).power = s.power := rfl
@[simp] theorem State.setPins_pins (s : State) (x : Pins) : (s.setPins x).pins = x := rfl
@[simp] theorem State.setPins_mode (s : State) (x : Pins) : (s.setPins x).mode = s.mode := rfl
@[simp] theorem State.setPins_session (s : State) (x : Pins) : (s.setPins x).session = s.session := rfl
@[simp] theorem State.setPins_conds (s : State) (x : Pins) : (s.setPins x).conds = s.conds := rfl
@[simp] theorem State.setPins_params (s : State) (x : Pins) : (s.setPins x).params = s.params := rfl
@[simp] theorem State.setPins_policy (s : State) (x : Pins) : (s.setPins x).policy = s.policy := rfl
@[simp] theorem State.setPins_time (s : State) (x : Pins) : (s.setPins x).time = s.time := rfl
@[simp] theorem State.setPins_dueList (s : State) (x : Pins) : (s.setPins x).dueList = s.dueList := rfl
@[simp] theorem State.setPins_alerts (s : State) (x : Pins) : (s.setPins x).alerts = s.alerts := rfl
@[simp] theorem State.setPins_directory (s : State) (x : Pins) : (s.setPins x).directory = s.directory := rfl
@[simp] theorem State.setPins_bookings (s : State) (x : Pins) : (s.setPins x).bookings = s.bookings := rfl
@[simp] theorem State.setPins_slots (s : State) (x : Pins) : (s.setPins x).slots = s.slots := rfl
@[simp] theorem State.setPins_release (s : State) (x : Pins) : (s.setPins x).release = s.release := rfl
@[simp] theorem State.setPins_units (s : State) (x : Pins) : (s.setPins x).units = s.units := rfl
@[simp] theorem State.setPins_bus (s : State) (x : Pins) : (s.setPins x).bus = s.bus := rfl
@[simp] theorem State.setPins_chute (s : State) (x : Pins) : (s.setPins x).chute = s.chute := rfl
@[simp] theorem State.setPins_bin (s : State) (x : Pins) : (s.setPins x).bin = s.bin := rfl
@[simp] theorem State.setPins_link (s : State) (x : Pins) : (s.setPins x).link = s.link := rfl
@[simp] theorem State.setPins_kiosk (s : State) (x : Pins) : (s.setPins x).kiosk = s.kiosk := rfl

/-! ### State.setMode -/

@[simp] theorem State.setMode_pending (s : State) (x : CabinetMode) : (s.setMode x).pending = s.pending := rfl
@[simp] theorem State.setMode_power (s : State) (x : CabinetMode) : (s.setMode x).power = s.power := rfl
@[simp] theorem State.setMode_pins (s : State) (x : CabinetMode) : (s.setMode x).pins = s.pins := rfl
@[simp] theorem State.setMode_mode (s : State) (x : CabinetMode) : (s.setMode x).mode = x := rfl
@[simp] theorem State.setMode_session (s : State) (x : CabinetMode) : (s.setMode x).session = s.session := rfl
@[simp] theorem State.setMode_conds (s : State) (x : CabinetMode) : (s.setMode x).conds = s.conds := rfl
@[simp] theorem State.setMode_params (s : State) (x : CabinetMode) : (s.setMode x).params = s.params := rfl
@[simp] theorem State.setMode_policy (s : State) (x : CabinetMode) : (s.setMode x).policy = s.policy := rfl
@[simp] theorem State.setMode_time (s : State) (x : CabinetMode) : (s.setMode x).time = s.time := rfl
@[simp] theorem State.setMode_dueList (s : State) (x : CabinetMode) : (s.setMode x).dueList = s.dueList := rfl
@[simp] theorem State.setMode_alerts (s : State) (x : CabinetMode) : (s.setMode x).alerts = s.alerts := rfl
@[simp] theorem State.setMode_directory (s : State) (x : CabinetMode) : (s.setMode x).directory = s.directory := rfl
@[simp] theorem State.setMode_bookings (s : State) (x : CabinetMode) : (s.setMode x).bookings = s.bookings := rfl
@[simp] theorem State.setMode_slots (s : State) (x : CabinetMode) : (s.setMode x).slots = s.slots := rfl
@[simp] theorem State.setMode_release (s : State) (x : CabinetMode) : (s.setMode x).release = s.release := rfl
@[simp] theorem State.setMode_units (s : State) (x : CabinetMode) : (s.setMode x).units = s.units := rfl
@[simp] theorem State.setMode_bus (s : State) (x : CabinetMode) : (s.setMode x).bus = s.bus := rfl
@[simp] theorem State.setMode_chute (s : State) (x : CabinetMode) : (s.setMode x).chute = s.chute := rfl
@[simp] theorem State.setMode_bin (s : State) (x : CabinetMode) : (s.setMode x).bin = s.bin := rfl
@[simp] theorem State.setMode_link (s : State) (x : CabinetMode) : (s.setMode x).link = s.link := rfl
@[simp] theorem State.setMode_kiosk (s : State) (x : CabinetMode) : (s.setMode x).kiosk = s.kiosk := rfl

/-! ### State.setSession -/

@[simp] theorem State.setSession_pending (s : State) (x : Session) : (s.setSession x).pending = s.pending := rfl
@[simp] theorem State.setSession_power (s : State) (x : Session) : (s.setSession x).power = s.power := rfl
@[simp] theorem State.setSession_pins (s : State) (x : Session) : (s.setSession x).pins = s.pins := rfl
@[simp] theorem State.setSession_mode (s : State) (x : Session) : (s.setSession x).mode = s.mode := rfl
@[simp] theorem State.setSession_session (s : State) (x : Session) : (s.setSession x).session = x := rfl
@[simp] theorem State.setSession_conds (s : State) (x : Session) : (s.setSession x).conds = s.conds := rfl
@[simp] theorem State.setSession_params (s : State) (x : Session) : (s.setSession x).params = s.params := rfl
@[simp] theorem State.setSession_policy (s : State) (x : Session) : (s.setSession x).policy = s.policy := rfl
@[simp] theorem State.setSession_time (s : State) (x : Session) : (s.setSession x).time = s.time := rfl
@[simp] theorem State.setSession_dueList (s : State) (x : Session) : (s.setSession x).dueList = s.dueList := rfl
@[simp] theorem State.setSession_alerts (s : State) (x : Session) : (s.setSession x).alerts = s.alerts := rfl
@[simp] theorem State.setSession_directory (s : State) (x : Session) : (s.setSession x).directory = s.directory := rfl
@[simp] theorem State.setSession_bookings (s : State) (x : Session) : (s.setSession x).bookings = s.bookings := rfl
@[simp] theorem State.setSession_slots (s : State) (x : Session) : (s.setSession x).slots = s.slots := rfl
@[simp] theorem State.setSession_release (s : State) (x : Session) : (s.setSession x).release = s.release := rfl
@[simp] theorem State.setSession_units (s : State) (x : Session) : (s.setSession x).units = s.units := rfl
@[simp] theorem State.setSession_bus (s : State) (x : Session) : (s.setSession x).bus = s.bus := rfl
@[simp] theorem State.setSession_chute (s : State) (x : Session) : (s.setSession x).chute = s.chute := rfl
@[simp] theorem State.setSession_bin (s : State) (x : Session) : (s.setSession x).bin = s.bin := rfl
@[simp] theorem State.setSession_link (s : State) (x : Session) : (s.setSession x).link = s.link := rfl
@[simp] theorem State.setSession_kiosk (s : State) (x : Session) : (s.setSession x).kiosk = s.kiosk := rfl

/-! ### State.setConds -/

@[simp] theorem State.setConds_pending (s : State) (x : Vector CondRec 6) : (s.setConds x).pending = s.pending := rfl
@[simp] theorem State.setConds_power (s : State) (x : Vector CondRec 6) : (s.setConds x).power = s.power := rfl
@[simp] theorem State.setConds_pins (s : State) (x : Vector CondRec 6) : (s.setConds x).pins = s.pins := rfl
@[simp] theorem State.setConds_mode (s : State) (x : Vector CondRec 6) : (s.setConds x).mode = s.mode := rfl
@[simp] theorem State.setConds_session (s : State) (x : Vector CondRec 6) : (s.setConds x).session = s.session := rfl
@[simp] theorem State.setConds_conds (s : State) (x : Vector CondRec 6) : (s.setConds x).conds = x := rfl
@[simp] theorem State.setConds_params (s : State) (x : Vector CondRec 6) : (s.setConds x).params = s.params := rfl
@[simp] theorem State.setConds_policy (s : State) (x : Vector CondRec 6) : (s.setConds x).policy = s.policy := rfl
@[simp] theorem State.setConds_time (s : State) (x : Vector CondRec 6) : (s.setConds x).time = s.time := rfl
@[simp] theorem State.setConds_dueList (s : State) (x : Vector CondRec 6) : (s.setConds x).dueList = s.dueList := rfl
@[simp] theorem State.setConds_alerts (s : State) (x : Vector CondRec 6) : (s.setConds x).alerts = s.alerts := rfl
@[simp] theorem State.setConds_directory (s : State) (x : Vector CondRec 6) : (s.setConds x).directory = s.directory := rfl
@[simp] theorem State.setConds_bookings (s : State) (x : Vector CondRec 6) : (s.setConds x).bookings = s.bookings := rfl
@[simp] theorem State.setConds_slots (s : State) (x : Vector CondRec 6) : (s.setConds x).slots = s.slots := rfl
@[simp] theorem State.setConds_release (s : State) (x : Vector CondRec 6) : (s.setConds x).release = s.release := rfl
@[simp] theorem State.setConds_units (s : State) (x : Vector CondRec 6) : (s.setConds x).units = s.units := rfl
@[simp] theorem State.setConds_bus (s : State) (x : Vector CondRec 6) : (s.setConds x).bus = s.bus := rfl
@[simp] theorem State.setConds_chute (s : State) (x : Vector CondRec 6) : (s.setConds x).chute = s.chute := rfl
@[simp] theorem State.setConds_bin (s : State) (x : Vector CondRec 6) : (s.setConds x).bin = s.bin := rfl
@[simp] theorem State.setConds_link (s : State) (x : Vector CondRec 6) : (s.setConds x).link = s.link := rfl
@[simp] theorem State.setConds_kiosk (s : State) (x : Vector CondRec 6) : (s.setConds x).kiosk = s.kiosk := rfl

/-! ### State.setParams -/

@[simp] theorem State.setParams_pending (s : State) (x : Params) : (s.setParams x).pending = s.pending := rfl
@[simp] theorem State.setParams_power (s : State) (x : Params) : (s.setParams x).power = s.power := rfl
@[simp] theorem State.setParams_pins (s : State) (x : Params) : (s.setParams x).pins = s.pins := rfl
@[simp] theorem State.setParams_mode (s : State) (x : Params) : (s.setParams x).mode = s.mode := rfl
@[simp] theorem State.setParams_session (s : State) (x : Params) : (s.setParams x).session = s.session := rfl
@[simp] theorem State.setParams_conds (s : State) (x : Params) : (s.setParams x).conds = s.conds := rfl
@[simp] theorem State.setParams_params (s : State) (x : Params) : (s.setParams x).params = x := rfl
@[simp] theorem State.setParams_policy (s : State) (x : Params) : (s.setParams x).policy = s.policy := rfl
@[simp] theorem State.setParams_time (s : State) (x : Params) : (s.setParams x).time = s.time := rfl
@[simp] theorem State.setParams_dueList (s : State) (x : Params) : (s.setParams x).dueList = s.dueList := rfl
@[simp] theorem State.setParams_alerts (s : State) (x : Params) : (s.setParams x).alerts = s.alerts := rfl
@[simp] theorem State.setParams_directory (s : State) (x : Params) : (s.setParams x).directory = s.directory := rfl
@[simp] theorem State.setParams_bookings (s : State) (x : Params) : (s.setParams x).bookings = s.bookings := rfl
@[simp] theorem State.setParams_slots (s : State) (x : Params) : (s.setParams x).slots = s.slots := rfl
@[simp] theorem State.setParams_release (s : State) (x : Params) : (s.setParams x).release = s.release := rfl
@[simp] theorem State.setParams_units (s : State) (x : Params) : (s.setParams x).units = s.units := rfl
@[simp] theorem State.setParams_bus (s : State) (x : Params) : (s.setParams x).bus = s.bus := rfl
@[simp] theorem State.setParams_chute (s : State) (x : Params) : (s.setParams x).chute = s.chute := rfl
@[simp] theorem State.setParams_bin (s : State) (x : Params) : (s.setParams x).bin = s.bin := rfl
@[simp] theorem State.setParams_link (s : State) (x : Params) : (s.setParams x).link = s.link := rfl
@[simp] theorem State.setParams_kiosk (s : State) (x : Params) : (s.setParams x).kiosk = s.kiosk := rfl

/-! ### State.setPolicy -/

@[simp] theorem State.setPolicy_pending (s : State) (x : Vector PolicyEntry 16) : (s.setPolicy x).pending = s.pending := rfl
@[simp] theorem State.setPolicy_power (s : State) (x : Vector PolicyEntry 16) : (s.setPolicy x).power = s.power := rfl
@[simp] theorem State.setPolicy_pins (s : State) (x : Vector PolicyEntry 16) : (s.setPolicy x).pins = s.pins := rfl
@[simp] theorem State.setPolicy_mode (s : State) (x : Vector PolicyEntry 16) : (s.setPolicy x).mode = s.mode := rfl
@[simp] theorem State.setPolicy_session (s : State) (x : Vector PolicyEntry 16) : (s.setPolicy x).session = s.session := rfl
@[simp] theorem State.setPolicy_conds (s : State) (x : Vector PolicyEntry 16) : (s.setPolicy x).conds = s.conds := rfl
@[simp] theorem State.setPolicy_params (s : State) (x : Vector PolicyEntry 16) : (s.setPolicy x).params = s.params := rfl
@[simp] theorem State.setPolicy_policy (s : State) (x : Vector PolicyEntry 16) : (s.setPolicy x).policy = x := rfl
@[simp] theorem State.setPolicy_time (s : State) (x : Vector PolicyEntry 16) : (s.setPolicy x).time = s.time := rfl
@[simp] theorem State.setPolicy_dueList (s : State) (x : Vector PolicyEntry 16) : (s.setPolicy x).dueList = s.dueList := rfl
@[simp] theorem State.setPolicy_alerts (s : State) (x : Vector PolicyEntry 16) : (s.setPolicy x).alerts = s.alerts := rfl
@[simp] theorem State.setPolicy_directory (s : State) (x : Vector PolicyEntry 16) : (s.setPolicy x).directory = s.directory := rfl
@[simp] theorem State.setPolicy_bookings (s : State) (x : Vector PolicyEntry 16) : (s.setPolicy x).bookings = s.bookings := rfl
@[simp] theorem State.setPolicy_slots (s : State) (x : Vector PolicyEntry 16) : (s.setPolicy x).slots = s.slots := rfl
@[simp] theorem State.setPolicy_release (s : State) (x : Vector PolicyEntry 16) : (s.setPolicy x).release = s.release := rfl
@[simp] theorem State.setPolicy_units (s : State) (x : Vector PolicyEntry 16) : (s.setPolicy x).units = s.units := rfl
@[simp] theorem State.setPolicy_bus (s : State) (x : Vector PolicyEntry 16) : (s.setPolicy x).bus = s.bus := rfl
@[simp] theorem State.setPolicy_chute (s : State) (x : Vector PolicyEntry 16) : (s.setPolicy x).chute = s.chute := rfl
@[simp] theorem State.setPolicy_bin (s : State) (x : Vector PolicyEntry 16) : (s.setPolicy x).bin = s.bin := rfl
@[simp] theorem State.setPolicy_link (s : State) (x : Vector PolicyEntry 16) : (s.setPolicy x).link = s.link := rfl
@[simp] theorem State.setPolicy_kiosk (s : State) (x : Vector PolicyEntry 16) : (s.setPolicy x).kiosk = s.kiosk := rfl

/-! ### State.setTime -/

@[simp] theorem State.setTime_pending (s : State) (x : Option Nat) : (s.setTime x).pending = s.pending := rfl
@[simp] theorem State.setTime_power (s : State) (x : Option Nat) : (s.setTime x).power = s.power := rfl
@[simp] theorem State.setTime_pins (s : State) (x : Option Nat) : (s.setTime x).pins = s.pins := rfl
@[simp] theorem State.setTime_mode (s : State) (x : Option Nat) : (s.setTime x).mode = s.mode := rfl
@[simp] theorem State.setTime_session (s : State) (x : Option Nat) : (s.setTime x).session = s.session := rfl
@[simp] theorem State.setTime_conds (s : State) (x : Option Nat) : (s.setTime x).conds = s.conds := rfl
@[simp] theorem State.setTime_params (s : State) (x : Option Nat) : (s.setTime x).params = s.params := rfl
@[simp] theorem State.setTime_policy (s : State) (x : Option Nat) : (s.setTime x).policy = s.policy := rfl
@[simp] theorem State.setTime_time (s : State) (x : Option Nat) : (s.setTime x).time = x := rfl
@[simp] theorem State.setTime_dueList (s : State) (x : Option Nat) : (s.setTime x).dueList = s.dueList := rfl
@[simp] theorem State.setTime_alerts (s : State) (x : Option Nat) : (s.setTime x).alerts = s.alerts := rfl
@[simp] theorem State.setTime_directory (s : State) (x : Option Nat) : (s.setTime x).directory = s.directory := rfl
@[simp] theorem State.setTime_bookings (s : State) (x : Option Nat) : (s.setTime x).bookings = s.bookings := rfl
@[simp] theorem State.setTime_slots (s : State) (x : Option Nat) : (s.setTime x).slots = s.slots := rfl
@[simp] theorem State.setTime_release (s : State) (x : Option Nat) : (s.setTime x).release = s.release := rfl
@[simp] theorem State.setTime_units (s : State) (x : Option Nat) : (s.setTime x).units = s.units := rfl
@[simp] theorem State.setTime_bus (s : State) (x : Option Nat) : (s.setTime x).bus = s.bus := rfl
@[simp] theorem State.setTime_chute (s : State) (x : Option Nat) : (s.setTime x).chute = s.chute := rfl
@[simp] theorem State.setTime_bin (s : State) (x : Option Nat) : (s.setTime x).bin = s.bin := rfl
@[simp] theorem State.setTime_link (s : State) (x : Option Nat) : (s.setTime x).link = s.link := rfl
@[simp] theorem State.setTime_kiosk (s : State) (x : Option Nat) : (s.setTime x).kiosk = s.kiosk := rfl

/-! ### State.setDueList -/

@[simp] theorem State.setDueList_pending (s : State) (x : List DueEntry) : (s.setDueList x).pending = s.pending := rfl
@[simp] theorem State.setDueList_power (s : State) (x : List DueEntry) : (s.setDueList x).power = s.power := rfl
@[simp] theorem State.setDueList_pins (s : State) (x : List DueEntry) : (s.setDueList x).pins = s.pins := rfl
@[simp] theorem State.setDueList_mode (s : State) (x : List DueEntry) : (s.setDueList x).mode = s.mode := rfl
@[simp] theorem State.setDueList_session (s : State) (x : List DueEntry) : (s.setDueList x).session = s.session := rfl
@[simp] theorem State.setDueList_conds (s : State) (x : List DueEntry) : (s.setDueList x).conds = s.conds := rfl
@[simp] theorem State.setDueList_params (s : State) (x : List DueEntry) : (s.setDueList x).params = s.params := rfl
@[simp] theorem State.setDueList_policy (s : State) (x : List DueEntry) : (s.setDueList x).policy = s.policy := rfl
@[simp] theorem State.setDueList_time (s : State) (x : List DueEntry) : (s.setDueList x).time = s.time := rfl
@[simp] theorem State.setDueList_dueList (s : State) (x : List DueEntry) : (s.setDueList x).dueList = x := rfl
@[simp] theorem State.setDueList_alerts (s : State) (x : List DueEntry) : (s.setDueList x).alerts = s.alerts := rfl
@[simp] theorem State.setDueList_directory (s : State) (x : List DueEntry) : (s.setDueList x).directory = s.directory := rfl
@[simp] theorem State.setDueList_bookings (s : State) (x : List DueEntry) : (s.setDueList x).bookings = s.bookings := rfl
@[simp] theorem State.setDueList_slots (s : State) (x : List DueEntry) : (s.setDueList x).slots = s.slots := rfl
@[simp] theorem State.setDueList_release (s : State) (x : List DueEntry) : (s.setDueList x).release = s.release := rfl
@[simp] theorem State.setDueList_units (s : State) (x : List DueEntry) : (s.setDueList x).units = s.units := rfl
@[simp] theorem State.setDueList_bus (s : State) (x : List DueEntry) : (s.setDueList x).bus = s.bus := rfl
@[simp] theorem State.setDueList_chute (s : State) (x : List DueEntry) : (s.setDueList x).chute = s.chute := rfl
@[simp] theorem State.setDueList_bin (s : State) (x : List DueEntry) : (s.setDueList x).bin = s.bin := rfl
@[simp] theorem State.setDueList_link (s : State) (x : List DueEntry) : (s.setDueList x).link = s.link := rfl
@[simp] theorem State.setDueList_kiosk (s : State) (x : List DueEntry) : (s.setDueList x).kiosk = s.kiosk := rfl

/-! ### State.setAlerts -/

@[simp] theorem State.setAlerts_pending (s : State) (x : AlertUnit) : (s.setAlerts x).pending = s.pending := rfl
@[simp] theorem State.setAlerts_power (s : State) (x : AlertUnit) : (s.setAlerts x).power = s.power := rfl
@[simp] theorem State.setAlerts_pins (s : State) (x : AlertUnit) : (s.setAlerts x).pins = s.pins := rfl
@[simp] theorem State.setAlerts_mode (s : State) (x : AlertUnit) : (s.setAlerts x).mode = s.mode := rfl
@[simp] theorem State.setAlerts_session (s : State) (x : AlertUnit) : (s.setAlerts x).session = s.session := rfl
@[simp] theorem State.setAlerts_conds (s : State) (x : AlertUnit) : (s.setAlerts x).conds = s.conds := rfl
@[simp] theorem State.setAlerts_params (s : State) (x : AlertUnit) : (s.setAlerts x).params = s.params := rfl
@[simp] theorem State.setAlerts_policy (s : State) (x : AlertUnit) : (s.setAlerts x).policy = s.policy := rfl
@[simp] theorem State.setAlerts_time (s : State) (x : AlertUnit) : (s.setAlerts x).time = s.time := rfl
@[simp] theorem State.setAlerts_dueList (s : State) (x : AlertUnit) : (s.setAlerts x).dueList = s.dueList := rfl
@[simp] theorem State.setAlerts_alerts (s : State) (x : AlertUnit) : (s.setAlerts x).alerts = x := rfl
@[simp] theorem State.setAlerts_directory (s : State) (x : AlertUnit) : (s.setAlerts x).directory = s.directory := rfl
@[simp] theorem State.setAlerts_bookings (s : State) (x : AlertUnit) : (s.setAlerts x).bookings = s.bookings := rfl
@[simp] theorem State.setAlerts_slots (s : State) (x : AlertUnit) : (s.setAlerts x).slots = s.slots := rfl
@[simp] theorem State.setAlerts_release (s : State) (x : AlertUnit) : (s.setAlerts x).release = s.release := rfl
@[simp] theorem State.setAlerts_units (s : State) (x : AlertUnit) : (s.setAlerts x).units = s.units := rfl
@[simp] theorem State.setAlerts_bus (s : State) (x : AlertUnit) : (s.setAlerts x).bus = s.bus := rfl
@[simp] theorem State.setAlerts_chute (s : State) (x : AlertUnit) : (s.setAlerts x).chute = s.chute := rfl
@[simp] theorem State.setAlerts_bin (s : State) (x : AlertUnit) : (s.setAlerts x).bin = s.bin := rfl
@[simp] theorem State.setAlerts_link (s : State) (x : AlertUnit) : (s.setAlerts x).link = s.link := rfl
@[simp] theorem State.setAlerts_kiosk (s : State) (x : AlertUnit) : (s.setAlerts x).kiosk = s.kiosk := rfl

/-! ### State.setDirectory -/

@[simp] theorem State.setDirectory_pending (s : State) (x : List KeyEntry) : (s.setDirectory x).pending = s.pending := rfl
@[simp] theorem State.setDirectory_power (s : State) (x : List KeyEntry) : (s.setDirectory x).power = s.power := rfl
@[simp] theorem State.setDirectory_pins (s : State) (x : List KeyEntry) : (s.setDirectory x).pins = s.pins := rfl
@[simp] theorem State.setDirectory_mode (s : State) (x : List KeyEntry) : (s.setDirectory x).mode = s.mode := rfl
@[simp] theorem State.setDirectory_session (s : State) (x : List KeyEntry) : (s.setDirectory x).session = s.session := rfl
@[simp] theorem State.setDirectory_conds (s : State) (x : List KeyEntry) : (s.setDirectory x).conds = s.conds := rfl
@[simp] theorem State.setDirectory_params (s : State) (x : List KeyEntry) : (s.setDirectory x).params = s.params := rfl
@[simp] theorem State.setDirectory_policy (s : State) (x : List KeyEntry) : (s.setDirectory x).policy = s.policy := rfl
@[simp] theorem State.setDirectory_time (s : State) (x : List KeyEntry) : (s.setDirectory x).time = s.time := rfl
@[simp] theorem State.setDirectory_dueList (s : State) (x : List KeyEntry) : (s.setDirectory x).dueList = s.dueList := rfl
@[simp] theorem State.setDirectory_alerts (s : State) (x : List KeyEntry) : (s.setDirectory x).alerts = s.alerts := rfl
@[simp] theorem State.setDirectory_directory (s : State) (x : List KeyEntry) : (s.setDirectory x).directory = x := rfl
@[simp] theorem State.setDirectory_bookings (s : State) (x : List KeyEntry) : (s.setDirectory x).bookings = s.bookings := rfl
@[simp] theorem State.setDirectory_slots (s : State) (x : List KeyEntry) : (s.setDirectory x).slots = s.slots := rfl
@[simp] theorem State.setDirectory_release (s : State) (x : List KeyEntry) : (s.setDirectory x).release = s.release := rfl
@[simp] theorem State.setDirectory_units (s : State) (x : List KeyEntry) : (s.setDirectory x).units = s.units := rfl
@[simp] theorem State.setDirectory_bus (s : State) (x : List KeyEntry) : (s.setDirectory x).bus = s.bus := rfl
@[simp] theorem State.setDirectory_chute (s : State) (x : List KeyEntry) : (s.setDirectory x).chute = s.chute := rfl
@[simp] theorem State.setDirectory_bin (s : State) (x : List KeyEntry) : (s.setDirectory x).bin = s.bin := rfl
@[simp] theorem State.setDirectory_link (s : State) (x : List KeyEntry) : (s.setDirectory x).link = s.link := rfl
@[simp] theorem State.setDirectory_kiosk (s : State) (x : List KeyEntry) : (s.setDirectory x).kiosk = s.kiosk := rfl

/-! ### State.setBookings -/

@[simp] theorem State.setBookings_pending (s : State) (x : List Booking) : (s.setBookings x).pending = s.pending := rfl
@[simp] theorem State.setBookings_power (s : State) (x : List Booking) : (s.setBookings x).power = s.power := rfl
@[simp] theorem State.setBookings_pins (s : State) (x : List Booking) : (s.setBookings x).pins = s.pins := rfl
@[simp] theorem State.setBookings_mode (s : State) (x : List Booking) : (s.setBookings x).mode = s.mode := rfl
@[simp] theorem State.setBookings_session (s : State) (x : List Booking) : (s.setBookings x).session = s.session := rfl
@[simp] theorem State.setBookings_conds (s : State) (x : List Booking) : (s.setBookings x).conds = s.conds := rfl
@[simp] theorem State.setBookings_params (s : State) (x : List Booking) : (s.setBookings x).params = s.params := rfl
@[simp] theorem State.setBookings_policy (s : State) (x : List Booking) : (s.setBookings x).policy = s.policy := rfl
@[simp] theorem State.setBookings_time (s : State) (x : List Booking) : (s.setBookings x).time = s.time := rfl
@[simp] theorem State.setBookings_dueList (s : State) (x : List Booking) : (s.setBookings x).dueList = s.dueList := rfl
@[simp] theorem State.setBookings_alerts (s : State) (x : List Booking) : (s.setBookings x).alerts = s.alerts := rfl
@[simp] theorem State.setBookings_directory (s : State) (x : List Booking) : (s.setBookings x).directory = s.directory := rfl
@[simp] theorem State.setBookings_bookings (s : State) (x : List Booking) : (s.setBookings x).bookings = x := rfl
@[simp] theorem State.setBookings_slots (s : State) (x : List Booking) : (s.setBookings x).slots = s.slots := rfl
@[simp] theorem State.setBookings_release (s : State) (x : List Booking) : (s.setBookings x).release = s.release := rfl
@[simp] theorem State.setBookings_units (s : State) (x : List Booking) : (s.setBookings x).units = s.units := rfl
@[simp] theorem State.setBookings_bus (s : State) (x : List Booking) : (s.setBookings x).bus = s.bus := rfl
@[simp] theorem State.setBookings_chute (s : State) (x : List Booking) : (s.setBookings x).chute = s.chute := rfl
@[simp] theorem State.setBookings_bin (s : State) (x : List Booking) : (s.setBookings x).bin = s.bin := rfl
@[simp] theorem State.setBookings_link (s : State) (x : List Booking) : (s.setBookings x).link = s.link := rfl
@[simp] theorem State.setBookings_kiosk (s : State) (x : List Booking) : (s.setBookings x).kiosk = s.kiosk := rfl

/-! ### State.setSlots -/

@[simp] theorem State.setSlots_pending (s : State) (x : Vector SlotRec 384) : (s.setSlots x).pending = s.pending := rfl
@[simp] theorem State.setSlots_power (s : State) (x : Vector SlotRec 384) : (s.setSlots x).power = s.power := rfl
@[simp] theorem State.setSlots_pins (s : State) (x : Vector SlotRec 384) : (s.setSlots x).pins = s.pins := rfl
@[simp] theorem State.setSlots_mode (s : State) (x : Vector SlotRec 384) : (s.setSlots x).mode = s.mode := rfl
@[simp] theorem State.setSlots_session (s : State) (x : Vector SlotRec 384) : (s.setSlots x).session = s.session := rfl
@[simp] theorem State.setSlots_conds (s : State) (x : Vector SlotRec 384) : (s.setSlots x).conds = s.conds := rfl
@[simp] theorem State.setSlots_params (s : State) (x : Vector SlotRec 384) : (s.setSlots x).params = s.params := rfl
@[simp] theorem State.setSlots_policy (s : State) (x : Vector SlotRec 384) : (s.setSlots x).policy = s.policy := rfl
@[simp] theorem State.setSlots_time (s : State) (x : Vector SlotRec 384) : (s.setSlots x).time = s.time := rfl
@[simp] theorem State.setSlots_dueList (s : State) (x : Vector SlotRec 384) : (s.setSlots x).dueList = s.dueList := rfl
@[simp] theorem State.setSlots_alerts (s : State) (x : Vector SlotRec 384) : (s.setSlots x).alerts = s.alerts := rfl
@[simp] theorem State.setSlots_directory (s : State) (x : Vector SlotRec 384) : (s.setSlots x).directory = s.directory := rfl
@[simp] theorem State.setSlots_bookings (s : State) (x : Vector SlotRec 384) : (s.setSlots x).bookings = s.bookings := rfl
@[simp] theorem State.setSlots_slots (s : State) (x : Vector SlotRec 384) : (s.setSlots x).slots = x := rfl
@[simp] theorem State.setSlots_release (s : State) (x : Vector SlotRec 384) : (s.setSlots x).release = s.release := rfl
@[simp] theorem State.setSlots_units (s : State) (x : Vector SlotRec 384) : (s.setSlots x).units = s.units := rfl
@[simp] theorem State.setSlots_bus (s : State) (x : Vector SlotRec 384) : (s.setSlots x).bus = s.bus := rfl
@[simp] theorem State.setSlots_chute (s : State) (x : Vector SlotRec 384) : (s.setSlots x).chute = s.chute := rfl
@[simp] theorem State.setSlots_bin (s : State) (x : Vector SlotRec 384) : (s.setSlots x).bin = s.bin := rfl
@[simp] theorem State.setSlots_link (s : State) (x : Vector SlotRec 384) : (s.setSlots x).link = s.link := rfl
@[simp] theorem State.setSlots_kiosk (s : State) (x : Vector SlotRec 384) : (s.setSlots x).kiosk = s.kiosk := rfl

/-! ### State.setRelease -/

@[simp] theorem State.setRelease_pending (s : State) (x : ReleaseUnit) : (s.setRelease x).pending = s.pending := rfl
@[simp] theorem State.setRelease_power (s : State) (x : ReleaseUnit) : (s.setRelease x).power = s.power := rfl
@[simp] theorem State.setRelease_pins (s : State) (x : ReleaseUnit) : (s.setRelease x).pins = s.pins := rfl
@[simp] theorem State.setRelease_mode (s : State) (x : ReleaseUnit) : (s.setRelease x).mode = s.mode := rfl
@[simp] theorem State.setRelease_session (s : State) (x : ReleaseUnit) : (s.setRelease x).session = s.session := rfl
@[simp] theorem State.setRelease_conds (s : State) (x : ReleaseUnit) : (s.setRelease x).conds = s.conds := rfl
@[simp] theorem State.setRelease_params (s : State) (x : ReleaseUnit) : (s.setRelease x).params = s.params := rfl
@[simp] theorem State.setRelease_policy (s : State) (x : ReleaseUnit) : (s.setRelease x).policy = s.policy := rfl
@[simp] theorem State.setRelease_time (s : State) (x : ReleaseUnit) : (s.setRelease x).time = s.time := rfl
@[simp] theorem State.setRelease_dueList (s : State) (x : ReleaseUnit) : (s.setRelease x).dueList = s.dueList := rfl
@[simp] theorem State.setRelease_alerts (s : State) (x : ReleaseUnit) : (s.setRelease x).alerts = s.alerts := rfl
@[simp] theorem State.setRelease_directory (s : State) (x : ReleaseUnit) : (s.setRelease x).directory = s.directory := rfl
@[simp] theorem State.setRelease_bookings (s : State) (x : ReleaseUnit) : (s.setRelease x).bookings = s.bookings := rfl
@[simp] theorem State.setRelease_slots (s : State) (x : ReleaseUnit) : (s.setRelease x).slots = s.slots := rfl
@[simp] theorem State.setRelease_release (s : State) (x : ReleaseUnit) : (s.setRelease x).release = x := rfl
@[simp] theorem State.setRelease_units (s : State) (x : ReleaseUnit) : (s.setRelease x).units = s.units := rfl
@[simp] theorem State.setRelease_bus (s : State) (x : ReleaseUnit) : (s.setRelease x).bus = s.bus := rfl
@[simp] theorem State.setRelease_chute (s : State) (x : ReleaseUnit) : (s.setRelease x).chute = s.chute := rfl
@[simp] theorem State.setRelease_bin (s : State) (x : ReleaseUnit) : (s.setRelease x).bin = s.bin := rfl
@[simp] theorem State.setRelease_link (s : State) (x : ReleaseUnit) : (s.setRelease x).link = s.link := rfl
@[simp] theorem State.setRelease_kiosk (s : State) (x : ReleaseUnit) : (s.setRelease x).kiosk = s.kiosk := rfl

/-! ### State.setUnits -/

@[simp] theorem State.setUnits_pending (s : State) (x : Vector UnitRec 25) : (s.setUnits x).pending = s.pending := rfl
@[simp] theorem State.setUnits_power (s : State) (x : Vector UnitRec 25) : (s.setUnits x).power = s.power := rfl
@[simp] theorem State.setUnits_pins (s : State) (x : Vector UnitRec 25) : (s.setUnits x).pins = s.pins := rfl
@[simp] theorem State.setUnits_mode (s : State) (x : Vector UnitRec 25) : (s.setUnits x).mode = s.mode := rfl
@[simp] theorem State.setUnits_session (s : State) (x : Vector UnitRec 25) : (s.setUnits x).session = s.session := rfl
@[simp] theorem State.setUnits_conds (s : State) (x : Vector UnitRec 25) : (s.setUnits x).conds = s.conds := rfl
@[simp] theorem State.setUnits_params (s : State) (x : Vector UnitRec 25) : (s.setUnits x).params = s.params := rfl
@[simp] theorem State.setUnits_policy (s : State) (x : Vector UnitRec 25) : (s.setUnits x).policy = s.policy := rfl
@[simp] theorem State.setUnits_time (s : State) (x : Vector UnitRec 25) : (s.setUnits x).time = s.time := rfl
@[simp] theorem State.setUnits_dueList (s : State) (x : Vector UnitRec 25) : (s.setUnits x).dueList = s.dueList := rfl
@[simp] theorem State.setUnits_alerts (s : State) (x : Vector UnitRec 25) : (s.setUnits x).alerts = s.alerts := rfl
@[simp] theorem State.setUnits_directory (s : State) (x : Vector UnitRec 25) : (s.setUnits x).directory = s.directory := rfl
@[simp] theorem State.setUnits_bookings (s : State) (x : Vector UnitRec 25) : (s.setUnits x).bookings = s.bookings := rfl
@[simp] theorem State.setUnits_slots (s : State) (x : Vector UnitRec 25) : (s.setUnits x).slots = s.slots := rfl
@[simp] theorem State.setUnits_release (s : State) (x : Vector UnitRec 25) : (s.setUnits x).release = s.release := rfl
@[simp] theorem State.setUnits_units (s : State) (x : Vector UnitRec 25) : (s.setUnits x).units = x := rfl
@[simp] theorem State.setUnits_bus (s : State) (x : Vector UnitRec 25) : (s.setUnits x).bus = s.bus := rfl
@[simp] theorem State.setUnits_chute (s : State) (x : Vector UnitRec 25) : (s.setUnits x).chute = s.chute := rfl
@[simp] theorem State.setUnits_bin (s : State) (x : Vector UnitRec 25) : (s.setUnits x).bin = s.bin := rfl
@[simp] theorem State.setUnits_link (s : State) (x : Vector UnitRec 25) : (s.setUnits x).link = s.link := rfl
@[simp] theorem State.setUnits_kiosk (s : State) (x : Vector UnitRec 25) : (s.setUnits x).kiosk = s.kiosk := rfl

/-! ### State.setBus -/

@[simp] theorem State.setBus_pending (s : State) (x : BusMaster) : (s.setBus x).pending = s.pending := rfl
@[simp] theorem State.setBus_power (s : State) (x : BusMaster) : (s.setBus x).power = s.power := rfl
@[simp] theorem State.setBus_pins (s : State) (x : BusMaster) : (s.setBus x).pins = s.pins := rfl
@[simp] theorem State.setBus_mode (s : State) (x : BusMaster) : (s.setBus x).mode = s.mode := rfl
@[simp] theorem State.setBus_session (s : State) (x : BusMaster) : (s.setBus x).session = s.session := rfl
@[simp] theorem State.setBus_conds (s : State) (x : BusMaster) : (s.setBus x).conds = s.conds := rfl
@[simp] theorem State.setBus_params (s : State) (x : BusMaster) : (s.setBus x).params = s.params := rfl
@[simp] theorem State.setBus_policy (s : State) (x : BusMaster) : (s.setBus x).policy = s.policy := rfl
@[simp] theorem State.setBus_time (s : State) (x : BusMaster) : (s.setBus x).time = s.time := rfl
@[simp] theorem State.setBus_dueList (s : State) (x : BusMaster) : (s.setBus x).dueList = s.dueList := rfl
@[simp] theorem State.setBus_alerts (s : State) (x : BusMaster) : (s.setBus x).alerts = s.alerts := rfl
@[simp] theorem State.setBus_directory (s : State) (x : BusMaster) : (s.setBus x).directory = s.directory := rfl
@[simp] theorem State.setBus_bookings (s : State) (x : BusMaster) : (s.setBus x).bookings = s.bookings := rfl
@[simp] theorem State.setBus_slots (s : State) (x : BusMaster) : (s.setBus x).slots = s.slots := rfl
@[simp] theorem State.setBus_release (s : State) (x : BusMaster) : (s.setBus x).release = s.release := rfl
@[simp] theorem State.setBus_units (s : State) (x : BusMaster) : (s.setBus x).units = s.units := rfl
@[simp] theorem State.setBus_bus (s : State) (x : BusMaster) : (s.setBus x).bus = x := rfl
@[simp] theorem State.setBus_chute (s : State) (x : BusMaster) : (s.setBus x).chute = s.chute := rfl
@[simp] theorem State.setBus_bin (s : State) (x : BusMaster) : (s.setBus x).bin = s.bin := rfl
@[simp] theorem State.setBus_link (s : State) (x : BusMaster) : (s.setBus x).link = s.link := rfl
@[simp] theorem State.setBus_kiosk (s : State) (x : BusMaster) : (s.setBus x).kiosk = s.kiosk := rfl

/-! ### State.setChute -/

@[simp] theorem State.setChute_pending (s : State) (x : ChuteRec) : (s.setChute x).pending = s.pending := rfl
@[simp] theorem State.setChute_power (s : State) (x : ChuteRec) : (s.setChute x).power = s.power := rfl
@[simp] theorem State.setChute_pins (s : State) (x : ChuteRec) : (s.setChute x).pins = s.pins := rfl
@[simp] theorem State.setChute_mode (s : State) (x : ChuteRec) : (s.setChute x).mode = s.mode := rfl
@[simp] theorem State.setChute_session (s : State) (x : ChuteRec) : (s.setChute x).session = s.session := rfl
@[simp] theorem State.setChute_conds (s : State) (x : ChuteRec) : (s.setChute x).conds = s.conds := rfl
@[simp] theorem State.setChute_params (s : State) (x : ChuteRec) : (s.setChute x).params = s.params := rfl
@[simp] theorem State.setChute_policy (s : State) (x : ChuteRec) : (s.setChute x).policy = s.policy := rfl
@[simp] theorem State.setChute_time (s : State) (x : ChuteRec) : (s.setChute x).time = s.time := rfl
@[simp] theorem State.setChute_dueList (s : State) (x : ChuteRec) : (s.setChute x).dueList = s.dueList := rfl
@[simp] theorem State.setChute_alerts (s : State) (x : ChuteRec) : (s.setChute x).alerts = s.alerts := rfl
@[simp] theorem State.setChute_directory (s : State) (x : ChuteRec) : (s.setChute x).directory = s.directory := rfl
@[simp] theorem State.setChute_bookings (s : State) (x : ChuteRec) : (s.setChute x).bookings = s.bookings := rfl
@[simp] theorem State.setChute_slots (s : State) (x : ChuteRec) : (s.setChute x).slots = s.slots := rfl
@[simp] theorem State.setChute_release (s : State) (x : ChuteRec) : (s.setChute x).release = s.release := rfl
@[simp] theorem State.setChute_units (s : State) (x : ChuteRec) : (s.setChute x).units = s.units := rfl
@[simp] theorem State.setChute_bus (s : State) (x : ChuteRec) : (s.setChute x).bus = s.bus := rfl
@[simp] theorem State.setChute_chute (s : State) (x : ChuteRec) : (s.setChute x).chute = x := rfl
@[simp] theorem State.setChute_bin (s : State) (x : ChuteRec) : (s.setChute x).bin = s.bin := rfl
@[simp] theorem State.setChute_link (s : State) (x : ChuteRec) : (s.setChute x).link = s.link := rfl
@[simp] theorem State.setChute_kiosk (s : State) (x : ChuteRec) : (s.setChute x).kiosk = s.kiosk := rfl

/-! ### State.setBin -/

@[simp] theorem State.setBin_pending (s : State) (x : BinList) : (s.setBin x).pending = s.pending := rfl
@[simp] theorem State.setBin_power (s : State) (x : BinList) : (s.setBin x).power = s.power := rfl
@[simp] theorem State.setBin_pins (s : State) (x : BinList) : (s.setBin x).pins = s.pins := rfl
@[simp] theorem State.setBin_mode (s : State) (x : BinList) : (s.setBin x).mode = s.mode := rfl
@[simp] theorem State.setBin_session (s : State) (x : BinList) : (s.setBin x).session = s.session := rfl
@[simp] theorem State.setBin_conds (s : State) (x : BinList) : (s.setBin x).conds = s.conds := rfl
@[simp] theorem State.setBin_params (s : State) (x : BinList) : (s.setBin x).params = s.params := rfl
@[simp] theorem State.setBin_policy (s : State) (x : BinList) : (s.setBin x).policy = s.policy := rfl
@[simp] theorem State.setBin_time (s : State) (x : BinList) : (s.setBin x).time = s.time := rfl
@[simp] theorem State.setBin_dueList (s : State) (x : BinList) : (s.setBin x).dueList = s.dueList := rfl
@[simp] theorem State.setBin_alerts (s : State) (x : BinList) : (s.setBin x).alerts = s.alerts := rfl
@[simp] theorem State.setBin_directory (s : State) (x : BinList) : (s.setBin x).directory = s.directory := rfl
@[simp] theorem State.setBin_bookings (s : State) (x : BinList) : (s.setBin x).bookings = s.bookings := rfl
@[simp] theorem State.setBin_slots (s : State) (x : BinList) : (s.setBin x).slots = s.slots := rfl
@[simp] theorem State.setBin_release (s : State) (x : BinList) : (s.setBin x).release = s.release := rfl
@[simp] theorem State.setBin_units (s : State) (x : BinList) : (s.setBin x).units = s.units := rfl
@[simp] theorem State.setBin_bus (s : State) (x : BinList) : (s.setBin x).bus = s.bus := rfl
@[simp] theorem State.setBin_chute (s : State) (x : BinList) : (s.setBin x).chute = s.chute := rfl
@[simp] theorem State.setBin_bin (s : State) (x : BinList) : (s.setBin x).bin = x := rfl
@[simp] theorem State.setBin_link (s : State) (x : BinList) : (s.setBin x).link = s.link := rfl
@[simp] theorem State.setBin_kiosk (s : State) (x : BinList) : (s.setBin x).kiosk = s.kiosk := rfl

/-! ### State.setLink -/

@[simp] theorem State.setLink_pending (s : State) (x : BranchLink) : (s.setLink x).pending = s.pending := rfl
@[simp] theorem State.setLink_power (s : State) (x : BranchLink) : (s.setLink x).power = s.power := rfl
@[simp] theorem State.setLink_pins (s : State) (x : BranchLink) : (s.setLink x).pins = s.pins := rfl
@[simp] theorem State.setLink_mode (s : State) (x : BranchLink) : (s.setLink x).mode = s.mode := rfl
@[simp] theorem State.setLink_session (s : State) (x : BranchLink) : (s.setLink x).session = s.session := rfl
@[simp] theorem State.setLink_conds (s : State) (x : BranchLink) : (s.setLink x).conds = s.conds := rfl
@[simp] theorem State.setLink_params (s : State) (x : BranchLink) : (s.setLink x).params = s.params := rfl
@[simp] theorem State.setLink_policy (s : State) (x : BranchLink) : (s.setLink x).policy = s.policy := rfl
@[simp] theorem State.setLink_time (s : State) (x : BranchLink) : (s.setLink x).time = s.time := rfl
@[simp] theorem State.setLink_dueList (s : State) (x : BranchLink) : (s.setLink x).dueList = s.dueList := rfl
@[simp] theorem State.setLink_alerts (s : State) (x : BranchLink) : (s.setLink x).alerts = s.alerts := rfl
@[simp] theorem State.setLink_directory (s : State) (x : BranchLink) : (s.setLink x).directory = s.directory := rfl
@[simp] theorem State.setLink_bookings (s : State) (x : BranchLink) : (s.setLink x).bookings = s.bookings := rfl
@[simp] theorem State.setLink_slots (s : State) (x : BranchLink) : (s.setLink x).slots = s.slots := rfl
@[simp] theorem State.setLink_release (s : State) (x : BranchLink) : (s.setLink x).release = s.release := rfl
@[simp] theorem State.setLink_units (s : State) (x : BranchLink) : (s.setLink x).units = s.units := rfl
@[simp] theorem State.setLink_bus (s : State) (x : BranchLink) : (s.setLink x).bus = s.bus := rfl
@[simp] theorem State.setLink_chute (s : State) (x : BranchLink) : (s.setLink x).chute = s.chute := rfl
@[simp] theorem State.setLink_bin (s : State) (x : BranchLink) : (s.setLink x).bin = s.bin := rfl
@[simp] theorem State.setLink_link (s : State) (x : BranchLink) : (s.setLink x).link = x := rfl
@[simp] theorem State.setLink_kiosk (s : State) (x : BranchLink) : (s.setLink x).kiosk = s.kiosk := rfl

/-! ### State.setKiosk -/

@[simp] theorem State.setKiosk_pending (s : State) (x : KioskPort) : (s.setKiosk x).pending = s.pending := rfl
@[simp] theorem State.setKiosk_power (s : State) (x : KioskPort) : (s.setKiosk x).power = s.power := rfl
@[simp] theorem State.setKiosk_pins (s : State) (x : KioskPort) : (s.setKiosk x).pins = s.pins := rfl
@[simp] theorem State.setKiosk_mode (s : State) (x : KioskPort) : (s.setKiosk x).mode = s.mode := rfl
@[simp] theorem State.setKiosk_session (s : State) (x : KioskPort) : (s.setKiosk x).session = s.session := rfl
@[simp] theorem State.setKiosk_conds (s : State) (x : KioskPort) : (s.setKiosk x).conds = s.conds := rfl
@[simp] theorem State.setKiosk_params (s : State) (x : KioskPort) : (s.setKiosk x).params = s.params := rfl
@[simp] theorem State.setKiosk_policy (s : State) (x : KioskPort) : (s.setKiosk x).policy = s.policy := rfl
@[simp] theorem State.setKiosk_time (s : State) (x : KioskPort) : (s.setKiosk x).time = s.time := rfl
@[simp] theorem State.setKiosk_dueList (s : State) (x : KioskPort) : (s.setKiosk x).dueList = s.dueList := rfl
@[simp] theorem State.setKiosk_alerts (s : State) (x : KioskPort) : (s.setKiosk x).alerts = s.alerts := rfl
@[simp] theorem State.setKiosk_directory (s : State) (x : KioskPort) : (s.setKiosk x).directory = s.directory := rfl
@[simp] theorem State.setKiosk_bookings (s : State) (x : KioskPort) : (s.setKiosk x).bookings = s.bookings := rfl
@[simp] theorem State.setKiosk_slots (s : State) (x : KioskPort) : (s.setKiosk x).slots = s.slots := rfl
@[simp] theorem State.setKiosk_release (s : State) (x : KioskPort) : (s.setKiosk x).release = s.release := rfl
@[simp] theorem State.setKiosk_units (s : State) (x : KioskPort) : (s.setKiosk x).units = s.units := rfl
@[simp] theorem State.setKiosk_bus (s : State) (x : KioskPort) : (s.setKiosk x).bus = s.bus := rfl
@[simp] theorem State.setKiosk_chute (s : State) (x : KioskPort) : (s.setKiosk x).chute = s.chute := rfl
@[simp] theorem State.setKiosk_bin (s : State) (x : KioskPort) : (s.setKiosk x).bin = s.bin := rfl
@[simp] theorem State.setKiosk_link (s : State) (x : KioskPort) : (s.setKiosk x).link = s.link := rfl
@[simp] theorem State.setKiosk_kiosk (s : State) (x : KioskPort) : (s.setKiosk x).kiosk = x := rfl

end Sys2Proof.Machine
end

