-- ==== Sys2Proof/Laws/Tables.lean ====
section
/-! SUPPORT. What alerts, lamps, the bus and the ports do leaves the tables of a state as they were: one lemma for each shared
operation, for the provers to cite instead of unfolding it. -/

namespace Sys2Proof.Machine

/-! ### Setting a record to one with the same bare form -/

theorem vector_set_map {α β : Type} {n : Nat} (f : α → β) (v : Vector α n) (i : Fin n) (x : α) (h : f x = f v[i]) :
    (v.set i x).map f = v.map f := by
  ext j hj
  by_cases hij : (i : Nat) = j
  · subst hij; simpa using h
  · simp [hij]

theorem list_map_bare {α β : Type} (f : α → β) (g : α → α) (l : List α) (h : ∀ a ∈ l, f (g a) = f a) :
    (l.map g).map f = l.map f := by
  simpa using h

theorem setAlerts_tables (s : State) (a : AlertUnit) (h : a.mask = s.alerts.mask) : (s.setAlerts a).tables = s.tables := by
  simp [State.tables, State.setAlerts, h]

theorem setLink_tables (s : State) (l : BranchLink) : (s.setLink l).tables = s.tables := rfl

theorem setBus_tables (s : State) (b : BusMaster) : (s.setBus b).tables = s.tables := rfl

theorem setKiosk_tables (s : State) (k : KioskPort) (h : k.enabled = s.kiosk.enabled) : (s.setKiosk k).tables = s.tables := by
  simp [State.tables, State.setKiosk, h]

theorem putSlot_tables (s : State) (n : SlotNo) (r : SlotRec) (h : r.bare = (s.slot n).bare) :
    (s.putSlot n r).tables = s.tables := by
  simp only [State.putSlot, State.tables, State.setSlots, vector_set_map SlotRec.bare s.slots n r h]

theorem putUnit_tables (s : State) (u : UnitIx) (r : UnitRec) (h : r.bare = (s.unit u).bare) :
    (s.putUnit u r).tables = s.tables := by
  simp only [State.putUnit, State.tables, State.setUnits, vector_set_map UnitRec.bare s.units u r h]

theorem putCond_tables (s : State) (c : Condition) (r : CondRec) (h : r.bare = (s.cond c).bare) :
    (s.putCond c r).tables = s.tables := by
  simp only [State.putCond, State.tables, State.setConds, vector_set_map CondRec.bare s.conds c.ix r h]

theorem mapEntry_tables (s : State) (t : Nat) (f : KeyEntry → KeyEntry) (h : ∀ e : KeyEntry, (f e).bare = e.bare) :
    (s.mapEntry t f).tables = s.tables := by
  simp only [State.mapEntry, State.tables, State.setDirectory]
  rw [list_map_bare]
  intro e _; split <;> simp [h]

theorem mapBooking_tables (s : State) (n : Nat) (f : Booking → Booking) (h : ∀ b : Booking, (f b).bare = b.bare) :
    (s.mapBooking n f).tables = s.tables := by
  simp only [State.mapBooking, State.tables, State.setBookings]
  rw [list_map_bare]
  intro b _; split <;> simp [h]

theorem mapDrop_tables (s : State) (d : Nat) (f : DropEntry → DropEntry) (h : ∀ e : DropEntry, (f e).bare = e.bare) :
    (s.mapDrop d f).tables = s.tables := by
  simp only [State.mapDrop, State.tables, State.setBin]
  rw [list_map_bare]
  intro e _; split <;> simp [h]

/-! ### Reports and notices -/

theorem queueReport_tables (s : State) (b : ReportBody) : (s.queueReport b).tables = s.tables := rfl

theorem placeAnswer_tables (s : State) (a : Answer) : (s.placeAnswer a).tables = s.tables := rfl

theorem KioskPort.choose_enabled (k : KioskPort) : k.choose.enabled = k.enabled := by
  unfold KioskPort.choose; split
  · rfl
  · split <;> rfl

theorem KioskPort.wake_enabled (k : KioskPort) : k.wake.enabled = k.enabled := by
  unfold KioskPort.wake; split
  · exact k.choose_enabled
  · rfl

theorem KioskPort.enqueue_enabled (k : KioskPort) (n : Notice) : (k.enqueue n).enabled = k.enabled := by
  unfold KioskPort.enqueue; split <;> rfl

theorem placeNotice_tables (s : State) (b : Nat) (e : NoticeEvent) : (s.placeNotice b e).tables = s.tables := by
  unfold State.placeNotice; split
  · exact setKiosk_tables _ _ (by rw [KioskPort.wake_enabled, KioskPort.enqueue_enabled])
  · rfl

theorem noticeFor_tables (s : State) (src : Option Source) (b : Nat) (e : NoticeEvent) :
    (s.noticeFor src b e).tables = s.tables := by
  unfold State.noticeFor; split
  · exact placeNotice_tables _ _ _
  · rfl

theorem placeKioskAnswer_tables (s : State) (a : KioskAnswer) : (s.placeKioskAnswer a).tables = s.tables :=
  setKiosk_tables _ _ (by rw [KioskPort.wake_enabled])

/-! ### Lamps -/

theorem wantLamps_tables (s : State) (m : ModIx) : (s.wantLamps m).tables = s.tables := by
  unfold State.wantLamps; split
  · exact putUnit_tables _ _ _ rfl
  · rfl

theorem relamp_tables (s : State) (n : SlotNo) : (s.relamp n).tables = s.tables := by
  unfold State.relamp; split
  · rfl
  · rw [wantLamps_tables]; exact putSlot_tables _ _ _ rfl

theorem relampAll_tables (ns : List SlotNo) (s : State) : (s.relampAll ns).tables = s.tables := by
  induction ns generalizing s with
  | nil => rfl
  | cons n ns ih => exact (ih (s.relamp n)).trans (relamp_tables s n)

theorem modSlotLamp_tables (s : State) (n : SlotNo) (f : SlotRec → SlotRec) :
    (s.modSlotLamp n f).tables = (s.modSlot n f).tables := relamp_tables _ _

/-! ### Alerts -/

theorem setAlert_tables (s : State) (x : Subject) (f : AlertFields) : (s.setAlert x f).tables = s.tables := by
  cases x with
  | cabinet c => exact putCond_tables _ _ _ rfl
  | module u => exact putUnit_tables _ _ _ rfl
  | slot n => exact (modSlotLamp_tables _ _ _).trans (putSlot_tables _ _ _ rfl)
  | key t => exact mapEntry_tables _ _ _ fun _ => rfl
  | booking b => exact mapBooking_tables _ _ _ fun _ => rfl
  | bin d => exact mapDrop_tables _ _ _ fun _ => rfl

theorem judgeLines_tables (s : State) : s.judgeLines.tables = s.tables := setAlerts_tables _ _ rfl

theorem putAlertList_tables (s : State) (l : List AlertRec) : (s.putAlertList l).tables = s.tables :=
  (judgeLines_tables _).trans (setAlerts_tables _ _ rfl)

theorem reportReplaced_tables (s : State) (x : Subject) (o : Option AlertClass) (w : Bool) :
    (s.reportReplaced x o w).tables = s.tables := by
  unfold State.reportReplaced; split <;> rfl

theorem replaceListed_tables (s : State) (x : Subject) (f : AlertFields) (o c : AlertClass) :
    (s.replaceListed x f o c).tables = s.tables :=
  (reportReplaced_tables _ _ _ _).trans ((putAlertList_tables _ _).trans (setAlert_tables _ _ _))

theorem appendRecord_tables (s : State) (x : Subject) (f : AlertFields) (c : AlertClass) (t : Option Nat) :
    (s.appendRecord x f c t).tables = s.tables := (putAlertList_tables _ _).trans (setAlert_tables _ _ _)

theorem raiseAlert_tables (s : State) (x : Subject) (c : AlertClass) : (s.raiseAlert x c).tables = s.tables := by
  unfold State.raiseAlert
  split
  · rfl
  · split
    · rfl
    · split
      · rfl
      · split
        · exact replaceListed_tables _ _ _ _ _
        · split
          · exact (reportReplaced_tables _ _ _ _).trans (setAlert_tables _ _ _)
          · split
            · exact appendRecord_tables _ _ _ _ _
            · exact setAlert_tables _ _ _

theorem promote_tables (s : State) (w : Waiter) : (s.promote w).tables = s.tables := by
  unfold State.promote; split
  · split
    · exact appendRecord_tables _ _ _ _ _
    · rfl
  · rfl

theorem afterLeaving_tables (s : State) (x : Subject) (c : AlertClass) (w : ClearReason) :
    (s.afterLeaving x c w).tables = s.tables := by
  unfold State.afterLeaving; split
  · rfl
  · exact promote_tables _ _

theorem leaveList_tables (s : State) (x : Subject) (f : AlertFields) (a : Option AlertClass) (c : AlertClass)
    (w : ClearReason) : (s.leaveList x f a c w).tables = s.tables :=
  (afterLeaving_tables _ _ _ _).trans ((putAlertList_tables _ _).trans (setAlert_tables _ _ _))

theorem clearMark_tables (s : State) (x : Subject) (f : AlertFields) (a : Option AlertClass) (c : AlertClass)
    (w : ClearReason) : (s.clearMark x f a c w).tables = s.tables := setAlert_tables _ _ _

theorem withdrawAlert_tables (s : State) (x : Subject) (cs : List AlertClass) : (s.withdrawAlert x cs).tables = s.tables := by
  have only (f : AlertFields) (a : Option AlertClass) :
      (if a = f.acked then s else s.setAlert x { f with acked := a }).tables = s.tables := by
    split
    · rfl
    · exact setAlert_tables _ _ _
  unfold State.withdrawAlert
  split
  · rfl
  · dsimp only
    split
    · split
      · exact leaveList_tables _ _ _ _ _ _
      · exact only _ _
    · split
      · split
        · exact clearMark_tables _ _ _ _ _ _
        · exact only _ _
      · exact only _ _

theorem ackAlert_tables (s : State) (x : Subject) (c : AlertClass) (t : State) (h : s.ackAlert x = some (c, t)) :
    t.tables = s.tables := by
  unfold State.ackAlert at h
  split at h
  · cases h
  · split at h
    · cases h; exact leaveList_tables _ _ _ _ _ _
    · split at h
      · split at h
        · cases h; exact clearMark_tables _ _ _ _ _ _
        · cases h
      · cases h

/-! ### The bus and the two ports -/

theorem taken_tables (s : State) (u : UnitIx) (c : BusCmd) : (s.taken u c).tables = s.tables := by
  cases c with
  | lamps _ => exact putUnit_tables _ _ _ rfl
  | _ => rfl

/-- The choice of the next command touches no table. -/
theorem chooseCommand_tables (s : State) : s.chooseCommand.tables = s.tables := by
  unfold State.chooseCommand; split
  · rfl
  · split
    · exact taken_tables _ _ _
    · rfl

/-- A running part's event, as far as the tables: what the event does. -/
theorem event_tables (s : State) (f : State → State) (h : s.power.stopped = false) : (s.event f).tables = (f s).tables := by
  simp only [State.event, h, Bool.false_eq_true, if_false]; exact chooseCommand_tables _

/-- A stopped part takes nothing (R168). -/
theorem event_stopped (s : State) (f : State → State) (h : s.power.stopped = true) : s.event f = s := by
  simp [State.event, h]

theorem addLatch_tables (s : State) (n : SlotNo) (d : LatchDir) (c : Option ChanNo) : (s.addLatch n d c).tables = s.tables := by
  unfold State.addLatch; split <;> rfl

theorem closeForOpen_tables (s : State) (n : SlotNo) (c : ChanNo) : (s.closeForOpen n c).tables = s.tables := by
  unfold State.closeForOpen
  dsimp only
  split
  · rfl
  · exact addLatch_tables _ _ _ _

/-- Where an OPEN waits, each such command's CLOSE stands with its age, and no OPEN of the channel is left (R89). -/
theorem closeForOpen_takes_the_place {s : State} (n : SlotNo) (c : ChanNo) {l : LatchCmd} (h : l ∈ s.bus.latches)
    (hc : l.channel = some c) (hd : l.dir = .openIt) :
    { slot := n, dir := .closeIt, channel := some c, age := l.age, tries := 0 } ∈ (s.closeForOpen n c).bus.latches
      ∧ ∀ x ∈ (s.closeForOpen n c).bus.latches, x.channel = some c → x.dir ≠ .openIt := by
  have ha : (s.bus.latches.any fun l => l.channel == some c && l.dir == .openIt) = true :=
    List.any_eq_true.mpr ⟨l, h, by simp [hc, hd]⟩
  unfold State.closeForOpen
  dsimp only
  rw [if_pos ha]
  constructor
  · exact List.mem_map.mpr ⟨l, h, by simp [hc, hd]⟩
  · intro x hx hxc hxd
    obtain ⟨y, _, rfl⟩ := List.mem_map.mp hx
    split at hxd
    · cases hxd
    · rename_i hy
      rw [if_neg hy] at hxc
      exact hy (by simp [hxc, hxd])

theorem withdrawLatch_tables (s : State) (c : ChanNo) (d : LatchDir) : (s.withdrawLatch c d).tables = s.tables := rfl

theorem markStale_tables (s : State) (u : UnitIx) : (s.markStale u).tables = s.tables := by
  unfold State.markStale; split
  · split <;> rfl
  · rfl

theorem frameEnd_tables (s : State) : s.frameEnd.tables = s.tables := rfl

theorem overrun_tables (s : State) : s.overrun.tables = s.tables := rfl


end Sys2Proof.Machine
end

