-- ==== Sys2Proof/Laws/Calm.lean ====
section
/-! SUPPORT. What the operations inside an event can do, said once: `Calm s t` holds when t is reached from s by operations that
leave the settings, the level, the budget, the mask, the receivers and the queue of commands alone, keep every table within its
capacity, judge the lines after each change of the Alert List, and start nothing on the bus in HOLD. One lemma for each shared
operation; an invariant of Safety.lean follows from these without unfolding an operation. -/

namespace Sys2Proof.Machine

structure Calm (s t : State) : Prop where
  pending : t.pending = s.pending := by rfl
  power : t.power = s.power := by rfl
  pins : t.pins = s.pins := by rfl
  level : t.mode.level = s.mode.level := by rfl
  params : t.params = s.params := by rfl
  policy : t.policy = s.policy := by rfl
  time : t.time = s.time := by rfl
  mask : t.alerts.mask = s.alerts.mask := by rfl
  lines : t.alerts = s.alerts ∨ t.alerts.lines = t.judgedLines := by exact Or.inl rfl
  list : t.alerts.list.length ≤ max 8 s.alerts.list.length := by exact Nat.le_max_right _ _
  directory : t.directory.length ≤ max 512 s.directory.length := by exact Nat.le_max_right _ _
  bookings : t.bookings.length ≤ max 256 s.bookings.length := by exact Nat.le_max_right _ _
  queue : t.release.queue.length ≤ max 16 s.release.queue.length := by exact Nat.le_max_right _ _
  budget : t.release.budget = s.release.budget := by rfl
  bin : t.bin.entries.length ≤ max 64 s.bin.entries.length := by exact Nat.le_max_right _ _
  inBin : t.inBinCount ≤ max 48 s.inBinCount := by exact Nat.le_max_right _ _
  removals : t.session.removals.length ≤ max 32 s.session.removals.length := by exact Nat.le_max_right _ _
  flight : s.mode.level = .lost → s.bus.flight = none → t.bus.flight = none := by exact fun _ h => h
  online : s.mode.level = .lost → ∀ u : UnitIx, t.online u = true → s.online u = true := by exact fun _ _ h => h
  linkRx : t.link.rx = s.link.rx := by rfl
  linkState : t.link.state = s.link.state := by rfl
  supervision : t.link.supervision = s.link.supervision := by rfl
  answers : t.link.answers.length ≤ s.link.answers.length := by exact Nat.le_refl _
  reports : t.link.reports.length ≤ max 32 s.link.reports.length := by exact Nat.le_max_right _ _
  enabled : t.kiosk.enabled = s.kiosk.enabled := by rfl
  kioskRx : t.kiosk.rx = s.kiosk.rx := by rfl
  notices : t.kiosk.notices.length ≤ max 4 s.kiosk.notices.length := by exact Nat.le_max_right _ _
  held : s.link.tx ≠ .idle → t.link.tx = s.link.tx ∧ t.link.answers = s.link.answers := by exact fun _ => ⟨rfl, rfl⟩
  kioskHeld : s.kiosk.tx ≠ .idle → t.kiosk.tx = s.kiosk.tx ∧ t.kiosk.answer = s.kiosk.answer := by exact fun _ => ⟨rfl, rfl⟩

theorem Calm.refl (s : State) : Calm s s := {}

/-- The lines of the rule R139 depend on the mask, the list and the policy only. -/
theorem judgedLines_congr {s t : State} (ha : t.alerts = s.alerts) (hp : t.policy = s.policy) :
    t.judgedLines = s.judgedLines := by
  simp only [State.judgedLines, State.policyOf, ha, hp]

theorem le_max_trans {a b c k : Nat} (h1 : b ≤ max k a) (h2 : c ≤ max k b) : c ≤ max k a := by omega

theorem Calm.trans {s t u : State} (h : Calm s t) (k : Calm t u) : Calm s u where
  pending := k.pending.trans h.pending
  power := k.power.trans h.power
  pins := k.pins.trans h.pins
  level := k.level.trans h.level
  params := k.params.trans h.params
  policy := k.policy.trans h.policy
  time := k.time.trans h.time
  mask := k.mask.trans h.mask
  lines := by
    rcases k.lines with e | e
    · rcases h.lines with e' | e'
      · exact Or.inl (e.trans e')
      · right; rw [judgedLines_congr e k.policy, e]; exact e'
    · exact Or.inr e
  list := le_max_trans h.list k.list
  directory := le_max_trans h.directory k.directory
  bookings := le_max_trans h.bookings k.bookings
  queue := le_max_trans h.queue k.queue
  budget := k.budget.trans h.budget
  bin := le_max_trans h.bin k.bin
  inBin := le_max_trans h.inBin k.inBin
  removals := le_max_trans h.removals k.removals
  flight := fun hl hf => k.flight (h.level.trans hl) (h.flight hl hf)
  online := fun hl u hu => h.online hl u (k.online (h.level.trans hl) u hu)
  linkRx := k.linkRx.trans h.linkRx
  linkState := k.linkState.trans h.linkState
  supervision := k.supervision.trans h.supervision
  answers := k.answers.trans h.answers
  reports := le_max_trans h.reports k.reports
  enabled := k.enabled.trans h.enabled
  kioskRx := k.kioskRx.trans h.kioskRx
  notices := le_max_trans h.notices k.notices
  held := fun hx => by
    have a := h.held hx
    have b := k.held (by rw [a.1]; exact hx)
    exact ⟨b.1.trans a.1, b.2.trans a.2⟩
  kioskHeld := fun hx => by
    have a := h.kioskHeld hx
    have b := k.kioskHeld (by rw [a.1]; exact hx)
    exact ⟨b.1.trans a.1, b.2.trans a.2⟩

theorem Calm.ite {s a b : State} (p : Prop) [Decidable p] (ha : p → Calm s a) (hb : ¬p → Calm s b) :
    Calm s (if p then a else b) := by
  split
  · exact ha ‹_›
  · exact hb ‹_›

theorem foldl_calm {α : Type} (f : State → α → State) (h : ∀ s a, Calm s (f s a)) (l : List α) (s : State) :
    Calm s (l.foldl f s) := by
  induction l generalizing s with
  | nil => exact Calm.refl s
  | cons a l ih => exact (h s a).trans (ih _)

/-! ### One block of state -/

theorem setSlots_calm (s : State) (x : Vector SlotRec 384) : Calm s (s.setSlots x) := {}
theorem setConds_calm (s : State) (x : Vector CondRec 6) : Calm s (s.setConds x) := {}
theorem setChute_calm (s : State) (x : ChuteRec) : Calm s (s.setChute x) := {}
theorem setDueList_calm (s : State) (x : List DueEntry) : Calm s (s.setDueList x) := {}

theorem setMode_calm (s : State) (x : CabinetMode) (h : x.level = s.mode.level) : Calm s (s.setMode x) := { level := h }

theorem setSession_calm (s : State) (x : Session) (h : x.removals.length ≤ max 32 s.session.removals.length) :
    Calm s (s.setSession x) := { removals := h }

theorem setDirectory_calm (s : State) (x : List KeyEntry) (h : x.length ≤ max 512 s.directory.length) :
    Calm s (s.setDirectory x) := { directory := h }

theorem setBookings_calm (s : State) (x : List Booking) (h : x.length ≤ max 256 s.bookings.length) :
    Calm s (s.setBookings x) := { bookings := h }

theorem setRelease_calm (s : State) (x : ReleaseUnit) (h : x.queue.length ≤ max 16 s.release.queue.length)
    (hb : x.budget = s.release.budget) : Calm s (s.setRelease x) := { queue := h, budget := hb }

theorem setBin_calm (s : State) (x : BinList) (h : x.entries.length ≤ max 64 s.bin.entries.length)
    (hi : (x.entries.filter fun e => e.state == .inBin).length ≤ max 48 s.inBinCount) : Calm s (s.setBin x) :=
  { bin := h, inBin := hi }

theorem setBus_calm (s : State) (x : BusMaster) (h : s.mode.level = .lost → s.bus.flight = none → x.flight = none) :
    Calm s (s.setBus x) := { flight := h }

theorem putSlot_calm (s : State) (n : SlotNo) (r : SlotRec) : Calm s (s.putSlot n r) := setSlots_calm _ _

theorem putCond_calm (s : State) (c : Condition) (r : CondRec) : Calm s (s.putCond c r) := setConds_calm _ _

theorem putChan_calm (s : State) (c : ChanNo) (x : Channel) : Calm s (s.putChan c x) :=
  setRelease_calm _ _ (Nat.le_max_right _ _) rfl

theorem unit_putUnit (s : State) (u v : UnitIx) (r : UnitRec) :
    (s.putUnit u r).unit v = if v = u then r else s.unit v := by
  simp only [State.unit, State.putUnit, State.setUnits, Fin.getElem_fin, Vector.getElem_set, Fin.ext_iff]
  by_cases h : (u : Nat) = v
  · simp [h]
  · rw [if_neg h, if_neg (Ne.symm h)]

theorem putUnit_calm (s : State) (u : UnitIx) (r : UnitRec) (h : r.state = .online → s.online u = true) :
    Calm s (s.putUnit u r) :=
  { online := fun _ v hv => by
      unfold State.online at hv h ⊢
      rw [unit_putUnit] at hv
      split at hv
      · rename_i e; subst e; exact h (by simpa using hv)
      · exact hv }

/-- A unit's record changed with its state kept. -/
theorem putUnit_calm_same (s : State) (u : UnitIx) (r : UnitRec) (h : r.state = (s.unit u).state) : Calm s (s.putUnit u r) :=
  putUnit_calm s u r fun e => by simp [State.online, ← h, e]

/-- A unit's record changed to a state other than ONLINE. -/
theorem putUnit_calm_off (s : State) (u : UnitIx) (r : UnitRec) (h : r.state ≠ .online) : Calm s (s.putUnit u r) :=
  putUnit_calm s u r fun e => absurd e h

/-- A unit's record changed in any way while the level is not LOST. -/
theorem putUnit_calm_run (s : State) (u : UnitIx) (r : UnitRec) (h : s.mode.level ≠ .lost) : Calm s (s.putUnit u r) :=
  { online := fun e => absurd e h }

theorem mapEntry_calm (s : State) (t : Nat) (f : KeyEntry → KeyEntry) : Calm s (s.mapEntry t f) :=
  setDirectory_calm _ _ (by simp)

theorem mapBooking_calm (s : State) (n : Nat) (f : Booking → Booking) : Calm s (s.mapBooking n f) :=
  setBookings_calm _ _ (by simp)

theorem filter_map_state (l : List DropEntry) (f : DropEntry → DropEntry) (h : ∀ e, (f e).state = e.state) :
    ((l.map f).filter fun e => e.state == .inBin).length = (l.filter fun e => e.state == .inBin).length := by
  rw [List.filter_map, List.length_map]
  congr 2; funext e; simp [h]

theorem mapDrop_calm (s : State) (d : Nat) (f : DropEntry → DropEntry) (h : ∀ e, (f e).state = e.state) :
    Calm s (s.mapDrop d f) :=
  setBin_calm _ _ (by simp) (by
    rw [filter_map_state]
    · exact Nat.le_max_right _ _
    · intro e; split
      · exact h e
      · rfl)

/-! ### Reports, notices, lamps -/

theorem BranchLink.choose_answers (l : BranchLink) : l.choose.answers.length ≤ l.answers.length := by
  unfold BranchLink.choose; split
  · rename_i h; simp [h]
  · split <;> simp

theorem BranchLink.choose_reports (l : BranchLink) : l.choose.reports.length ≤ l.reports.length := by
  unfold BranchLink.choose; split
  · exact Nat.le_refl _
  · split
    · rename_i h; simp [h]
    · exact Nat.le_refl _

theorem BranchLink.choose_kept (l : BranchLink) :
    l.choose.rx = l.rx ∧ l.choose.state = l.state ∧ l.choose.supervision = l.supervision := by
  unfold BranchLink.choose; split
  · exact ⟨rfl, rfl, rfl⟩
  · split <;> exact ⟨rfl, rfl, rfl⟩

theorem BranchLink.wake_answers (l : BranchLink) : l.wake.answers.length ≤ l.answers.length := by
  unfold BranchLink.wake; split
  · exact l.choose_answers
  · exact Nat.le_refl _

theorem BranchLink.wake_reports (l : BranchLink) : l.wake.reports.length ≤ l.reports.length := by
  unfold BranchLink.wake; split
  · exact l.choose_reports
  · exact Nat.le_refl _

theorem BranchLink.wake_kept (l : BranchLink) :
    l.wake.rx = l.rx ∧ l.wake.state = l.state ∧ l.wake.supervision = l.supervision := by
  unfold BranchLink.wake; split
  · exact l.choose_kept
  · exact ⟨rfl, rfl, rfl⟩

theorem BranchLink.enqueue_reports (l : BranchLink) (r : Report) : (l.enqueue r).reports.length ≤ max 32 l.reports.length := by
  unfold BranchLink.enqueue
  split
  · rename_i h
    cases hd : l.reports.drop 1 with
    | nil => simp
    | cons o rest =>
      have hl := congrArg List.length hd
      simp at hl h ⊢; omega
  · rename_i h; simp at h ⊢; omega

theorem BranchLink.enqueue_kept (l : BranchLink) (r : Report) :
    (l.enqueue r).rx = l.rx ∧ (l.enqueue r).state = l.state ∧ (l.enqueue r).supervision = l.supervision
      ∧ (l.enqueue r).answers = l.answers ∧ (l.enqueue r).tx = l.tx := by
  unfold BranchLink.enqueue
  split
  · split <;> exact ⟨rfl, rfl, rfl, rfl, rfl⟩
  · exact ⟨rfl, rfl, rfl, rfl, rfl⟩

theorem queueReport_calm (s : State) (b : ReportBody) : Calm s (s.queueReport b) := by
  have hw := BranchLink.wake_kept (s.link.enqueue { time := s.time, gap := false, body := b })
  have he := BranchLink.enqueue_kept s.link { time := s.time, gap := false, body := b }
  exact
    { linkRx := hw.1.trans he.1
      linkState := hw.2.1.trans he.2.1
      supervision := hw.2.2.trans he.2.2.1
      answers := by
        refine (BranchLink.wake_answers _).trans ?_
        rw [he.2.2.2.1]
      reports := (BranchLink.wake_reports _).trans (BranchLink.enqueue_reports _ _)
      held := fun hx => by
        have e : (s.queueReport b).link = s.link.enqueue { time := s.time, gap := false, body := b } := by
          simp only [State.queueReport, State.setLink, BranchLink.wake, he.2.2.2.2, if_neg hx]
        rw [e]; exact ⟨he.2.2.2.2, he.2.2.2.1⟩ }

theorem KioskPort.choose_kept (k : KioskPort) :
    k.choose.rx = k.rx ∧ k.choose.notices.length ≤ k.notices.length := by
  unfold KioskPort.choose; split
  · exact ⟨rfl, Nat.le_refl _⟩
  · split
    · rename_i h; exact ⟨rfl, by simp [h]⟩
    · exact ⟨rfl, Nat.le_refl _⟩

theorem KioskPort.wake_kept (k : KioskPort) : k.wake.rx = k.rx ∧ k.wake.notices.length ≤ k.notices.length := by
  unfold KioskPort.wake; split
  · exact k.choose_kept
  · exact ⟨rfl, Nat.le_refl _⟩

theorem KioskPort.enqueue_kept (k : KioskPort) (n : Notice) :
    (k.enqueue n).rx = k.rx ∧ (k.enqueue n).notices.length ≤ max 4 k.notices.length := by
  unfold KioskPort.enqueue
  split
  · rename_i h; exact ⟨rfl, by simp at h ⊢; omega⟩
  · rename_i h; exact ⟨rfl, by simp at h ⊢; omega⟩

theorem KioskPort.enqueue_tx (k : KioskPort) (n : Notice) :
    (k.enqueue n).tx = k.tx ∧ (k.enqueue n).answer = k.answer := by
  unfold KioskPort.enqueue; split <;> exact ⟨rfl, rfl⟩

theorem placeNotice_calm (s : State) (b : Nat) (e : NoticeEvent) : Calm s (s.placeNotice b e) := by
  unfold State.placeNotice
  refine Calm.ite _ (fun _ => ?_) fun _ => Calm.refl s
  have he := KioskPort.enqueue_kept s.kiosk { booking := b, event := e }
  have hw := KioskPort.wake_kept (s.kiosk.enqueue { booking := b, event := e })
  exact
    { enabled := by simp [KioskPort.wake_enabled, KioskPort.enqueue_enabled]
      kioskRx := hw.1.trans he.1
      notices := hw.2.trans he.2
      kioskHeld := fun hx => by
        have ht := KioskPort.enqueue_tx s.kiosk { booking := b, event := e }
        simp only [State.setKiosk, KioskPort.wake, ht.1, if_neg hx, ht.2, and_self] }

theorem noticeFor_calm (s : State) (src : Option Source) (b : Nat) (e : NoticeEvent) : Calm s (s.noticeFor src b e) := by
  unfold State.noticeFor
  exact Calm.ite _ (fun _ => placeNotice_calm _ _ _) fun _ => Calm.refl s

theorem wantLamps_calm (s : State) (m : ModIx) : Calm s (s.wantLamps m) := by
  unfold State.wantLamps
  exact Calm.ite _ (fun _ => putUnit_calm_same _ _ _ rfl) fun _ => Calm.refl s

theorem relamp_calm (s : State) (n : SlotNo) : Calm s (s.relamp n) := by
  unfold State.relamp
  exact Calm.ite _ (fun _ => Calm.refl s) fun _ => (putSlot_calm _ _ _).trans (wantLamps_calm _ _)

theorem modSlot_calm (s : State) (n : SlotNo) (f : SlotRec → SlotRec) : Calm s (s.modSlot n f) := putSlot_calm _ _ _

theorem modSlotLamp_calm (s : State) (n : SlotNo) (f : SlotRec → SlotRec) : Calm s (s.modSlotLamp n f) :=
  (modSlot_calm _ _ _).trans (relamp_calm _ _)

theorem relampAll_calm (s : State) (ns : List SlotNo) : Calm s (s.relampAll ns) := foldl_calm _ relamp_calm _ _

theorem setPhase_calm (s : State) (c : ChanNo) (x : Channel) : Calm s (s.setPhase c x) := by
  unfold State.setPhase; split
  · exact (putChan_calm _ _ _).trans (relamp_calm _ _)
  · exact putChan_calm _ _ _

/-! ### Alerts -/

theorem setAlert_calm (s : State) (x : Subject) (f : AlertFields) : Calm s (s.setAlert x f) := by
  cases x with
  | cabinet c => exact putCond_calm _ _ _
  | module u => exact putUnit_calm_same _ _ _ rfl
  | slot n => exact modSlotLamp_calm _ _ _
  | key t => exact mapEntry_calm _ _ _
  | booking b => exact mapBooking_calm _ _ _
  | bin d => exact mapDrop_calm _ _ _ fun _ => rfl

theorem putAlertList_calm (s : State) (l : List AlertRec) (h : l.length ≤ max 8 s.alerts.list.length) :
    Calm s (s.putAlertList l) := { lines := Or.inr rfl, list := h }

theorem reportCleared_calm (s : State) (x : Subject) (c : AlertClass) (w : ClearReason) (b : Bool) :
    Calm s (s.reportCleared x c w b) := queueReport_calm _ _

theorem reportReplaced_calm (s : State) (x : Subject) (o : Option AlertClass) (w : Bool) : Calm s (s.reportReplaced x o w) := by
  unfold State.reportReplaced; split
  · exact reportCleared_calm _ _ _ _ _
  · exact Calm.refl s

theorem setAlert_alerts (s : State) (x : Subject) (f : AlertFields) : (s.setAlert x f).alerts = s.alerts := by
  cases x with
  | slot n =>
    simp only [State.setAlert, State.modSlotLamp, State.relamp]
    split
    · rfl
    · unfold State.wantLamps; split <;> rfl
  | _ => rfl

theorem replaceListed_calm (s : State) (x : Subject) (f : AlertFields) (o c : AlertClass) :
    Calm s (s.replaceListed x f o c) :=
  (setAlert_calm _ _ _).trans ((putAlertList_calm _ _ (by rw [setAlert_alerts]; simp)).trans
    ((reportReplaced_calm _ _ _ _).trans (queueReport_calm _ _)))

theorem appendRecord_calm (s : State) (x : Subject) (f : AlertFields) (c : AlertClass) (t : Option Nat)
    (h : s.alerts.list.length < 8) : Calm s (s.appendRecord x f c t) :=
  (setAlert_calm _ _ _).trans (putAlertList_calm _ _ (by simp; omega))

theorem raiseAlert_calm (s : State) (x : Subject) (c : AlertClass) : Calm s (s.raiseAlert x c) := by
  unfold State.raiseAlert
  split
  · exact Calm.refl s
  · refine Calm.ite _ (fun _ => Calm.refl s) fun _ => Calm.ite _ (fun _ => Calm.refl s) fun _ => ?_
    split
    · exact replaceListed_calm _ _ _ _ _
    · refine Calm.ite _ (fun _ => ?_) fun _ => Calm.ite _ (fun h => ?_) fun _ => ?_
      · exact (setAlert_calm _ _ _).trans ((reportReplaced_calm _ _ _ _).trans (queueReport_calm _ _))
      · exact (appendRecord_calm _ _ _ _ _ h).trans (queueReport_calm _ _)
      · exact (setAlert_calm _ _ _).trans (queueReport_calm _ _)

theorem promote_calm (s : State) (w : Waiter) : Calm s (s.promote w) := by
  unfold State.promote; split
  · exact Calm.ite _ (fun h => appendRecord_calm _ _ _ _ _ h) fun _ => Calm.refl s
  · exact Calm.refl s

theorem afterLeaving_calm (s : State) (x : Subject) (c : AlertClass) (w : ClearReason) : Calm s (s.afterLeaving x c w) := by
  unfold State.afterLeaving; split
  · exact reportCleared_calm _ _ _ _ _
  · exact (promote_calm _ _).trans ((reportCleared_calm _ _ _ _ _).trans (queueReport_calm _ _))

theorem leaveList_calm (s : State) (x : Subject) (f : AlertFields) (a : Option AlertClass) (c : AlertClass)
    (w : ClearReason) : Calm s (s.leaveList x f a c w) :=
  (setAlert_calm _ _ _).trans ((putAlertList_calm _ _ (by
    rw [setAlert_alerts]; exact (List.length_filter_le _ _).trans (Nat.le_max_right _ _))).trans (afterLeaving_calm _ _ _ _))

theorem clearMark_calm (s : State) (x : Subject) (f : AlertFields) (a : Option AlertClass) (c : AlertClass)
    (w : ClearReason) : Calm s (s.clearMark x f a c w) := (setAlert_calm _ _ _).trans (reportCleared_calm _ _ _ _ _)

theorem withdrawAlert_calm (s : State) (x : Subject) (cs : List AlertClass) : Calm s (s.withdrawAlert x cs) := by
  have only (f : AlertFields) (a : Option AlertClass) :
      Calm s (if a = f.acked then s else s.setAlert x { f with acked := a }) :=
    Calm.ite _ (fun _ => Calm.refl s) fun _ => setAlert_calm _ _ _
  unfold State.withdrawAlert
  split
  · exact Calm.refl s
  · dsimp only
    split
    · exact Calm.ite _ (fun _ => leaveList_calm _ _ _ _ _ _) fun _ => only _ _
    · split
      · exact Calm.ite _ (fun _ => clearMark_calm _ _ _ _ _ _) fun _ => only _ _
      · exact only _ _

theorem ackAlert_calm (s : State) (x : Subject) (c : AlertClass) (t : State) (h : s.ackAlert x = some (c, t)) : Calm s t := by
  unfold State.ackAlert at h
  split at h
  · cases h
  · split at h
    · cases h; exact leaveList_calm _ _ _ _ _ _
    · split at h
      · split at h
        · cases h; exact clearMark_calm _ _ _ _ _ _
        · cases h
      · cases h

theorem beginCond_calm (s : State) (c : Condition) : Calm s (s.beginCond c) := (putCond_calm _ _ _).trans (raiseAlert_calm _ _ _)

theorem endCond_calm (s : State) (c : Condition) : Calm s (s.endCond c) := (putCond_calm _ _ _).trans (withdrawAlert_calm _ _ _)

theorem judgeCond_calm (s : State) (c : Condition) (w : Bool) : Calm s (s.judgeCond c w) := by
  unfold State.judgeCond
  exact Calm.ite _ (fun _ => Calm.refl s) fun _ => Calm.ite _ (fun _ => beginCond_calm _ _) fun _ => endCond_calm _ _

theorem judgePanel_calm (s : State) : Calm s s.judgePanel := judgeCond_calm _ _ _
theorem judgeNearFull_calm (s : State) : Calm s s.judgeNearFull := judgeCond_calm _ _ _
theorem judgeChuteLocked_calm (s : State) : Calm s s.judgeChuteLocked := judgeCond_calm _ _ _

/-! ### The Due Watch -/

theorem dueRemove_calm (s : State) (n : Nat) : Calm s (s.dueRemove n) := setDueList_calm _ _

theorem duePlace_calm (s : State) (n : Nat) (d : Option Nat) : Calm s (s.duePlace n d) := by
  unfold State.duePlace; split
  · exact setDueList_calm _ _
  · exact dueRemove_calm _ _

theorem setStage_calm (s : State) (n : Nat) (st : Stage) : Calm s (s.setStage n st) := mapBooking_calm _ _ _

theorem raiseStage_calm (s : State) (n : Nat) (st : Stage) : Calm s (s.raiseStage n st) := by
  unfold State.raiseStage; split
  · exact raiseAlert_calm _ _ _
  · exact Calm.refl s

theorem withdrawStage_calm (s : State) (n : Nat) : Calm s (s.withdrawStage n) := withdrawAlert_calm _ _ _

theorem toStage_calm (s : State) (b : Booking) (st : Stage) : Calm s (s.toStage b st) :=
  (setStage_calm _ _ _).trans ((raiseStage_calm _ _ _).trans (duePlace_calm _ _ _))

theorem dueStart_calm (s : State) (n : Nat) : Calm s (s.dueStart n) := by
  unfold State.dueStart; split
  · exact toStage_calm _ _ _
  · exact Calm.refl s

theorem advance_calm (t fuel : Nat) (s : State) (k : Nat) : Calm s (State.advance t fuel s k).1 := by
  induction fuel generalizing s k with
  | zero => exact Calm.refl s
  | succ fuel ih =>
    unfold State.advance
    split
    · exact Calm.refl s
    · split
      · split
        · exact (toStage_calm _ _ _).trans (ih _ _)
        · exact (dueRemove_calm _ _).trans (ih _ _)
      · exact Calm.refl s

theorem takeDeadlines_calm (s : State) : Calm s s.takeDeadlines := by
  unfold State.takeDeadlines; split
  · exact advance_calm _ _ _ _
  · exact Calm.refl s

theorem dueAmend_calm (s : State) (n : Nat) : Calm s (s.dueAmend n) := by
  unfold State.dueAmend
  split
  · refine Calm.trans ?_ (duePlace_calm _ _ _)
    exact Calm.ite _ (fun _ => (setStage_calm _ _ _).trans (raiseStage_calm _ _ _)) fun _ =>
      Calm.ite _ (fun _ => (setStage_calm _ _ _).trans ((withdrawStage_calm _ _).trans (raiseStage_calm _ _ _))) fun _ =>
        Calm.refl s
  · exact Calm.refl s

theorem dueReturn_calm (s : State) (n : Nat) : Calm s (s.dueReturn n) := (dueRemove_calm _ _).trans (withdrawStage_calm _ _)

/-! ### Bookings and the session -/

theorem clearLastRelease_calm (s : State) (n : Nat) : Calm s (s.clearLastRelease n) :=
  foldl_calm _ (fun _ _ => modSlot_calm _ _ _) _ _

theorem leftLoaded_calm (s : State) (n : Nat) : Calm s (s.leftLoaded n) :=
  (clearLastRelease_calm _ _).trans (withdrawAlert_calm _ _ _)

theorem toReleasing_calm (s : State) (n : Nat) (x : Source) : Calm s (s.toReleasing n x) :=
  (mapBooking_calm _ _ _).trans (leftLoaded_calm _ _)

theorem toLoaded_calm (s : State) (n : Nat) : Calm s (s.toLoaded n) := mapBooking_calm _ _ _

theorem toOut_calm (s : State) (n : Nat) : Calm s (s.toOut n) := (mapBooking_calm _ _ _).trans (dueStart_calm _ _)

theorem toOutLate_calm (s : State) (n : Nat) : Calm s (s.toOutLate n) :=
  (mapBooking_calm _ _ _).trans ((leftLoaded_calm _ _).trans (dueStart_calm _ _))

theorem toReturned_calm (s : State) (n : Nat) (p : Place) : Calm s (s.toReturned n p) := mapBooking_calm _ _ _

theorem toCancelled_calm (s : State) (n : Nat) : Calm s (s.toCancelled n) :=
  (mapBooking_calm _ _ _).trans (leftLoaded_calm _ _)

theorem setMissing_calm (s : State) (t : Nat) : Calm s (s.setMissing t) := by
  unfold State.setMissing
  exact Calm.ite _ (fun _ => (mapEntry_calm _ _ _).trans (raiseAlert_calm _ _ _)) fun _ => Calm.refl s

theorem clearMissing_calm (s : State) (t : Nat) : Calm s (s.clearMissing t) := by
  unfold State.clearMissing
  exact Calm.ite _ (fun _ => (mapEntry_calm _ _ _).trans (withdrawAlert_calm _ _ _)) fun _ => Calm.refl s

theorem strikeRemoval_calm (s : State) (t : Nat) : Calm s (s.strikeRemoval t) := by
  unfold State.strikeRemoval
  exact Calm.ite _ (fun _ => setSession_calm _ _ ((List.length_filter_le _ _).trans (Nat.le_max_right _ _))) fun _ =>
    Calm.refl s

theorem noteRemoval_calm (s t : State) (g : Option Nat) (n : SlotNo) (h : s.noteRemoval g n = some t) : Calm s t := by
  unfold State.noteRemoval at h
  split at h
  · rename_i hl; cases h; exact setSession_calm _ _ (by simp at hl ⊢; omega)
  · cases h

/-! ### The Release Unit -/

theorem addLatch_calm (s : State) (n : SlotNo) (d : LatchDir) (c : Option ChanNo) : Calm s (s.addLatch n d c) := by
  unfold State.addLatch
  exact Calm.ite _ (fun _ => setBus_calm _ _ fun _ h => h) fun _ => Calm.refl s

theorem withdrawLatch_calm (s : State) (c : ChanNo) (d : LatchDir) : Calm s (s.withdrawLatch c d) :=
  setBus_calm _ _ fun _ h => h

theorem closeForOpen_calm (s : State) (n : SlotNo) (c : ChanNo) : Calm s (s.closeForOpen n c) := by
  unfold State.closeForOpen
  exact Calm.ite _ (fun _ => setBus_calm _ _ fun _ h => h) fun _ => addLatch_calm _ _ _ _

theorem quarantine_calm (s : State) (n : SlotNo) (k : Option FaultKind) : Calm s (s.quarantine n k) := by
  unfold State.quarantine
  exact Calm.ite _ (fun _ => modSlotLamp_calm _ _ _) fun _ => (modSlotLamp_calm _ _ _).trans (putUnit_calm_same _ _ _ rfl)

theorem freeChannel_calm (s : State) (c : ChanNo) : Calm s (s.freeChannel c) := by
  unfold State.freeChannel
  split
  · exact Calm.refl s
  · exact Calm.ite _ (fun _ => (putChan_calm _ _ _).trans ((modSlot_calm _ _ _).trans (quarantine_calm _ _ _))) fun _ =>
      (putChan_calm _ _ _).trans (modSlotLamp_calm _ _ _)

theorem abortChannel_calm (s : State) (c : ChanNo) (k : AbortCause) (l : Bool) : Calm s (s.abortChannel c k l) := by
  have ended (n : SlotNo) (b : Nat) (p : ReleasePhase) :
      Calm s (((if l then ((s.freeChannel c).toLoaded b).modSlot n fun r => { r with lastRelease := some b }
          else (s.freeChannel c).toLoaded b).queueReport
        (.releaseAborted (s.relInfo b n) (s.sourceOf b) p k)).noticeFor (s.sourceOf b) b .aborted) := by
    refine Calm.trans ?_ ((queueReport_calm _ _).trans (noticeFor_calm _ _ _ _))
    exact Calm.ite _
      (fun _ => (freeChannel_calm _ _).trans ((toLoaded_calm _ _).trans (modSlot_calm _ _ _))) fun _ =>
      (freeChannel_calm _ _).trans (toLoaded_calm _ _)
  unfold State.abortChannel
  dsimp only
  split
  · exact ended _ _ _
  · exact ended _ _ _
  · exact freeChannel_calm _ _
  · exact Calm.refl s

/-- An entry is taken out of the queue. -/
theorem eraseEntry_calm (s : State) (e : QueueEntry) :
    Calm s (s.setRelease { s.release with queue := s.release.queue.erase e }) :=
  setRelease_calm _ _ ((List.length_erase_le).trans (Nat.le_max_right _ _)) rfl

theorem dequeue_calm (s : State) (e : QueueEntry) : Calm s (s.dequeue e) := (eraseEntry_calm _ _).trans (modSlot_calm _ _ _)

theorem abortEntry_calm (s : State) (e : QueueEntry) (k : AbortCause) : Calm s (s.abortEntry e k) :=
  (dequeue_calm _ _).trans ((toLoaded_calm _ _).trans ((queueReport_calm _ _).trans (noticeFor_calm _ _ _ _)))

theorem grant_calm (s : State) (e : QueueEntry) (c : ChanNo) : Calm s (s.grant e c) :=
  (eraseEntry_calm _ _).trans ((putChan_calm _ _ _).trans ((modSlotLamp_calm _ _ _).trans (addLatch_calm _ _ _ _)))

theorem arbiterTurns_calm (fuel : Nat) (s : State) : Calm s (State.arbiterTurns fuel s) := by
  induction fuel generalizing s with
  | zero => exact Calm.refl s
  | succ fuel ih =>
    unfold State.arbiterTurns
    split
    · exact Calm.refl s
    · split
      · split
        · exact Calm.refl s
        · refine Calm.trans ?_ (ih _)
          exact Calm.ite _ (fun _ => grant_calm _ _ _) fun _ => abortEntry_calm _ _ _
      · exact Calm.refl s

theorem arbiter_calm (s : State) : Calm s s.arbiter := arbiterTurns_calm _ _

theorem enqueueRelease_calm (s : State) (e : QueueEntry) (h : s.release.queue.length < 16) : Calm s (s.enqueueRelease e) := by
  have h1 : Calm s (s.setRelease { s.release with queue := s.release.queue ++ [e] }) :=
    setRelease_calm _ _ (by simp; omega) rfl
  exact h1.trans (modSlot_calm _ _ _)

theorem abortChannels_calm (s : State) (on : SlotNo → Bool) (k : AbortCause) : Calm s (s.abortChannels on k) := by
  refine foldl_calm _ (fun s c => ?_) _ _
  split
  · exact Calm.ite _ (fun _ => abortChannel_calm _ _ _ _) fun _ => Calm.refl s
  · exact Calm.refl s

theorem abortEntries_calm (s : State) (on : SlotNo → Bool) (k : AbortCause) : Calm s (s.abortEntries on k) :=
  foldl_calm _ (fun s e => abortEntry_calm s e k) _ _

theorem take_calm (s : State) (c : ChanNo) (n : SlotNo) (b : Nat) (close : State → State) (h : ∀ s, Calm s (close s)) :
    Calm s (s.take c n b close) :=
  (setPhase_calm _ _ _).trans ((toOut_calm _ _).trans ((h _).trans
    ((queueReport_calm _ _).trans (noticeFor_calm _ _ _ _))))

theorem expireWindow_calm (s : State) (c : ChanNo) (n : SlotNo) (b : Nat) : Calm s (s.expireWindow c n b) :=
  (setPhase_calm _ _ _).trans ((toLoaded_calm _ _).trans ((modSlot_calm _ _ _).trans ((raiseAlert_calm _ _ _).trans
    ((addLatch_calm _ _ _ _).trans ((queueReport_calm _ _).trans (noticeFor_calm _ _ _ _))))))

theorem abortCustody_calm (s : State) (b k : Nat) : Calm s (s.abortCustody b k) := by
  unfold State.abortCustody
  dsimp only
  split
  · exact abortEntry_calm _ _ _
  · exact Calm.refl s

theorem lateTake_calm (s : State) (n : SlotNo) (b k : Nat) (r : Bool) : Calm s (s.lateTake n b k r) :=
  (abortCustody_calm _ _ _).trans ((toOutLate_calm _ _).trans (queueReport_calm _ _))

theorem reportWithdrawn_calm (s : State) (i : RelInfo) (x : Option Source) (p : ReleasePhase) :
    Calm s (s.reportWithdrawn i x p) := (queueReport_calm _ _).trans (noticeFor_calm _ _ _ _)

theorem cancelQueued_calm (s : State) (e : QueueEntry) : Calm s (s.cancelQueued e) :=
  (dequeue_calm _ _).trans ((toCancelled_calm _ _).trans (reportWithdrawn_calm _ _ _ _))

theorem cancelChannel_calm (s : State) (c : ChanNo) : Calm s (s.cancelChannel c) := by
  have close (s : State) (n : SlotNo) (b : Nat) :
      Calm s (((s.withdrawLatch c .openIt).setPhase c (.closing n b .withdrawn)).addLatch n .closeIt (some c)) :=
    (withdrawLatch_calm _ _ _).trans ((setPhase_calm _ _ _).trans (addLatch_calm _ _ _ _))
  unfold State.cancelChannel
  dsimp only
  split
  · refine Calm.trans ?_ ((toCancelled_calm _ _).trans (reportWithdrawn_calm _ _ _ _))
    exact Calm.ite _ (fun _ => close _ _ _) fun _ => (withdrawLatch_calm _ _ _).trans (freeChannel_calm _ _)
  · exact (close _ _ _).trans ((toCancelled_calm _ _).trans (reportWithdrawn_calm _ _ _ _))
  · exact Calm.refl s

theorem reportFault_calm (s : State) (n : SlotNo) (b : Option Nat) (k : FaultKind) (l : Option (Nat × LatchDir)) :
    Calm s (s.reportFault n b k l) := queueReport_calm _ _

theorem latchFault_calm (s : State) (n : SlotNo) (b : Option Nat) (k : FaultKind) (t : Nat) (d : LatchDir) :
    Calm s (s.latchFault n b k t d) := (quarantine_calm _ _ _).trans ((reportFault_calm _ _ _ _ _).trans (raiseAlert_calm _ _ _))

theorem slowOpen_calm (s : State) (n : SlotNo) (b : Option Nat) (t : Nat) : Calm s (s.slowOpen n b t) := by
  unfold State.slowOpen
  dsimp only
  refine Calm.ite _ (fun _ => ?_) fun _ => ?_
  · exact (modSlotLamp_calm _ _ _).trans ((reportFault_calm _ _ _ _ _).trans (raiseAlert_calm _ _ _))
  · exact (modSlotLamp_calm _ _ _).trans (reportFault_calm _ _ _ _ _)

theorem openChannel_calm (s : State) (c : ChanNo) (n : SlotNo) (b t : Nat) : Calm s (s.openChannel c n b t) :=
  (setPhase_calm _ _ _).trans ((queueReport_calm _ _).trans (noticeFor_calm _ _ _ _))

theorem openReplyChannel_calm (s : State) (l : LatchCmd) (k : LatchClass) (t : Nat) : Calm s (s.openReplyChannel l k t) := by
  unfold State.openReplyChannel
  split
  · exact Calm.refl s
  · split
    · exact abortChannel_calm _ _ _ _
    · exact openChannel_calm _ _ _ _ _
    · exact (withdrawLatch_calm _ _ _).trans (freeChannel_calm _ _)
    · exact Calm.refl s

theorem openReply_calm (s : State) (l : LatchCmd) (r : LatchReply) : Calm s (s.openReply l r) := by
  unfold State.openReply
  dsimp only
  split
  · exact openReplyChannel_calm _ _ _ _
  · exact (openReplyChannel_calm _ _ _ _).trans (slowOpen_calm _ _ _ _)
  · exact (openReplyChannel_calm _ _ _ _).trans (latchFault_calm _ _ _ _ _ _)

theorem closeReply_calm (s : State) (l : LatchCmd) (r : LatchReply) : Calm s (s.closeReply l r) := by
  have h1 : Calm s (match s.chanHolds l with
      | some c => match s.chan c with
        | .closing _ _ _ => s.freeChannel c
        | _ => s
      | none => s) := by
    split
    · split
      · exact freeChannel_calm _ _
      · exact Calm.refl s
    · exact Calm.refl s
  unfold State.closeReply
  dsimp only
  split
  · exact h1.trans (latchFault_calm _ _ _ _ _ _)
  · exact h1

theorem shiftWindows_calm (s : State) (o n : Nat) : Calm s (s.shiftWindows o n) :=
  foldl_calm _ (fun _ _ => putChan_calm _ _ _) _ _

/-! ### Units -/

theorem moduleState_calm (s : State) (u : UnitIx) (o : UnitState) : Calm s (s.moduleState u o) := queueReport_calm _ _

theorem startCheck_calm (s : State) : Calm s s.startCheck := by
  have h1 : Calm s (s.setMode { s.mode with startReported := true }) := setMode_calm _ _ rfl
  unfold State.startCheck
  exact Calm.ite _ (fun _ => Calm.refl s) fun _ => h1.trans (queueReport_calm _ _)

theorem markStale_calm (s : State) (u : UnitIx) : Calm s (s.markStale u) := by
  unfold State.markStale
  split
  · rename_i f hf
    exact Calm.ite _ (fun _ => setBus_calm _ _ fun _ h => by rw [hf] at h; cases h) fun _ => Calm.refl s
  · exact Calm.refl s

theorem slotsUnknown_calm (s : State) (m : ModIx) : Calm s (s.slotsUnknown m) :=
  foldl_calm _ (fun _ _ => modSlotLamp_calm _ _ _) _ _

theorem dropCommands_calm (s : State) (u : UnitIx) : Calm s (s.dropCommands u) := by
  have h1 : Calm s (s.setBus { s.bus with latches := s.bus.latches.filter fun l => modUnit (moduleOf l.slot) != u }) :=
    setBus_calm _ _ fun _ h => h
  have h2 (t : State) (r : UnitRec) (h : r = t.unit u) : Calm t (t.putUnit u { r with lampsWanted := false }) :=
    putUnit_calm_same _ _ _ (by rw [h])
  exact h1.trans (h2 _ _ rfl)

theorem leaveOnline_calm (s : State) (u : UnitIx) (new : UnitState) (h : new ≠ .online) : Calm s (s.leaveOnline u new) := by
  have h1 : Calm s (((s.putUnit u { s.unit u with state := new }).dropCommands u).markStale u) :=
    (putUnit_calm_off _ _ _ h).trans ((dropCommands_calm _ _).trans (markStale_calm _ _))
  unfold State.leaveOnline
  dsimp only
  split
  · exact h1
  · exact h1.trans ((slotsUnknown_calm _ _).trans ((abortChannels_calm _ _ _).trans (abortEntries_calm _ _ _)))

theorem retire_calm (s : State) (m : ModIx) : Calm s (s.retire m) := by
  unfold State.retire
  dsimp only
  split
  · exact (leaveOnline_calm _ _ _ (by decide)).trans (moduleState_calm _ _ _)
  · exact (markStale_calm _ _).trans ((putUnit_calm_off _ _ _ (by simp)).trans
      ((moduleState_calm _ _ _).trans (startCheck_calm _)))
  · exact (putUnit_calm_off _ _ _ (by simp)).trans (moduleState_calm _ _ _)
  · exact putUnit_calm_same _ _ _ rfl
  · exact Calm.refl s

theorem retireIfRisen_calm (s : State) (m : ModIx) (k : Nat) : Calm s (s.retireIfRisen m k) := by
  unfold State.retireIfRisen
  exact Calm.ite _ (fun _ => retire_calm _ _) fun _ => Calm.refl s

theorem recover_calm (s : State) (u : UnitIx) : Calm s (s.recover u) := by
  have h1 : Calm s (((((s.putUnit u { s.unit u with retry := some 2, resync := false, misses := Config.missLimit }).leaveOnline u
      .recovery).raiseAlert (.module u) .moduleLost)).moduleState u .online) :=
    Calm.trans (t := s.putUnit u { s.unit u with retry := some 2, resync := false, misses := Config.missLimit })
      (putUnit_calm_same _ _ _ rfl)
      ((leaveOnline_calm _ _ _ (by decide)).trans ((raiseAlert_calm _ _ _).trans (moduleState_calm _ _ _)))
  unfold State.recover
  dsimp only
  split
  · exact h1.trans ((retireIfRisen_calm _ _ _).trans (arbiter_calm _))
  · exact h1

theorem UnitRec.darken_online (r : UnitRec) : r.darken.state ≠ .online := by
  unfold UnitRec.darken; cases h : r.state <;> simp [h]

theorem darkenUnit_calm (s : State) (u : UnitIx) : Calm s (s.darkenUnit u) := by
  unfold State.darkenUnit
  dsimp only
  split
  · exact Calm.ite _ (fun _ => (putUnit_calm_off _ _ _ (UnitRec.darken_online _)).trans (slotsUnknown_calm _ _)) fun _ =>
      putUnit_calm_off _ _ _ (UnitRec.darken_online _)
  · exact putUnit_calm_off _ _ _ (UnitRec.darken_online _)

theorem unitsDark_calm (s : State) : Calm s s.unitsDark :=
  (setBus_calm _ _ fun _ _ => rfl).trans ((foldl_calm _ darkenUnit_calm _ _).trans (setChute_calm _ _))

theorem lightUnit_calm (s : State) (u : UnitIx) : Calm s (s.lightUnit u) := by
  unfold State.lightUnit
  dsimp only
  split
  · exact Calm.ite _
      (fun _ => (putUnit_calm_off _ _ _ (by simp)).trans ((moduleState_calm _ _ _).trans (startCheck_calm _))) fun _ =>
      putUnit_calm_off _ _ _ (by simp)
  · exact Calm.refl s

theorem unitsLight_calm (s : State) : Calm s s.unitsLight := foldl_calm _ lightUnit_calm _ _

end Sys2Proof.Machine
end

