-- ==== Sys2Proof/Laws/CalmEvents.lean ====
section
/-! SUPPORT. `Calm` for the events of the Intake Unit, the Slot Table, the Slot Bus, Cabinet Mode Control and the owners of the
requests, and what the two steps around a frame do. -/

namespace Sys2Proof.Machine

/-! ### Intake Unit -/

theorem judgeFlap_calm (s : State) : Calm s s.judgeFlap := by
  unfold State.judgeFlap
  exact Calm.ite _ (fun _ => Calm.refl s) fun _ => (setChute_calm _ _).trans (judgeChuteLocked_calm _)

theorem confirmFlap_calm (s : State) (p : FlapPos) (b : Bool) : Calm s (s.confirmFlap p b) :=
  (setChute_calm _ _).trans (judgeChuteLocked_calm _)

theorem binFilter_calm (s : State) (p : DropEntry → Bool) :
    Calm s (s.setBin { s.bin with entries := s.bin.entries.filter p }) := by
  refine setBin_calm _ _ ((List.length_filter_le _ _).trans (Nat.le_max_right _ _)) ?_
  have h : ((s.bin.entries.filter p).filter fun e => e.state == .inBin).length ≤ s.inBinCount := by
    unfold State.inBinCount
    exact ((List.filter_sublist).filter _).length_le
  exact h.trans (Nat.le_max_right _ _)

theorem binLeave_calm (s : State) (e : DropEntry) : Calm s (s.binLeave e) := by
  have h1 := (withdrawAlert_calm s (.bin e.number) [.unslottedKey]).trans
    (binFilter_calm (s.withdrawAlert (.bin e.number) [.unslottedKey]) fun x => x.number != e.number)
  unfold State.binLeave
  dsimp only
  refine Calm.trans ?_ (judgeFlap_calm _)
  exact Calm.ite _ (fun _ => h1.trans (judgeNearFull_calm _)) fun _ => h1

theorem reslot_calm (s : State) (n : SlotNo) (t : Nat) : Calm s (s.reslot n t) := by
  unfold State.reslot
  split
  · exact (binLeave_calm _ _).trans (queueReport_calm _ _)
  · exact Calm.refl s

theorem reportReturn_calm (s : State) (b : Booking) (p : Place) (m : Bool) : Calm s (s.reportReturn b p m) :=
  queueReport_calm _ _

theorem returnAtSlot_calm (s : State) (b : Booking) (n : SlotNo) (m : Bool) : Calm s (s.returnAtSlot b n m) :=
  (toReturned_calm _ _ _).trans ((reportReturn_calm _ _ _ _).trans (dueReturn_calm _ _))

theorem reportPlaced_calm (s : State) (n : SlotNo) (t : Option Nat) (m d : Bool) : Calm s (s.reportPlaced n t m d) :=
  queueReport_calm _ _

theorem handOn_calm (s : State) (n : SlotNo) (t : Option Nat) (d : Bool) : Calm s (s.handOn n t d) := by
  unfold State.handOn
  dsimp only
  split
  · exact reportPlaced_calm _ _ _ _ _
  · rename_i t
    refine (reslot_calm s n t).trans (Calm.trans ?_ (strikeRemoval_calm _ _))
    split
    · exact returnAtSlot_calm _ _ _ _
    · exact reportPlaced_calm _ _ _ _ _

theorem clearLastSeen_calm (s : State) (t : Nat) (b : Option SlotNo) : Calm s (s.clearLastSeen t b) :=
  foldl_calm _ (fun _ _ => modSlotLamp_calm _ _ _) _ _

theorem dropUnrecorded_calm (s : State) (t : Option Nat) : Calm s (s.dropUnrecorded t) := queueReport_calm _ _

theorem addDrop_calm (s : State) (d : Nat) (t : Option Nat) (f : Bool) (h : s.bin.entries.length < 64)
    (hi : s.inBinCount < 48) : Calm s (s.addDrop d t f) := by
  have h1 : Calm s (s.setBin
      { entries := s.bin.entries ++
          [{ number := d, tag := t, foreign := f, state := .inBin, dropped := s.time, handed := none, age := 0
             unslotted := false, booking := none, alert := .clear }]
        nextDrop := (d + 1) % 65536 }) := by
    refine setBin_calm _ _ (by simp; omega) ?_
    unfold State.inBinCount at hi ⊢
    simp [List.filter_append]; omega
  unfold State.addDrop
  dsimp only
  split
  · exact h1.trans (clearLastSeen_calm _ _ _)
  · exact h1

theorem closeByDrop_calm (s : State) (d : Nat) (b : Option Booking) : Calm s (s.closeByDrop d b) := by
  unfold State.closeByDrop
  split
  · exact (toReturned_calm _ _ _).trans (mapDrop_calm _ _ _ fun _ => rfl)
  · exact Calm.refl s

theorem reportDropReturn_calm (s : State) (d : Nat) (b : Option Booking) : Calm s (s.reportDropReturn d b) := by
  unfold State.reportDropReturn
  split
  · exact (reportReturn_calm _ _ _ _).trans (dueReturn_calm _ _)
  · exact Calm.refl s

theorem dropRecorded_calm (s : State) (t : Option Nat) (h : s.bin.entries.length < 64) (hi : s.inBinCount < 48) :
    Calm s (s.dropRecorded t) := by
  have clear (s : State) : Calm s (match t with
      | some t => s.clearMissing t
      | none => s) := by
    split
    · exact clearMissing_calm _ _
    · exact Calm.refl s
  have strike (s : State) (k : Option Nat) : Calm s (match k with
      | some t => s.strikeRemoval t
      | none => s) := by
    split
    · exact strikeRemoval_calm _ _
    · exact Calm.refl s
  unfold State.dropRecorded
  dsimp only
  exact (addDrop_calm _ _ _ _ h hi).trans ((clear _).trans ((closeByDrop_calm _ _ _).trans ((strike _ _).trans
    ((queueReport_calm _ _).trans ((reportDropReturn_calm _ _ _).trans ((judgeNearFull_calm _).trans (judgeFlap_calm _)))))))

theorem drop_calm (s : State) (t : Option Nat) : Calm s (s.drop t) := by
  unfold State.drop
  refine Calm.ite _ (fun _ => dropUnrecorded_calm _ _) fun h => ?_
  rw [not_or] at h
  exact dropRecorded_calm _ _ (Nat.lt_of_not_le h.1) (Nat.lt_of_not_le h.2)

theorem handAll_calm (s : State) :
    Calm s (s.setBin { s.bin with entries := s.bin.entries.map fun e => e.hand s.time }) := by
  refine setBin_calm _ _ (by simp) ?_
  have h : ((s.bin.entries.map fun e => e.hand s.time).filter fun e => e.state == .inBin) = [] := by
    rw [List.filter_eq_nil_iff]
    intro e he
    rw [List.mem_map] at he
    obtain ⟨a, _, rfl⟩ := he
    unfold DropEntry.hand
    split
    · simp
    · simp_all
  simp [h]

theorem hatchOpened_calm (s : State) : Calm s s.hatchOpened :=
  (handAll_calm s).trans ((judgeNearFull_calm _).trans ((judgeFlap_calm _).trans (queueReport_calm _ _)))

theorem seeHatch_calm (s : State) (b : Bool) : Calm s (s.seeHatch b) := by
  unfold State.seeHatch
  refine Calm.ite _ (fun _ => Calm.refl s) fun _ => ?_
  dsimp only
  exact Calm.ite _ (fun _ => (setChute_calm _ _).trans (hatchOpened_calm _)) fun _ => setChute_calm _ _

theorem markUnslotted_calm (s : State) : Calm s s.markUnslotted :=
  foldl_calm _ (fun s (e : DropEntry) =>
    (mapDrop_calm s e.number (fun x => { x with unslotted := true }) fun _ => rfl).trans (raiseAlert_calm _ _ _)) _ _

/-! ### Slot events -/

theorem chatterFault_calm (s : State) (n : SlotNo) : Calm s (s.chatterFault n) := by
  unfold State.chatterFault
  dsimp only
  refine Calm.trans ?_ (retireIfRisen_calm _ _ _)
  have h1 := (quarantine_calm s n (some .sensorChatter)).trans
    ((reportFault_calm _ n none .sensorChatter none).trans (raiseAlert_calm _ (.slot n) .slotFault))
  split
  · exact h1.trans (abortEntry_calm _ _ _)
  · exact h1

theorem countChange_calm (s : State) (n : SlotNo) : Calm s (s.countChange n) := by
  unfold State.countChange
  split
  · exact Calm.refl s
  · refine Calm.ite _ (fun _ => Calm.refl s) fun _ => ?_
    dsimp only
    exact Calm.ite _ (fun _ => (modSlot_calm _ _ _).trans (chatterFault_calm _ _)) fun _ => modSlot_calm _ _ _

theorem forced_calm (s : State) (n : SlotNo) (t : Option Nat) : Calm s (s.forced n t) := by
  unfold State.forced
  split
  · exact (setMissing_calm _ _).trans (queueReport_calm _ _)
  · exact queueReport_calm _ _

theorem classify_calm (s : State) (n : SlotNo) (t : Option Nat) (l : Option Bool) : Calm s (s.classify n t l) := by
  unfold State.classify
  dsimp only
  split
  · exact lateTake_calm _ _ _ _ _
  · refine Calm.ite _ (fun _ => ?_) fun _ => forced_calm _ _ _
    split
    · rename_i h; exact noteRemoval_calm _ _ _ _ h
    · exact forced_calm _ _ _

theorem emptySlot_calm (s : State) (n : SlotNo) : Calm s (s.emptySlot n) :=
  (modSlotLamp_calm _ _ _).trans (withdrawAlert_calm _ _ _)

theorem removalOnChannel_calm (s : State) (c : ChanNo) (n : SlotNo) (l : Option Bool) (back : State → State)
    (h : ∀ s, Calm s (back s)) : Calm s (s.removalOnChannel c n l back) := by
  unfold State.removalOnChannel
  split
  · exact take_calm _ _ _ _ _ fun _ => addLatch_calm _ _ _ _
  · exact Calm.ite _ (fun _ => take_calm _ _ _ _ _ fun _ => closeForOpen_calm _ _ _) fun _ =>
      (withdrawLatch_calm _ _ _).trans ((abortChannel_calm _ _ _ _).trans (h _))
  · exact h s

theorem countUnless_calm (s : State) (b : Bool) (n : SlotNo) : Calm s (s.countUnless b n) := by
  unfold State.countUnless
  exact Calm.ite _ (fun _ => Calm.refl s) fun _ => countChange_calm _ _

theorem removalWith_calm (s : State) (n : SlotNo) (l : Option Bool) (back : State → State) (h : ∀ s, Calm s (back s)) :
    Calm s (s.removalWith n l back) := by
  unfold State.removalWith
  dsimp only
  refine (emptySlot_calm s n).trans (Calm.trans ?_ (countUnless_calm _ _ _))
  split
  · exact removalOnChannel_calm _ _ _ _ _ h
  · exact h _

theorem removal_calm (s : State) (n : SlotNo) (l : Option Bool) : Calm s (s.removal n l) :=
  removalWith_calm _ _ _ _ fun _ => classify_calm _ _ _ _

theorem moveOut_calm (s : State) (n : SlotNo) : Calm s (s.moveOut n) := removalWith_calm _ _ _ _ Calm.refl

theorem raiseOnSlot_calm (s : State) (n : SlotNo) (c : AlertClass) : Calm s (s.raiseOnSlot n c) := by
  unfold State.raiseOnSlot
  exact Calm.ite _ (fun _ => Calm.refl s) fun _ => raiseAlert_calm _ _ _

theorem fillWith_calm (s : State) (n : SlotNo) (o : Occupancy) (t : Option Nat) : Calm s (s.fillWith n o t) :=
  modSlotLamp_calm _ _ _

theorem insertTag_calm (s : State) (n : SlotNo) (t : Nat) : Calm s (s.insertTag n t) := by
  unfold State.insertTag
  refine Calm.ite _ (fun _ => ?_) fun _ => Calm.ite _ (fun _ => ?_) fun _ => ?_
  · exact (fillWith_calm _ _ _ _).trans ((raiseOnSlot_calm _ _ _).trans ((clearMissing_calm _ _).trans (handOn_calm _ _ _ _)))
  · exact (clearLastSeen_calm _ _ _).trans ((fillWith_calm _ _ _ _).trans ((clearMissing_calm _ _).trans (handOn_calm _ _ _ _)))
  · refine (fillWith_calm s n .held (some t)).trans (Calm.trans ?_ ((clearMissing_calm _ _).trans (handOn_calm _ _ _ _)))
    exact Calm.ite _ (fun _ => raiseOnSlot_calm _ _ _) fun _ => Calm.refl _

theorem insertion_calm (s : State) (n : SlotNo) (t : Option Nat) : Calm s (s.insertion n t) := by
  unfold State.insertion
  dsimp only
  refine Calm.trans ?_ (countUnless_calm _ _ _)
  split
  · exact insertTag_calm _ _ _
  · exact (fillWith_calm _ _ _ _).trans (handOn_calm _ _ _ _)

theorem learnTag_calm (s : State) (n : SlotNo) (t : Nat) : Calm s (s.learnTag n t) := by
  unfold State.learnTag
  refine Calm.ite _ (fun _ => Calm.refl s) fun _ => ?_
  refine (modSlotLamp_calm s n fun r => { r with occ := .held, tag := some t }).trans ((clearLastSeen_calm _ t (some n)).trans
    (Calm.trans ?_ ((clearMissing_calm _ _).trans (handOn_calm _ _ _ _))))
  exact Calm.ite _ (fun _ => raiseOnSlot_calm _ _ _) fun _ => Calm.refl _

theorem replaceKey_calm (s : State) (n : SlotNo) (l : Bool) (t : Option Nat) : Calm s (s.replaceKey n l t) := by
  unfold State.replaceKey
  dsimp only
  exact Calm.ite _ (fun _ => (removal_calm _ _ _).trans (insertion_calm _ _ _)) fun _ => removal_calm _ _ _

theorem moduleEntry_calm (s : State) (m : ModIx) (e : ModuleEntry) : Calm s (s.moduleEntry m e) := by
  unfold State.moduleEntry
  dsimp only
  refine Calm.ite _ (fun _ => ?_) fun _ => Calm.refl s
  split
  · exact Calm.refl s
  · exact Calm.refl s
  · exact insertion_calm _ _ _
  · exact insertion_calm _ _ _
  · exact removal_calm _ _ _
  · exact Calm.ite _ (fun _ => Calm.refl s) fun _ => replaceKey_calm _ _ _ _
  · exact replaceKey_calm _ _ _ _
  · exact replaceKey_calm _ _ _ _

theorem chuteEntry_calm (s : State) (e : ChuteEntry) : Calm s (s.chuteEntry e) := by
  unfold State.chuteEntry
  split
  · exact drop_calm _ _
  · exact drop_calm _ _
  · exact seeHatch_calm _ _
  · exact seeHatch_calm _ _

theorem settle_calm (s : State) (n : SlotNo) (o : Occupancy) (t : Option Nat) : Calm s (s.settle n o t) := modSlotLamp_calm _ _ _

theorem fillSlot_calm (s : State) (n : SlotNo) (x : SlotSeen) : Calm s (s.fillSlot n x) := by
  unfold State.fillSlot
  split
  · exact settle_calm _ _ _ _
  · exact settle_calm _ _ _ _
  · exact Calm.ite _ (fun _ => settle_calm _ _ _ _) fun _ => (clearLastSeen_calm _ _ _).trans (settle_calm _ _ _ _)

theorem fill_calm (s : State) (m : ModIx) (st : List SlotStatus) : Calm s (s.fill m st) :=
  foldl_calm _ (fun _ _ => fillSlot_calm _ _ _) _ _

theorem whileOnline_calm (s : State) (n : SlotNo) (f : State → State) (h : ∀ s, Calm s (f s)) : Calm s (s.whileOnline n f) := by
  unfold State.whileOnline
  exact Calm.ite _ (fun _ => h s) fun _ => Calm.refl s

theorem planOut_calm (s : State) (p : SlotPlan) : Calm s (s.planOut p) :=
  whileOnline_calm _ _ _ fun s => by
    split
    · exact Calm.refl s
    · exact removal_calm _ _ _
    · exact moveOut_calm _ _

theorem planIn_calm (s : State) (p : SlotPlan) : Calm s (s.planIn p) :=
  whileOnline_calm _ _ _ fun s => by
    split
    · exact Calm.refl s
    · exact insertion_calm _ _ _
    · exact learnTag_calm _ _ _

theorem restore_calm (s : State) (n : SlotNo) (x : SlotSeen) : Calm s (s.restore n x) := by
  unfold State.restore
  split
  · exact settle_calm _ _ _ _
  · split
    · exact settle_calm _ _ _ _
    · exact settle_calm _ _ _ _
  · exact Calm.ite _ (fun _ => (settle_calm _ _ _ _).trans (raiseOnSlot_calm _ _ _)) fun _ => settle_calm _ _ _ _

theorem planRestore_calm (s : State) (p : SlotPlan) : Calm s (s.planRestore p) :=
  whileOnline_calm _ _ _ fun s => Calm.ite _ (fun _ => restore_calm _ _ _) fun _ => Calm.refl s

theorem reconcile_calm (s : State) (m : ModIx) (st : List SlotStatus) : Calm s (s.reconcile m st) :=
  (foldl_calm _ planOut_calm _ _).trans ((foldl_calm _ planIn_calm _ _).trans (foldl_calm _ planRestore_calm _ _))

theorem strayClose_calm (s : State) (p : SlotNo × SlotStatus) : Calm s (s.strayClose p) := by
  unfold State.strayClose
  exact Calm.ite _ (fun _ => addLatch_calm _ _ _ _) fun _ => Calm.refl s

theorem strayCloses_calm (s : State) (m : ModIx) (st : List SlotStatus) : Calm s (s.strayCloses m st) :=
  foldl_calm _ strayClose_calm _ _

/-! ### Slot Bus Master -/

theorem taken_calm (s : State) (u : UnitIx) (c : BusCmd) : Calm s (s.taken u c) := by
  cases c with
  | latch l => exact setBus_calm _ _ fun _ h => h
  | lamps _ => exact putUnit_calm_same _ _ _ rfl
  | poll => exact setBus_calm _ _ fun _ h => h
  | _ => exact Calm.refl s

theorem chooseCommand_calm (s : State) : Calm s s.chooseCommand := by
  unfold State.chooseCommand
  refine Calm.ite _ (fun _ => Calm.refl s) fun h => ?_
  have hl : s.mode.level ≠ .lost := by
    intro e; simp [State.hold, e] at h
  split
  · rename_i u c _
    exact (taken_calm s u c).trans (setBus_calm _ _ fun e => absurd ((taken_calm s u c).level ▸ e) hl)
  · exact Calm.refl s

/-- A running part's event is calm when what it runs is; a stopped part's is nothing. -/
theorem event_calm (s : State) (f : State → State) (h : Calm s (f s)) : Calm s (s.event f) := by
  unfold State.event
  exact Calm.ite _ (fun _ => Calm.refl s) fun _ => h.trans (chooseCommand_calm _)

theorem enterOnline_calm (s : State) (u : UnitIx) (c : ProbeCause) (h : s.mode.level ≠ .lost) : Calm s (s.enterOnline u c) := by
  unfold State.enterOnline
  dsimp only
  have h1 := (putUnit_calm_run s u
    { s.unit u with
      state := .online, cause := none, misses := 0, attempts := 0, retry := none, resync := false
      lampsWanted := u != chuteIx } h).trans (withdrawAlert_calm _ (.module u) [.moduleLost])
  exact Calm.ite _ (fun _ => h1.trans (moduleState_calm _ _ _)) fun _ => h1

theorem probeTo_calm (s : State) (u : UnitIx) (st : UnitState) (k : Nat) (h : st ≠ .online) : Calm s (s.probeTo u st k) :=
  putUnit_calm_off _ _ _ h

theorem afterAttempts_online (k : Nat) : afterAttempts k ≠ .online := by
  unfold afterAttempts; split <;> decide

theorem probeFailed_calm (s : State) (u : UnitIx) : Calm s (s.probeFailed u) := by
  unfold State.probeFailed
  dsimp only
  split
  · exact (probeTo_calm _ _ _ _ (by decide)).trans (startCheck_calm _)
  · exact (probeTo_calm _ _ _ _ (by decide)).trans (moduleState_calm _ _ _)
  · exact (probeTo_calm _ _ _ _ (by decide)).trans ((raiseAlert_calm _ _ _).trans (moduleState_calm _ _ _))
  · have h1 := probeTo_calm s u _ ((s.unit u).attempts + 1) (afterAttempts_online ((s.unit u).attempts + 1))
    exact Calm.ite _ (fun _ => h1.trans (moduleState_calm _ _ _)) fun _ => h1
  · have h1 := probeTo_calm s u _ ((s.unit u).attempts + 1) (afterAttempts_online ((s.unit u).attempts + 1))
    refine Calm.trans ?_ (moduleState_calm _ _ _)
    exact Calm.ite _ (fun _ => h1) fun _ => h1.trans (raiseAlert_calm _ _ _)
  · exact Calm.refl s

theorem missEffect_calm (s : State) (u : UnitIx) (c : BusCmd) : Calm s (s.missEffect u c) := by
  cases c with
  | poll => exact putUnit_calm_same _ _ _ rfl
  | latch l => exact setBus_calm _ _ fun _ h => h
  | lamps _ => exact putUnit_calm_same _ _ _ rfl
  | _ => exact Calm.refl s

theorem missOnline_calm (s : State) (u : UnitIx) (c : BusCmd) : Calm s (s.missOnline u c) := by
  unfold State.missOnline
  dsimp only
  have h1 : Calm s (s.putUnit u { s.unit u with misses := (s.unit u).misses + 1 }) := putUnit_calm_same _ _ _ rfl
  exact Calm.ite _ (fun _ => recover_calm _ _) fun _ => h1.trans (missEffect_calm _ _ _)

theorem endFlight_calm (s : State) : Calm s s.endFlight := setBus_calm _ _ fun _ _ => rfl

theorem miss_calm (s : State) : Calm s s.miss := by
  unfold State.miss
  split
  · exact Calm.refl s
  · dsimp only
    refine Calm.ite _ (fun _ => endFlight_calm s) fun _ => ?_
    split
    · exact (endFlight_calm s).trans (probeFailed_calm _ _)
    · exact endFlight_calm s
    · exact (endFlight_calm s).trans (missOnline_calm _ _ _)
    · exact endFlight_calm s

theorem putMisses_calm (s : State) (u : UnitIx) (k : Nat) : Calm s (s.putUnit u { s.unit u with misses := k }) :=
  putUnit_calm_same _ _ _ rfl

theorem answered_calm (s : State) (f : Flight) (d : State → State) (hl : s.mode.level ≠ .lost)
    (h : ∀ t : State, t.mode.level ≠ .lost → Calm t (d t)) : Calm s (s.answered f d) := by
  unfold State.answered
  dsimp only
  have h1 := (endFlight_calm s).trans (putMisses_calm s.endFlight f.unit 0)
  refine Calm.ite _ (fun _ => ?_) fun _ => endFlight_calm s
  exact h1.trans (h _ (by rw [h1.level]; exact hl))

/-- A completed frame from the bus; in HOLD no transaction is in flight. -/
theorem takeReply_calm (s : State) (a : Byte) (rd : Flight → Option (State → State))
    (hq : s.mode.level = .lost → s.bus.flight = none)
    (h : ∀ f d, rd f = some d → ∀ t : State, t.mode.level ≠ .lost → Calm t (d t)) : Calm s (s.takeReply a rd) := by
  unfold State.takeReply
  split
  · exact Calm.refl s
  · rename_i f hf
    have hl : s.mode.level ≠ .lost := fun e => by rw [hq e] at hf; cases hf
    refine Calm.ite _ (fun _ => ?_) fun _ => miss_calm s
    split
    · rename_i d hd; exact answered_calm _ _ _ hl (h _ _ hd)
    · exact miss_calm s

theorem chuteStatus_calm (s : State) (p : FlapPos) (h : Bool) : Calm s (s.chuteStatus p h) :=
  (confirmFlap_calm _ _ _).trans (seeHatch_calm _ _)

theorem moduleStatus_calm (s : State) (m : ModIx) (st : List SlotStatus) : Calm s (s.moduleStatus m st) :=
  (reconcile_calm _ _ _).trans (strayCloses_calm _ _ _)

theorem putResync_calm (s : State) (u : UnitIx) (b : Bool) : Calm s (s.putUnit u { s.unit u with resync := b }) :=
  putUnit_calm_same _ _ _ rfl

theorem deliverStatus_calm (s : State) (u : UnitIx) (st : UnitStatus) : Calm s (s.deliverStatus u st) := by
  unfold State.deliverStatus
  dsimp only
  refine (putResync_calm s u false).trans ?_
  split
  · exact (moduleStatus_calm _ _ _).trans (arbiter_calm _)
  · exact chuteStatus_calm _ _ _
  · exact Calm.refl _

theorem thenGrant_calm (s : State) (u : UnitIx) : Calm s (s.thenGrant u) := by
  unfold State.thenGrant
  exact Calm.ite _ (fun _ => arbiter_calm _) fun _ => Calm.refl s

theorem probeSlots_calm (s : State) (m : ModIx) (c : ProbeCause) (st : List SlotStatus) : Calm s (s.probeSlots m c st) := by
  unfold State.probeSlots
  exact Calm.ite _ (fun _ => (fill_calm _ _ _).trans (strayCloses_calm _ _ _)) fun _ => moduleStatus_calm _ _ _

theorem countStart_calm (s : State) (c : ProbeCause) : Calm s (s.countStart c) := by
  unfold State.countStart
  exact Calm.ite _ (fun _ => setMode_calm _ _ rfl) fun _ => Calm.refl s

theorem deliverProbe_calm (s : State) (u : UnitIx) (st : UnitStatus) (h : s.mode.level ≠ .lost) :
    Calm s (s.deliverProbe u st) := by
  unfold State.deliverProbe
  split
  · exact Calm.refl s
  · rename_i c _
    have h1 := (countStart_calm s c).trans (enterOnline_calm (s.countStart c) u c (by rw [(countStart_calm s c).level]; exact h))
    have h2 (t : State) : Calm t (match unitMod u, st with
        | some m, .slots l => t.probeSlots m c l
        | none, .chute f h => t.chuteStatus f h
        | _, _ => t) := by
      split
      · exact probeSlots_calm _ _ _ _
      · exact chuteStatus_calm _ _ _
      · exact Calm.refl t
    dsimp only
    refine Calm.trans ?_ (thenGrant_calm _ _)
    exact Calm.ite _ (fun _ => h1.trans ((h2 _).trans (startCheck_calm _))) fun _ => h1.trans (h2 _)

theorem overflowed_calm (s : State) (u : UnitIx) (b : Bool) : Calm s (s.overflowed u b) := by
  unfold State.overflowed
  exact Calm.ite _ (fun _ => putResync_calm _ _ _) fun _ => Calm.refl s

theorem deliverPollModule_calm (s : State) (m : ModIx) (p : Poll ModuleEntry) : Calm s (s.deliverPollModule m p) :=
  (foldl_calm _ (fun s e => moduleEntry_calm s m e) _ _).trans ((overflowed_calm _ _ _).trans (arbiter_calm _))

theorem deliverPollChute_calm (s : State) (p : Poll ChuteEntry) : Calm s (s.deliverPollChute p) :=
  (foldl_calm _ chuteEntry_calm _ _).trans (overflowed_calm _ _ _)

theorem deliverLatch_calm (s : State) (l : LatchCmd) (r : LatchReply) : Calm s (s.deliverLatch l r) := by
  unfold State.deliverLatch
  dsimp only
  split
  · exact Calm.refl s
  · exact Calm.ite _ (fun _ => (openReply_calm _ _ _).trans (retireIfRisen_calm _ _ _)) fun _ =>
      (openReply_calm _ _ _).trans ((retireIfRisen_calm _ _ _).trans (arbiter_calm _))
  · exact (closeReply_calm _ _ _).trans ((retireIfRisen_calm _ _ _).trans (arbiter_calm _))

theorem readProbeReply_calm (p : List Byte) (f : Flight) (d : State → State) (h : readProbeReply p f = some d) (t : State)
    (hl : t.mode.level ≠ .lost) : Calm t (d t) := by
  unfold readProbeReply at h
  split at h
  · obtain ⟨st, _, rfl⟩ := Option.map_eq_some_iff.mp h
    exact deliverProbe_calm _ _ _ hl
  · cases h

theorem readPollReply_calm (p : List Byte) (f : Flight) (d : State → State) (h : readPollReply p f = some d) (t : State) :
    Calm t (d t) := by
  unfold readPollReply at h
  split at h
  · split at h
    · obtain ⟨x, _, rfl⟩ := Option.map_eq_some_iff.mp h
      exact deliverPollModule_calm _ _ _
    · obtain ⟨x, _, rfl⟩ := Option.map_eq_some_iff.mp h
      exact deliverPollChute_calm _ _
  · cases h

theorem readStatusReply_calm (p : List Byte) (f : Flight) (d : State → State) (h : readStatusReply p f = some d) (t : State) :
    Calm t (d t) := by
  unfold readStatusReply at h
  split at h
  · obtain ⟨st, _, rfl⟩ := Option.map_eq_some_iff.mp h
    exact deliverStatus_calm _ _ _
  · cases h

theorem readLatchReply_calm (dir : LatchDir) (p : List Byte) (f : Flight) (d : State → State)
    (h : readLatchReply dir p f = some d) (t : State) : Calm t (d t) := by
  unfold readLatchReply at h
  split at h
  · split at h
    · obtain ⟨r, _, rfl⟩ := Option.map_eq_some_iff.mp h
      exact deliverLatch_calm _ _ _
    · cases h
  · cases h

theorem readLampsReply_calm (p : List Byte) (f : Flight) (d : State → State) (h : readLampsReply p f = some d) (t : State) :
    Calm t (d t) := by
  unfold readLampsReply at h
  split at h
  · obtain ⟨st, _, rfl⟩ := Option.map_eq_some_iff.mp h
    exact Calm.refl t
  · cases h

theorem readFlapFrame_calm (p : List Byte) (f : Flight) (d : State → State) (h : readFlapFrame p f = some d) (t : State) :
    Calm t (d t) := by
  unfold readFlapFrame at h
  split at h
  · obtain ⟨st, _, rfl⟩ := Option.map_eq_some_iff.mp h
    exact confirmFlap_calm _ _ _
  · cases h

theorem commandSent_calm (s : State) (k : Nat) : Calm s (s.commandSent k) := by
  unfold State.commandSent
  split
  · rename_i f hf
    split
    · exact setBus_calm _ _ fun _ h => by rw [hf] at h; cases h
    · exact Calm.refl s
  · exact Calm.refl s

theorem replyDeadline_calm (s : State) (k : Nat) : Calm s (s.replyDeadline k) := by
  unfold State.replyDeadline
  split
  · split
    · exact Calm.ite _ (fun _ => miss_calm s) fun _ => Calm.refl s
    · exact Calm.refl s
  · exact Calm.refl s

theorem revive_calm (s : State) (u : UnitIx) (c : ProbeCause) : Calm s (s.revive u c) := putUnit_calm_off _ _ _ (by simp)

theorem retryProbe_calm (s : State) (u : UnitIx) : Calm s (s.retryProbe u) := by
  unfold State.retryProbe
  dsimp only
  exact Calm.ite _ (fun _ => putUnit_calm_off _ _ _ (by simp)) fun _ => Calm.refl s

/-! ### Cabinet Mode Control -/

theorem beginSession_calm (s : State) : Calm s s.beginSession := by
  unfold State.beginSession
  dsimp only
  exact (setSession_calm s { remaining := some (60 * s.params.service), removals := [] } (by simp)).trans
    ((judgePanel_calm _).trans (queueReport_calm _ _))

theorem leftBehind_calm (s : State) (r : Removal) : Calm s (s.leftBehind r) := by
  unfold State.leftBehind
  dsimp only
  split
  · exact (queueReport_calm _ _).trans (setMissing_calm _ _)
  · exact queueReport_calm _ _

theorem setRemaining_calm (s : State) (r : Option Nat) : Calm s (s.setSession { s.session with remaining := r }) :=
  setSession_calm _ _ (Nat.le_max_right _ _)

theorem setRemovals_calm (s : State) : Calm s (s.setSession { s.session with removals := [] }) := setSession_calm _ _ (by simp)

theorem endSession_calm (s : State) (w : SessionReason) : Calm s (s.endSession w) := by
  unfold State.endSession
  dsimp only
  refine Calm.trans ?_ (judgePanel_calm _)
  have h4 (t : State) (r : ReportBody) : Calm s ((s.session.removals.foldl State.leftBehind
      ((s.setSession { s.session with remaining := none }).queueReport r))) :=
    (setRemaining_calm s none).trans ((queueReport_calm _ _).trans (foldl_calm _ leftBehind_calm _ _))
  exact Calm.ite _ (fun _ => (h4 s _).trans ((setRemovals_calm _).trans (beginCond_calm _ _))) fun _ =>
    (h4 s _).trans (setRemovals_calm _)

theorem supplyState_calm (s : State) (o : Option SupplyLevel) (b : Nat) : Calm s (s.supplyState o b) := queueReport_calm _ _

theorem markFull_calm (s t : State) : Calm s (s.markFull t) := foldl_calm _ (fun _ _ => retireIfRisen_calm _ _ _) _ _

/-- Entry to HOLD, from the level and the budget it has set. -/
theorem enterHold_calm (s : State) :
    Calm (((s.setLevel .lost).supplyState (some s.mode.level) 0).setBudget 0).unitsDark s.enterHold := by
  unfold State.enterHold
  dsimp only
  refine Calm.trans ?_ (beginCond_calm _ _)
  have h3 := ((abortChannels_calm ((((s.setLevel .lost).supplyState (some s.mode.level) 0).setBudget 0).unitsDark)
    (fun _ => true) .hold).trans ((abortEntries_calm _ (fun _ => true) .hold).trans (markFull_calm _ s)))
  exact Calm.ite _ (fun _ => h3.trans (endSession_calm _ _)) fun _ => h3

/-- Exit from HOLD, from the level and the budget it has set. -/
theorem leaveHold_calm (s : State) (new : SupplyLevel) :
    Calm ((s.setLevel new).setBudget (budgetOf new)) (s.leaveHold new) := by
  unfold State.leaveHold
  dsimp only
  have h2 := (arbiter_calm ((s.setLevel new).setBudget (budgetOf new))).trans
    ((unitsLight_calm _).trans (supplyState_calm _ (some .lost) (budgetOf new)))
  exact Calm.ite _ (fun _ => h2.trans (endCond_calm _ _)) fun _ => h2

/-- A change between GOOD and LOW, from the level and the budget it has set. -/
theorem supplyShift_calm (s : State) (new : SupplyLevel) :
    Calm ((s.setLevel new).setBudget (budgetOf new)) (s.supplyShift new) := by
  unfold State.supplyShift
  dsimp only
  have h1 := (arbiter_calm ((s.setLevel new).setBudget (budgetOf new))).trans
    (supplyState_calm _ (some s.mode.level) (budgetOf new))
  exact Calm.ite _ (fun _ => h1.trans (beginCond_calm _ _)) fun _ => h1.trans (endCond_calm _ _)

theorem windowExpiry_calm (s : State) (c : ChanNo) : Calm s (s.windowExpiry c) := by
  unfold State.windowExpiry
  split
  · exact Calm.ite _ (fun _ => expireWindow_calm _ _ _ _) fun _ => Calm.refl s
  · exact Calm.refl s

theorem serviceLimitExpiry_calm (s : State) : Calm s s.serviceLimitExpiry := by
  unfold State.serviceLimitExpiry
  exact Calm.ite _ (fun _ => endSession_calm _ _) fun _ => Calm.refl s

/-- A panel change, from the pins it has noted. -/
theorem panelTo_calm (s : State) (b : Bool) : Calm (s.setPins { s.pins with panel := b }) (s.panelTo b) := by
  unfold State.panelTo
  dsimp only
  refine Calm.ite _ (fun _ => Calm.refl _) fun _ => ?_
  have h2 (t : State) : Calm t (t.setMode { t.mode with panelOpen := b }) := setMode_calm _ _ rfl
  refine Calm.trans ?_ (judgePanel_calm _)
  exact Calm.ite _ (fun _ => h2 _) fun _ => (h2 _).trans (judgeCond_calm _ _ _)

/-- No unit is ONLINE once HOLD has made every unit DARK. -/
theorem darkenUnit_offline (s : State) (u v : UnitIx) (h : v = u ∨ s.online v = false) : (s.darkenUnit u).online v = false := by
  have h1 : (s.putUnit u (s.unit u).darken).online v = false := by
    unfold State.online
    rw [unit_putUnit]
    split
    · have := UnitRec.darken_online (s.unit u)
      cases hd : (s.unit u).darken.state <;> simp_all
    · rename_i e; exact h.resolve_left e
  have h2 : (s.darkenUnit u).units = (s.putUnit u (s.unit u).darken).units ∨
      ∃ m, s.darkenUnit u = (s.putUnit u (s.unit u).darken).slotsUnknown m := by
    unfold State.darkenUnit
    dsimp only
    split
    · split
      · exact Or.inr ⟨_, rfl⟩
      · exact Or.inl rfl
    · exact Or.inl rfl
  have keep (t : State) (m : ModIx) (ht : t.online v = false) : (t.slotsUnknown m).online v = false := by
    unfold State.slotsUnknown
    generalize positions = ps
    induction ps generalizing t with
    | nil => exact ht
    | cons p ps ih =>
      refine ih _ ?_
      simp only [State.modSlotLamp, State.relamp]
      split
      · exact ht
      · unfold State.wantLamps
        split
        · unfold State.online at ht ⊢
          rw [unit_putUnit]
          split
          · rename_i e; subst e; exact ht
          · exact ht
        · exact ht
  rcases h2 with e | ⟨m, e⟩
  · unfold State.online State.unit at h1 ⊢
    rw [e]; exact h1
  · rw [e]; exact keep _ _ h1

theorem mem_allUnits (v : UnitIx) : v ∈ allUnits := by revert v; decide

theorem unitsDark_offline (s : State) (v : UnitIx) : s.unitsDark.online v = false := by
  have fold (l : List UnitIx) (t : State) (h : v ∈ l ∨ t.online v = false) :
      (l.foldl State.darkenUnit t).online v = false := by
    induction l generalizing t with
    | nil => exact h.resolve_left (by simp)
    | cons u l ih =>
      refine ih _ ?_
      rcases h with hm | hm
      · rcases List.mem_cons.mp hm with e | e
        · exact Or.inr (darkenUnit_offline _ _ _ (Or.inl e))
        · exact Or.inl e
      · exact Or.inr (darkenUnit_offline _ _ _ (Or.inr hm))
  have h := fold allUnits (s.setBus { s.bus with latches := [], lastPolled := none, flight := none }) (Or.inl (mem_allUnits v))
  unfold State.unitsDark
  dsimp only
  revert h
  generalize List.foldl State.darkenUnit _ _ = t
  exact fun h => h

theorem unitsDark_flight (s : State) : s.unitsDark.bus.flight = none := by
  have fold (l : List UnitIx) (t : State) (h : t.bus.flight = none) : (l.foldl State.darkenUnit t).bus.flight = none := by
    have keep (t : State) (m : ModIx) : (t.slotsUnknown m).bus = t.bus := by
      unfold State.slotsUnknown
      generalize positions = ps
      induction ps generalizing t with
      | nil => rfl
      | cons p ps ih =>
        refine (ih _).trans ?_
        simp only [State.modSlotLamp, State.relamp]
        split
        · rfl
        · unfold State.wantLamps
          split <;> rfl
    induction l generalizing t with
    | nil => exact h
    | cons u l ih =>
      refine ih _ ?_
      unfold State.darkenUnit
      dsimp only
      split
      · split
        · rw [keep]; exact h
        · exact h
      · exact h
  have h := fold allUnits (s.setBus { s.bus with latches := [], lastPolled := none, flight := none }) rfl
  unfold State.unitsDark
  dsimp only
  revert h
  generalize List.foldl State.darkenUnit _ _ = t
  exact fun h => h

end Sys2Proof.Machine
end

