-- ==== Sys2Proof/Laws/Encoding.lean ====
section
/-! SUPPORT. Numbers in bytes and back, most significant byte first: the small lemmas of beBytes, beNat and readNat. -/

namespace Sys2Proof.Machine

@[simp] theorem beBytes_length (k n : Nat) : (beBytes k n).length = k := by
  induction k with
  | zero => rfl
  | succ k ih => simp [beBytes, ih]

theorem beNat_foldl (bs : List Byte) (a : Nat) :
    bs.foldl (fun a b => a * 256 + b.toNat) a = a * 256 ^ bs.length + beNat bs := by
  induction bs generalizing a with
  | nil => simp [beNat]
  | cons b bs ih =>
    have h0 := ih (0 * 256 + b.toNat)
    simp only [beNat, List.foldl_cons, List.length_cons] at ih h0 ⊢
    rw [ih, h0]; ring

theorem beNat_cons (b : Byte) (bs : List Byte) : beNat (b :: bs) = b.toNat * 256 ^ bs.length + beNat bs := by
  have h := beNat_foldl bs (0 * 256 + b.toNat)
  simpa [beNat] using h

theorem beNat_beBytes (k n : Nat) (h : n < 256 ^ k) : beNat (beBytes k n) = n := by
  induction k generalizing n with
  | zero => simp [beBytes, beNat] at h ⊢; omega
  | succ k ih =>
    have key (m : Nat) : beNat (beBytes k m) = m % 256 ^ k := by
      have hm := ih (m % 256 ^ k) (Nat.mod_lt _ (by positivity))
      rw [← hm]
      have : ∀ j, j ≤ k → ∀ m, beBytes j m = beBytes j (m % 256 ^ k) := by
        intro j hj m
        induction j with
        | zero => rfl
        | succ j ihj =>
          simp only [beBytes]
          rw [ihj (by omega)]
          congr 1
          have e : m % 256 ^ k / 256 ^ j % 256 = m / 256 ^ j % 256 := by
            obtain ⟨d, rfl⟩ : ∃ d, k = j + 1 + d := ⟨k - (j + 1), by omega⟩
            rw [show 256 ^ (j + 1 + d) = 256 ^ j * (256 * 256 ^ d) by ring, Nat.mod_mul_right_div_self,
              Nat.mod_mul_right_mod]
          apply BitVec.eq_of_toNat_eq
          simp only [BitVec.toNat_ofNat]
          exact e.symm
      rw [this k (le_refl k) m]
    simp only [beBytes]
    rw [beNat_cons, beBytes_length, key]
    have hb : n / 256 ^ k < 256 := by
      apply Nat.div_lt_of_lt_mul
      calc n < 256 ^ (k + 1) := h
        _ = 256 ^ k * 256 := by ring
    rw [BitVec.toNat_ofNat, Nat.mod_eq_of_lt hb]
    rw [mul_comm]
    exact Nat.div_add_mod n (256 ^ k)

/-- A number written in `k` bytes is read back, and what follows it is left. -/
theorem readNat_beBytes (k n : Nat) (rest : List Byte) (h : n < 256 ^ k) : readNat k (beBytes k n ++ rest) = some (n, rest) := by
  unfold readNat
  rw [if_neg (by simp)]
  have h1 : (beBytes k n ++ rest).take k = beBytes k n := by
    rw [List.take_append_of_le_length (by simp)]; simp
  have h2 : (beBytes k n ++ rest).drop k = rest := by
    rw [List.drop_append_of_le_length (by simp)]; simp
  rw [h1, h2, beNat_beBytes k n h]

/-- The same at the end of a body. -/
theorem readNat_beBytes_end (k n : Nat) (h : n < 256 ^ k) : readNat k (beBytes k n) = some (n, []) := by
  have := readNat_beBytes k n [] h
  simpa using this

/-- Every list of `k` bytes gives a number below 256 ^ k. -/
theorem beNat_lt (bs : List Byte) : beNat bs < 256 ^ bs.length := by
  induction bs with
  | nil => simp [beNat]
  | cons b bs ih =>
    rw [beNat_cons, List.length_cons, pow_succ]
    have hb : b.toNat ≤ 255 := by have := b.isLt; omega
    have hm : b.toNat * 256 ^ bs.length ≤ 255 * 256 ^ bs.length := Nat.mul_le_mul_right _ hb
    omega

/-- A number read in `k` bytes is below 256 ^ k. -/
theorem readNat_lt (k : Nat) (bs rest : List Byte) (n : Nat) (h : readNat k bs = some (n, rest)) : n < 256 ^ k := by
  unfold readNat at h
  split at h
  · cases h
  · rename_i hl
    simp only [Option.some.injEq, Prod.mk.injEq] at h
    have := beNat_lt (bs.take k)
    rw [List.length_take, Nat.min_eq_left (by omega)] at this
    omega

end Sys2Proof.Machine
end

