-- ==== Sys2Proof/Laws/PerInstr.lean ====
section
/-! SUPPORT. The family FrameLayout, one lemma for each command: the port, kind, tag and body that a command's frame carries are
read back as the command, and the body fits a frame. -/

namespace Sys2Proof.Laws.FrameLayout

/-- What the frame of a well-formed command carries stands for that command (R148, R160, R177). -/
def Statement (i : Instr) : Prop :=
  i.wf = true → ∀ (p : Port) (k t : Byte) (b : List Byte), i.frame = some (p, k, t, b) →
    b.length ≤ Config.bodyMax ∧ (match p with
      | .branch => linkInstr k t b
      | .kiosk => kioskInstr k t b) = i

/-- A command that is no frame has nothing to read back. -/
theorem of_none (i : Instr) (h : i.frame = none) : Statement i := by
  intro _ p k t b e; rw [h] at e; cases e

theorem keyLoad (tag : Byte) (body : List Byte) : Statement (.keyLoad tag body) := by
  intro h p k t b e; cases e; exact ⟨of_decide_eq_true h, rfl⟩
theorem keyDrop (tag : Byte) (body : List Byte) : Statement (.keyDrop tag body) := by
  intro h p k t b e; cases e; exact ⟨of_decide_eq_true h, rfl⟩
theorem bookingLoad (tag : Byte) (body : List Byte) : Statement (.bookingLoad tag body) := by
  intro h p k t b e; cases e; exact ⟨of_decide_eq_true h, rfl⟩
theorem bookingAmend (tag : Byte) (body : List Byte) : Statement (.bookingAmend tag body) := by
  intro h p k t b e; cases e; exact ⟨of_decide_eq_true h, rfl⟩
theorem bookingCancel (tag : Byte) (body : List Byte) : Statement (.bookingCancel tag body) := by
  intro h p k t b e; cases e; exact ⟨of_decide_eq_true h, rfl⟩
theorem bookingRetire (tag : Byte) (body : List Byte) : Statement (.bookingRetire tag body) := by
  intro h p k t b e; cases e; exact ⟨of_decide_eq_true h, rfl⟩
theorem policySet (tag : Byte) (body : List Byte) : Statement (.policySet tag body) := by
  intro h p k t b e; cases e; exact ⟨of_decide_eq_true h, rfl⟩
theorem paramSet (tag : Byte) (body : List Byte) : Statement (.paramSet tag body) := by
  intro h p k t b e; cases e; exact ⟨of_decide_eq_true h, rfl⟩
theorem timeSet (tag : Byte) (body : List Byte) : Statement (.timeSet tag body) := by
  intro h p k t b e; cases e; exact ⟨of_decide_eq_true h, rfl⟩
theorem release (tag : Byte) (body : List Byte) : Statement (.release tag body) := by
  intro h p k t b e; cases e; exact ⟨of_decide_eq_true h, rfl⟩
theorem alertAck (tag : Byte) (body : List Byte) : Statement (.alertAck tag body) := by
  intro h p k t b e; cases e; exact ⟨of_decide_eq_true h, rfl⟩
theorem alertMask (tag : Byte) (body : List Byte) : Statement (.alertMask tag body) := by
  intro h p k t b e; cases e; exact ⟨of_decide_eq_true h, rfl⟩
theorem alertUnmask (tag : Byte) (body : List Byte) : Statement (.alertUnmask tag body) := by
  intro h p k t b e; cases e; exact ⟨of_decide_eq_true h, rfl⟩
theorem slotClear (tag : Byte) (body : List Byte) : Statement (.slotClear tag body) := by
  intro h p k t b e; cases e; exact ⟨of_decide_eq_true h, rfl⟩
theorem slotQuarantine (tag : Byte) (body : List Byte) : Statement (.slotQuarantine tag body) := by
  intro h p k t b e; cases e; exact ⟨of_decide_eq_true h, rfl⟩
theorem moduleRevive (tag : Byte) (body : List Byte) : Statement (.moduleRevive tag body) := by
  intro h p k t b e; cases e; exact ⟨of_decide_eq_true h, rfl⟩
theorem binDiscard (tag : Byte) (body : List Byte) : Statement (.binDiscard tag body) := by
  intro h p k t b e; cases e; exact ⟨of_decide_eq_true h, rfl⟩
theorem serviceBegin (tag : Byte) (body : List Byte) : Statement (.serviceBegin tag body) := by
  intro h p k t b e; cases e; exact ⟨of_decide_eq_true h, rfl⟩
theorem serviceEnd (tag : Byte) (body : List Byte) : Statement (.serviceEnd tag body) := by
  intro h p k t b e; cases e; exact ⟨of_decide_eq_true h, rfl⟩
theorem restart (tag : Byte) (body : List Byte) : Statement (.restart tag body) := by
  intro h p k t b e; cases e; exact ⟨of_decide_eq_true h, rfl⟩
theorem statusQuery (tag : Byte) (body : List Byte) : Statement (.statusQuery tag body) := by
  intro h p k t b e; cases e
  simp only [Instr.wf, okBody, Bool.and_eq_true, decide_eq_true_eq] at h
  refine ⟨h.1, ?_⟩
  have h2 := h.2
  simp_all [linkInstr]
theorem statusQueryUnits (tag : Byte) (body : List Byte) : Statement (.statusQueryUnits tag body) := by
  intro h p k t b e; cases e
  simp only [Instr.wf, okBody, Bool.and_eq_true, decide_eq_true_eq] at h
  refine ⟨h.1, ?_⟩
  have h2 := h.2
  simp_all [linkInstr]
theorem slotQuery (tag : Byte) (body : List Byte) : Statement (.slotQuery tag body) := by
  intro h p k t b e; cases e; exact ⟨of_decide_eq_true h, rfl⟩
theorem bookingQuery (tag : Byte) (body : List Byte) : Statement (.bookingQuery tag body) := by
  intro h p k t b e; cases e
  simp only [Instr.wf, okBody, Bool.and_eq_true, decide_eq_true_eq] at h
  refine ⟨h.1, ?_⟩
  have h2 := h.2
  simp_all [linkInstr]
theorem bookingQueryList (tag : Byte) (body : List Byte) : Statement (.bookingQueryList tag body) := by
  intro h p k t b e; cases e
  simp only [Instr.wf, okBody, Bool.and_eq_true, decide_eq_true_eq] at h
  refine ⟨h.1, ?_⟩
  have h2 := h.2
  simp_all [linkInstr]
theorem keyQuery (tag : Byte) (body : List Byte) : Statement (.keyQuery tag body) := by
  intro h p k t b e; cases e; exact ⟨of_decide_eq_true h, rfl⟩
theorem alertQuery (tag : Byte) (body : List Byte) : Statement (.alertQuery tag body) := by
  intro h p k t b e; cases e
  simp only [Instr.wf, okBody, Bool.and_eq_true, decide_eq_true_eq] at h
  refine ⟨h.1, ?_⟩
  have h2 := h.2
  simp_all [linkInstr]
theorem alertQuerySubject (tag : Byte) (body : List Byte) : Statement (.alertQuerySubject tag body) := by
  intro h p k t b e; cases e
  simp only [Instr.wf, okBody, Bool.and_eq_true, decide_eq_true_eq] at h
  refine ⟨h.1, ?_⟩
  have h2 := h.2
  simp_all [linkInstr]
theorem heartbeat (tag : Byte) (body : List Byte) : Statement (.heartbeat tag body) := by
  intro h p k t b e; cases e; exact ⟨of_decide_eq_true h, rfl⟩
theorem unknownKind (kind : Byte) (tag : Byte) (body : List Byte) : Statement (.unknownKind kind tag body) := by
  intro h p k t b e; cases e
  simp only [Instr.wf, okBody, isRequestKind, Bool.and_eq_true, decide_eq_true_eq, Bool.not_eq_true',
    decide_eq_false_iff_not] at h
  refine ⟨h.1, ?_⟩
  have h2 := h.2
  dsimp only [linkInstr]
  split <;> first | rfl | (exfalso; omega)
theorem codeEntry (tag : Byte) (body : List Byte) : Statement (.codeEntry tag body) := by
  intro h p k t b e; cases e; exact ⟨of_decide_eq_true h, rfl⟩
theorem kioskUnknownKind (kind : Byte) (tag : Byte) (body : List Byte) : Statement (.kioskUnknownKind kind tag body) := by
  intro h p k t b e; cases e
  simp only [Instr.wf, okBody, Bool.and_eq_true, decide_eq_true_eq, bne_iff_ne] at h
  exact ⟨h.1, if_neg h.2⟩
theorem frameCrcError (port : Port) : Statement (.frameCrcError port) := of_none _ rfl
theorem frameTimeout (port : Port) (clock : Nat) : Statement (.frameTimeout port clock) := of_none _ rfl
theorem frameFormatError (port : Port) : Statement (.frameFormatError port) := of_none _ rfl
theorem linkFrameSent : Statement (.linkFrameSent) := of_none _ rfl
theorem kioskFrameSent : Statement (.kioskFrameSent) := of_none _ rfl
theorem restartRequest (pins : Pins) : Statement (.restartRequest pins) := of_none _ rfl
theorem powerOn (pins : Pins) (resetLow : Bool) : Statement (.powerOn pins resetLow) := of_none _ rfl
theorem resetAsserted : Statement (.resetAsserted) := of_none _ rfl
theorem resetLine (pins : Pins) : Statement (.resetLine pins) := of_none _ rfl
theorem supplyChange (supb : Bool) : Statement (.supplyChange supb) := of_none _ rfl
theorem holdEntry (supb : Bool) : Statement (.holdEntry supb) := of_none _ rfl
theorem holdExit (supb : Bool) : Statement (.holdExit supb) := of_none _ rfl
theorem panelChange (isOpen : Bool) : Statement (.panelChange isOpen) := of_none _ rfl
theorem oneSecondBoundary : Statement (.oneSecondBoundary) := of_none _ rfl
theorem deadlineExpiry : Statement (.deadlineExpiry) := of_none _ rfl
theorem windowExpiry (channel : Fin 4) : Statement (.windowExpiry channel) := of_none _ rfl
theorem recoveryRetry (unit : Byte) : Statement (.recoveryRetry unit) := of_none _ rfl
theorem unslottedLimitReached : Statement (.unslottedLimitReached) := of_none _ rfl
theorem maskExpiry : Statement (.maskExpiry) := of_none _ rfl
theorem supervisionExpiry : Statement (.supervisionExpiry) := of_none _ rfl
theorem serviceLimitExpiry : Statement (.serviceLimitExpiry) := of_none _ rfl
theorem probeReply (unit : Byte) (payload : List Byte) : Statement (.probeReply unit payload) := of_none _ rfl
theorem pollReply (unit : Byte) (payload : List Byte) : Statement (.pollReply unit payload) := of_none _ rfl
theorem statusReply (unit : Byte) (payload : List Byte) : Statement (.statusReply unit payload) := of_none _ rfl
theorem latchOpenReply (unit : Byte) (payload : List Byte) : Statement (.latchOpenReply unit payload) := of_none _ rfl
theorem latchCloseReply (unit : Byte) (payload : List Byte) : Statement (.latchCloseReply unit payload) := of_none _ rfl
theorem lampsReply (unit : Byte) (payload : List Byte) : Statement (.lampsReply unit payload) := of_none _ rfl
theorem flapReply (unit : Byte) (payload : List Byte) : Statement (.flapReply unit payload) := of_none _ rfl
theorem badReply : Statement (.badReply) := of_none _ rfl
theorem replyDeadline (clock : Nat) : Statement (.replyDeadline clock) := of_none _ rfl
theorem frameStartMarker (port : Port) (clock : Nat) : Statement (.frameStartMarker port clock) := of_none _ rfl
theorem commandLastByteSent (clock : Nat) : Statement (.commandLastByteSent clock) := of_none _ rfl

end Sys2Proof.Laws.FrameLayout
end

