-- ==== Sys2Proof/Laws/Requests.lean ====
section
/-! SUPPORT. What a valid frame does around its owner's action (R148), `Calm` for the owners of the requests, and what the last
byte of a frame does (R151, R168). -/

namespace Sys2Proof.Machine

/-! ### Around the owner -/

theorem frameBegin_calm (s : State) : Calm (s.setLink s.link.connect) s.frameBegin := by
  unfold State.frameBegin
  exact Calm.ite _ (fun _ => endCond_calm _ _) fun _ => Calm.refl _

theorem BranchLink.connect_tx (l : BranchLink) : l.connect.tx ≠ .idle := by
  unfold BranchLink.connect
  dsimp only
  split
  · decide
  · assumption

/-- Step 1 leaves the Answer Queue, and the transmitter but for an IDLE one, which waits for the event's end. -/
theorem frameBegin_link (s : State) :
    s.frameBegin.link.tx = s.link.connect.tx ∧ s.frameBegin.link.answers = s.link.answers
      ∧ s.frameBegin.link.rx = .searching ∧ s.frameBegin.link.state = .connected := by
  have h := frameBegin_calm s
  have k := h.held (BranchLink.connect_tx s.link)
  exact ⟨k.1, k.2, h.linkRx, h.linkState⟩

theorem frameBegin_tx (s : State) : s.frameBegin.link.tx ≠ .idle := by
  rw [(frameBegin_link s).1]; exact BranchLink.connect_tx _

theorem putCond_tables_congr (s : State) (c : Condition) (r q : CondRec) (h : r.bare = q.bare) :
    (s.putCond c r).tables = (s.putCond c q).tables := by
  simp only [State.putCond, State.setConds, State.tables, Vector.map_set, h]

/-- Step 1 as far as the tables go. -/
theorem frameBegin_tables (s : State) : s.frameBegin.tables = s.heard.tables := by
  unfold State.frameBegin State.heard
  dsimp only
  split
  · unfold State.endCond
    rw [withdrawAlert_tables]
    rfl
  · rfl

/-- Nothing of the settings, the level, the mask or the pins is touched in step 1. -/
theorem frameBegin_kept (s : State) :
    s.frameBegin.pending = s.pending ∧ s.frameBegin.power = s.power ∧ s.frameBegin.pins = s.pins
      ∧ s.frameBegin.mode.level = s.mode.level ∧ s.frameBegin.params = s.params ∧ s.frameBegin.policy = s.policy
      ∧ s.frameBegin.time = s.time ∧ s.frameBegin.alerts.mask = s.alerts.mask := by
  have h := frameBegin_calm s
  exact ⟨h.pending, h.power, h.pins, h.level, h.params, h.policy, h.time, h.mask⟩

/-- What an owner may not touch: the link but for its reports and counts. -/
def LinkKept (s t : State) : Prop :=
  t.link.tx = s.link.tx ∧ t.link.answers = s.link.answers ∧ t.link.rx = s.link.rx ∧ t.link.state = s.link.state

theorem Calm.linkKept {s t : State} (h : Calm s t) (hx : s.link.tx ≠ .idle) : LinkKept s t :=
  ⟨(h.held hx).1, (h.held hx).2, h.linkRx, h.linkState⟩

theorem frameEnd_given (s : State) (a : Answer) (t : State) (h : LinkKept s.frameBegin t) :
    ((t.placeAnswer a).frameEnd.link.tx, (t.placeAnswer a).frameEnd.link.answers) = s.link.given a
      ∧ (t.placeAnswer a).frameEnd.link.rx = .searching ∧ (t.placeAnswer a).frameEnd.link.state = .connected
      ∧ (t.placeAnswer a).frameEnd.link.supervision = some t.params.supervision := by
  obtain ⟨f1, f2, f3, f4⟩ := frameBegin_link s
  obtain ⟨h1, h2, h3, h4⟩ := h
  rw [f1] at h1; rw [f2] at h2; rw [f3] at h3; rw [f4] at h4
  have ht : t.link.tx ≠ .idle := by rw [h1]; exact BranchLink.connect_tx _
  have hp : (t.placeAnswer a).link = { t.link with answers := t.link.answers ++ [a] } := by
    simp only [State.placeAnswer, State.setLink, BranchLink.wake, if_neg ht]
  simp only [State.frameEnd, State.setLink, hp]
  cases htx : s.link.tx with
  | sending f =>
    have hc : t.link.tx = .sending f := by rw [h1]; simp [BranchLink.connect, htx]
    simp [hc, h2, h3, h4, BranchLink.given, BranchLink.moved, htx, State.placeAnswer, State.setLink]
  | idle =>
    have hc : t.link.tx = .deferred := by rw [h1]; simp [BranchLink.connect, htx]
    cases hq : s.link.answers <;>
      simp [hc, h2, h3, h4, BranchLink.given, BranchLink.moved, htx, State.placeAnswer, State.setLink, BranchLink.choose, hq]
  | deferred =>
    have hc : t.link.tx = .deferred := by rw [h1]; simp [BranchLink.connect, htx]
    cases hq : s.link.answers <;>
      simp [hc, h2, h3, h4, BranchLink.given, BranchLink.moved, htx, State.placeAnswer, State.setLink, BranchLink.choose, hq]

/-- A part that hears a frame: the state its event leads to, up to the Slot Bus's choice of a command. -/
theorem event_takeFrame (s : State) (kind tag : Byte) (owner : State → State × Reply) (h : s.hears) :
    s.event (fun s => s.takeFrame kind tag owner) =
      (((owner s.frameBegin).1.placeAnswer
        { kind, tag, result := (owner s.frameBegin).2.result, fields := (owner s.frameBegin).2.fields }).frameEnd).chooseCommand := by
  have hl : ¬ Config.answerCap ≤ s.frameBegin.link.answers.length := by
    rw [(frameBegin_link s).2.1]; have := h.2; simp only [Config.answerCap]; omega
  simp only [State.event, h.1, Bool.false_eq_true, if_false, State.takeFrame, if_neg hl, State.serve]

theorem chooseCommand_link (s : State) : s.chooseCommand.link = s.link ∧ s.chooseCommand.params = s.params := by
  unfold State.chooseCommand
  split
  · exact ⟨rfl, rfl⟩
  · split
    · rename_i u c _
      cases c <;> exact ⟨rfl, rfl⟩
    · exact ⟨rfl, rfl⟩

/-- Everything a request's event does, when its owner leaves the link but for its reports and counts alone. -/
theorem takeFrame_served (s : State) (i : Instr) (kind tag : Byte) (owner : State → State × Reply) (h : s.hears)
    (he : exec i s = .next (s.event fun s => s.takeFrame kind tag owner))
    (hk : LinkKept s.frameBegin (owner s.frameBegin).1) :
    Served s i { kind, tag, result := (owner s.frameBegin).2.result, fields := (owner s.frameBegin).2.fields }
      (owner s.frameBegin).1 := by
  refine ⟨_, he, ?_⟩
  rw [event_takeFrame s kind tag owner h]
  obtain ⟨g1, g2, g3, g4⟩ := frameEnd_given s
    { kind, tag, result := (owner s.frameBegin).2.result, fields := (owner s.frameBegin).2.fields } _ hk
  have hc := chooseCommand_link ((((owner s.frameBegin).1.placeAnswer
    { kind, tag, result := (owner s.frameBegin).2.result, fields := (owner s.frameBegin).2.fields }).frameEnd))
  refine ⟨?_, ?_, ?_, ?_, ?_⟩
  · rw [chooseCommand_tables, frameEnd_tables, placeAnswer_tables]
  · rw [hc.1]; exact g1
  · rw [hc.1]; exact g2
  · rw [hc.1]; exact g3
  · rw [hc.1, hc.2]; exact g4

/-- The same for a request of a known kind whose body is read: the owner's action decides the rest. -/
theorem takeRequest_served {α : Type} (s : State) (i : Instr) (kind : Nat) (tag : Byte) (body : Option α) (b : α)
    (owner : α → State → State × Reply) (h : s.hears) (hb : body = some b)
    (he : exec i s = .next (s.takeRequest kind tag body owner)) (hk : LinkKept s.frameBegin (owner b s.frameBegin).1) :
    Served s i
      { kind := BitVec.ofNat 8 (kind + 128), tag, result := (owner b s.frameBegin).2.result
        fields := (owner b s.frameBegin).2.fields } (owner b s.frameBegin).1 := by
  subst hb
  exact takeFrame_served s i _ tag (fun s => owner b s) h he hk

/-- A body that breaks its layout is answered BAD_FIELD, and nothing else happens (R148, step 3). -/
theorem takeRequest_badField {α : Type} (s : State) (i : Instr) (kind : Nat) (tag : Byte)
    (owner : α → State → State × Reply) (h : s.hears) (he : exec i s = .next (s.takeRequest kind tag none owner)) :
    Served s i (plain (BitVec.ofNat 8 (kind + 128)) tag .badField) s.frameBegin :=
  takeFrame_served s i _ tag (fun s => s.refuse .badField) h he ⟨rfl, rfl, rfl, rfl⟩

/-- `Served` speaks of the tables only. -/
theorem Served.congr {s u v : State} {i : Instr} {a : Answer} (h : Served s i a u) (e : u.tables = v.tables) :
    Served s i a v := by
  obtain ⟨t, h1, h2, h3⟩ := h
  exact ⟨t, h1, h2.trans e, h3⟩

/-- A stopped part takes no frame (R168). -/
theorem takeRequest_stopped {α : Type} (s : State) (kind : Nat) (tag : Byte) (body : Option α)
    (owner : α → State → State × Reply) (h : s.power.stopped = true) : s.takeRequest kind tag body owner = s :=
  event_stopped _ _ h

/-! ### Reading records through the tables -/

theorem find_map_bare {α β : Type} (f : α → β) (p : α → Bool) (q : β → Bool) (l : List α) (h : ∀ a, q (f a) = p a) :
    (l.map f).find? q = (l.find? p).map f := by
  induction l with
  | nil => rfl
  | cons a l ih =>
    simp only [List.map_cons, List.find?_cons, h]
    cases p a
    · exact ih
    · rfl

/-- States with equal tables have equal entries, bookings, drops, slots and units, up to what `bare` sets aside. -/
theorem entry?_bare {s t : State} (h : s.tables = t.tables) (k : Nat) :
    (s.entry? k).map KeyEntry.bare = (t.entry? k).map KeyEntry.bare := by
  have e : s.directory.map KeyEntry.bare = t.directory.map KeyEntry.bare := congrArg State.directory h
  unfold State.entry?
  rw [← find_map_bare KeyEntry.bare (fun e => e.tag == k) (fun e => e.tag == k) s.directory (fun _ => rfl), e,
    find_map_bare KeyEntry.bare (fun e => e.tag == k) (fun e => e.tag == k) t.directory fun _ => rfl]

theorem booking?_bare {s t : State} (h : s.tables = t.tables) (k : Nat) :
    (s.booking? k).map Booking.bare = (t.booking? k).map Booking.bare := by
  have e : s.bookings.map Booking.bare = t.bookings.map Booking.bare := congrArg State.bookings h
  unfold State.booking?
  rw [← find_map_bare Booking.bare (fun e => e.number == k) (fun e => e.number == k) s.bookings (fun _ => rfl), e,
    find_map_bare Booking.bare (fun e => e.number == k) (fun e => e.number == k) t.bookings fun _ => rfl]

theorem drop?_bare {s t : State} (h : s.tables = t.tables) (k : Nat) :
    (s.drop? k).map DropEntry.bare = (t.drop? k).map DropEntry.bare := by
  have e : s.bin.entries.map DropEntry.bare = t.bin.entries.map DropEntry.bare :=
    congrArg (fun u : State => u.bin.entries) h
  unfold State.drop?
  rw [← find_map_bare DropEntry.bare (fun e => e.number == k) (fun e => e.number == k) s.bin.entries (fun _ => rfl), e,
    find_map_bare DropEntry.bare (fun e => e.number == k) (fun e => e.number == k) t.bin.entries fun _ => rfl]

theorem slot_bare {s t : State} (h : s.tables = t.tables) (n : SlotNo) : (s.slot n).bare = (t.slot n).bare := by
  have e : s.slots.map SlotRec.bare = t.slots.map SlotRec.bare := congrArg State.slots h
  have := congrArg (fun v : Vector SlotRec 384 => v[n]) e
  simpa [State.slot] using this

theorem unit_bare {s t : State} (h : s.tables = t.tables) (u : UnitIx) : (s.unit u).bare = (t.unit u).bare := by
  have e : s.units.map UnitRec.bare = t.units.map UnitRec.bare := congrArg State.units h
  have := congrArg (fun v : Vector UnitRec 25 => v[u]) e
  simpa [State.unit] using this

theorem cond_active {s t : State} (h : s.tables = t.tables) (c : Condition) : (s.cond c).active = (t.cond c).active := by
  have e : s.conds.map CondRec.bare = t.conds.map CondRec.bare := congrArg State.conds h
  have := congrArg (fun v : Vector CondRec 6 => (v[c.ix]).active) e
  simpa [State.cond, CondRec.bare] using this

/-- Blocks that `tables` keeps whole. -/
theorem tables_kept {s t : State} (h : s.tables = t.tables) :
    s.pending = t.pending ∧ s.power = t.power ∧ s.pins = t.pins ∧ s.mode = t.mode ∧ s.session = t.session
      ∧ s.params = t.params ∧ s.policy = t.policy ∧ s.time = t.time ∧ s.dueList = t.dueList ∧ s.release = t.release
      ∧ s.chute = t.chute ∧ s.alerts.mask = t.alerts.mask ∧ s.kiosk.enabled = t.kiosk.enabled :=
  have k {α : Type} (f : State → α) : f s.tables = f t.tables := congrArg f h
  ⟨k State.pending, k State.power, k State.pins, k State.mode, k State.session, k State.params, k State.policy, k State.time,
    k State.dueList, k State.release, k State.chute, k fun u => u.alerts.mask, k fun u => u.kiosk.enabled⟩

theorem online_congr {s t : State} (h : s.tables = t.tables) (u : UnitIx) : s.online u = t.online u := by
  have := congrArg UnitRec.state (unit_bare h u)
  simp only [UnitRec.bare] at this
  simp [State.online, this]

theorem hold_congr {s t : State} (h : s.tables = t.tables) : s.hold = t.hold := by
  simp [State.hold, (tables_kept h).2.2.2.1]

theorem inSession_congr {s t : State} (h : s.tables = t.tables) : s.inSession = t.inSession := by
  simp [State.inSession, (tables_kept h).2.2.2.2.1]

/-! ### The owners -/

theorem addKey_calm (s : State) (t u : Nat) (h : Option SlotNo) (hc : s.directory.length < 512) : Calm s (s.addKey t u h) := by
  have len (p : KeyEntry → KeyEntry → Bool) (e : KeyEntry) (l : List KeyEntry) :
      (insertBy p e l).length = l.length + 1 := by
    induction l with
    | nil => rfl
    | cons y ys ih =>
      unfold insertBy
      split
      · rfl
      · simp [ih]
  unfold State.addKey
  dsimp only
  refine Calm.trans ?_ (relampAll_calm _ _)
  refine setDirectory_calm _ _ ?_
  rw [len]; omega

theorem replaceEntry_calm (s : State) (t u : Nat) (h o : Option SlotNo) : Calm s (s.replaceEntry t u h o) :=
  (mapEntry_calm _ _ _).trans (relampAll_calm _ _)

theorem keyLoad_calm (s : State) (r : KeyLoadReq) : Calm s (s.keyLoad r).1 := by
  unfold State.keyLoad
  split
  · exact Calm.refl s
  · split
    · exact Calm.refl s
    · split
      · split
        · exact Calm.refl s
        · rename_i hc
          split
          · exact Calm.refl s
          · exact addKey_calm _ _ _ _ (by simp only [Config.directoryCap] at hc; omega)
      · split
        · exact Calm.refl s
        · split
          · exact Calm.refl s
          · exact replaceEntry_calm _ _ _ _ _

theorem keyDrop_calm (s : State) (t : Nat) : Calm s (s.keyDrop t).1 := by
  unfold State.keyDrop
  split
  · exact Calm.refl s
  · split
    · exact Calm.refl s
    · rename_i e _ _
      have h1 (u : State) : Calm u (u.setDirectory (u.directory.filter fun x => x.tag != e.tag)) :=
        setDirectory_calm _ _ ((List.length_filter_le _ _).trans (Nat.le_max_right _ _))
      exact (withdrawAlert_calm s (.key e.tag) [.keyMissing]).trans ((h1 _).trans (relampAll_calm _ _))

theorem addBooking_calm (s : State) (b : Booking) (hc : s.bookings.length < 256) : Calm s (s.addBooking b) := by
  have len (p : Booking → Booking → Bool) (e : Booking) (l : List Booking) : (insertBy p e l).length = l.length + 1 := by
    induction l with
    | nil => rfl
    | cons y ys ih =>
      unfold insertBy
      split
      · rfl
      · simp [ih]
  unfold State.addBooking
  refine setBookings_calm _ _ ?_
  rw [len]; omega

theorem bookingLoad_calm (s : State) (r : BookingLoadReq) : Calm s (s.bookingLoad r).1 := by
  unfold State.bookingLoad
  split
  · exact Calm.refl s
  · split
    · exact Calm.refl s
    · split
      · exact Calm.refl s
      · split
        · exact Calm.refl s
        · split
          · exact Calm.refl s
          · split
            · exact Calm.refl s
            · rename_i hc
              split
              · exact Calm.refl s
              · exact addBooking_calm _ _ (by simp only [Config.bookingCap] at hc; omega)

theorem bookingAmend_calm (s : State) (r : BookingAmendReq) : Calm s (s.bookingAmend r).1 := by
  unfold State.bookingAmend
  split
  · exact Calm.refl s
  · dsimp only
    split
    · exact Calm.refl s
    · split
      · split
        · exact mapBooking_calm _ _ _
        · exact Calm.refl s
      · split
        · exact Calm.refl s
        · exact (mapBooking_calm _ _ _).trans (dueAmend_calm _ _)
      · exact Calm.refl s

theorem cancelReleasing_calm (s : State) (n : Nat) : Calm s (s.cancelReleasing n) := by
  unfold State.cancelReleasing
  split
  · exact cancelQueued_calm _ _
  · split
    · exact (cancelChannel_calm _ _).trans (arbiter_calm _)
    · exact toCancelled_calm _ _

theorem bookingCancel_calm (s : State) (n : Nat) : Calm s (s.bookingCancel n).1 := by
  unfold State.bookingCancel
  split
  · exact Calm.refl s
  · split
    · exact toCancelled_calm _ _
    · exact cancelReleasing_calm _ _
    · exact Calm.refl s

theorem bookingRetire_calm (s : State) (n : Nat) : Calm s (s.bookingRetire n).1 := by
  have h1 (p : Booking → Bool) : Calm s (s.setBookings (s.bookings.filter p)) :=
    setBookings_calm _ _ ((List.length_filter_le _ _).trans (Nat.le_max_right _ _))
  unfold State.bookingRetire
  split
  · exact h1 _
  · split
    · exact Calm.refl s
    · split
      · exact h1 _
      · exact Calm.refl s

theorem slotFor_queue (s : State) (b : Booking) (n : SlotNo) (h : s.slotFor b = .ok n) : s.release.queue.length < 16 := by
  unfold State.slotFor at h
  split at h
  · cases h
  · split at h
    · cases h
    · split at h
      · cases h
      · split at h
        · cases h
        · split at h
          · cases h
          · split at h
            · cases h
            · rename_i hc; simp only [Config.releaseCap] at hc; omega

theorem toReleasing_queue (s : State) (n : Nat) (x : Source) : (s.toReleasing n x).release = s.release := by
  have h1 (l : List (SlotNo × SlotRec)) (t : State) :
      (l.foldl (fun s p => s.modSlot p.1 fun r => { r with lastRelease := none }) t).release = t.release := by
    induction l generalizing t with
    | nil => rfl
    | cons p l ih => exact ih _
  have h2 := congrArg State.release
    (withdrawAlert_tables ((s.mapBooking n fun b => { b with state := .releasing, source := some x }).clearLastRelease n)
      (.booking n) [.untaken])
  exact h2.trans (h1 _ _)

theorem askRelease_calm (s : State) (n : Nat) (x : Source) (c : Option Nat) : Calm s (s.askRelease n x c).1 := by
  unfold State.askRelease
  split
  · exact Calm.refl s
  · split
    · exact Calm.refl s
    · split
      · exact Calm.refl s
      · split
        · exact Calm.refl s
        · split
          · unfold State.countCode
            exact Calm.ite _ (fun _ => mapBooking_calm _ _ _) fun _ => Calm.refl s
          · split
            · exact Calm.refl s
            · rename_i hs
              have hq := slotFor_queue _ _ _ hs
              exact (toReleasing_calm _ _ _).trans (enqueueRelease_calm _ _ (by rw [toReleasing_queue]; exact hq))

theorem releaseRequest_calm (s : State) (n : Nat) : Calm s (s.releaseRequest n).1 := by
  unfold State.releaseRequest
  split
  · exact Calm.refl s
  · dsimp only
    refine (askRelease_calm s n .counter none).trans ?_
    unfold Admission.after
    split
    · exact Calm.refl _
    · exact arbiter_calm _

theorem codeEntry_calm (s : State) (r : PairReq) : Calm s (s.codeEntry r).1 := by
  unfold State.codeEntry
  split
  · exact Calm.refl s
  · exact askRelease_calm _ _ _ _

theorem alertAck_calm (s : State) (r : PairReq) : Calm s (s.alertAck r).1 := by
  unfold State.alertAck
  split
  · exact Calm.refl s
  · split
    · rename_i h; exact ackAlert_calm _ _ _ _ h
    · exact Calm.refl s

theorem clearSlot_calm (s : State) (n : SlotNo) : Calm s (s.clearSlot n) := by
  unfold State.clearSlot
  dsimp only
  refine Calm.trans ?_ (withdrawAlert_calm _ _ _)
  have h1 := modSlotLamp_calm s n fun r =>
    { r with faults := .none, slow := 0, chatter := 0, chatterStart := none, service := .inService }
  exact Calm.ite _ (fun _ => h1.trans (putUnit_calm_same _ _ _ rfl)) fun _ => h1

theorem slotClear_calm (s : State) (n : Nat) : Calm s (s.slotClear n).1 := by
  unfold State.slotClear
  split
  · split
    · exact clearSlot_calm _ _
    · exact Calm.refl s
  · exact Calm.refl s

theorem manualQuarantine_calm (s : State) (n : SlotNo) : Calm s (s.manualQuarantine n) := by
  have h1 := (quarantine_calm s n (some .manual)).trans (reportFault_calm _ n none .manual none)
  unfold State.manualQuarantine
  dsimp only
  exact Calm.ite _ (fun _ => h1.trans ((retire_calm _ _).trans (arbiter_calm _))) fun _ => h1

theorem slotQuarantine_calm (s : State) (n : Nat) : Calm s (s.slotQuarantine n).1 := by
  unfold State.slotQuarantine
  split
  · split
    · exact Calm.refl s
    · exact manualQuarantine_calm _ _
  · exact Calm.refl s

theorem moduleRevive_calm (s : State) (a : Nat) : Calm s (s.moduleRevive a).1 := by
  unfold State.moduleRevive
  split
  · exact Calm.refl s
  · split
    · exact Calm.refl s
    · split
      · exact revive_calm _ _ _
      · exact revive_calm _ _ _
      · exact Calm.refl s

theorem binDiscard_calm (s : State) (d : Nat) : Calm s (s.binDiscard d).1 := by
  unfold State.binDiscard
  split
  · exact Calm.refl s
  · split
    · exact binLeave_calm _ _
    · exact Calm.refl s

theorem serviceBegin_calm (s : State) : Calm s s.serviceBegin.1 := by
  unfold State.serviceBegin
  split
  · exact Calm.refl s
  · split
    · exact Calm.refl s
    · split
      · exact Calm.refl s
      · exact beginSession_calm _

theorem serviceEnd_calm (s : State) : Calm s s.serviceEnd.1 := by
  unfold State.serviceEnd
  split
  · exact endSession_calm _ _
  · exact Calm.refl s

/-- TIME_SET moves the windows and advances the watch from the state with the new time. -/
theorem timeSet_calm (s : State) (new : Nat) : Calm (s.setTime (some new)) (s.timeSet new).1 := by
  unfold State.timeSet
  dsimp only
  split
  · exact Calm.refl _
  · dsimp only
    have h2 (o : Nat) : Calm (s.setTime (some new))
        (if new = o then s.setTime (some new) else (s.setTime (some new)).shiftWindows o new) :=
      Calm.ite _ (fun _ => Calm.refl _) fun _ => shiftWindows_calm _ _ _
    split
    · exact (h2 _).trans (advance_calm _ _ _ _)
    · exact h2 _

/-! ### The last byte of a frame -/

/-- The last byte of the answer to an accepted RESTART is a start-up, with the pins last held or with those given (R168). -/
theorem restart_starts {s : State} (h : s.restarting = true) (pins : Pins) :
    s.linkSent = startUp s.pending s.pins .restartRequest ∧ s.restartNow pins = startUp s.pending pins .restartRequest := by
  unfold State.linkSent State.restartNow
  simp only [h, if_true, and_self]

/-- The last byte of any other frame lets the transmitter choose, and RESTART_REQUEST does nothing (R151, R168). -/
theorem linkSent_chooses {s : State} (h : s.restarting = false) (f : LinkFrame) (hf : s.link.tx = .sending f) (pins : Pins) :
    s.linkSent = s.setLink s.link.choose ∧ s.restartNow pins = s := by
  unfold State.linkSent State.restartNow
  simp [h, hf]

/-- Nothing is being sent: neither row does anything. -/
theorem linkSent_idle {s : State} (h : ∀ f : LinkFrame, s.link.tx ≠ .sending f) (pins : Pins) :
    s.linkSent = s ∧ s.restartNow pins = s := by
  have hr : s.restarting = false := by
    unfold State.restarting
    split
    · next f hf => exact absurd hf (h f)
    · rfl
  unfold State.linkSent State.restartNow
  rw [hr]
  refine ⟨?_, rfl⟩
  simp only [Bool.false_eq_true, if_false]

/-! ### The Kiosk Port -/

theorem KioskPort.given_wake (k : KioskPort) (a : KioskAnswer) (h : k.answer = none) :
    ({ k with answer := some a } : KioskPort).wake =
      if k.tx = .idle then { k with tx := .sending (.answer a) } else { k with answer := some a } := by
  unfold KioskPort.wake
  split
  · unfold KioskPort.choose; cases k; simp_all
  · rfl

end Sys2Proof.Machine
end

