-- ==== Sys2Proof/Tests/Slice0.lean ====
section
/-! SUPPORT. The model's own tests: ill-formed commands and frames are refused by name, one step of every command on a small
state, and for every obligation with hypotheses a state and operands that meet them, clause by clause. -/

open Sys2Proof Sys2Proof.Machine

namespace Sys2Proof.Tests

set_option Elab.async false

/-! ### Well-formedness and frames -/

def bytesOf (n : Nat) : List Byte := List.replicate n 0

theorem test_wf_refuses_a_long_body : (Instr.keyLoad 1 (bytesOf 247)).wf = false := by decide +kernel
theorem test_wf_takes_the_longest_body : (Instr.keyLoad 1 (bytesOf 246)).wf = true := by decide +kernel
theorem test_wf_refuses_a_long_payload : (Instr.pollReply 1 (bytesOf 120)).wf = false := by decide +kernel
theorem test_wf_refuses_the_other_form :
    (Instr.statusQuery 1 [1]).wf = false ∧ (Instr.statusQueryUnits 1 [0]).wf = false ∧ (Instr.bookingQuery 1 [1, 0, 0, 0, 1]).wf = false
      ∧ (Instr.bookingQueryList 1 [0, 0, 0, 0, 1]).wf = false ∧ (Instr.alertQuery 1 [1]).wf = false
      ∧ (Instr.alertQuerySubject 1 [0]).wf = false := by decide
theorem test_wf_refuses_a_known_kind : (Instr.unknownKind 0x1A 1 []).wf = false ∧ (Instr.kioskUnknownKind 0x61 1 []).wf = false := by
  decide
theorem test_wf_refuses_an_address_without_a_unit : (Instr.recoveryRetry 25).wf = false ∧ (Instr.recoveryRetry 0).wf = false := by
  decide

/-- The CRC's check value over "123456789" (R177, R181). -/
theorem test_crc_check_value : crc16 [0x31, 0x32, 0x33, 0x34, 0x35, 0x36, 0x37, 0x38, 0x39] = 0x29B1 := by decide +kernel

/-- A HEARTBEAT of tag 5, laid out by hand from R177: marker, length, kind, tag, CRC. -/
theorem test_frame_heartbeat : readFrame .branch [0xA5, 0x02, 0x1A, 0x05, 0x1E, 0xE1] = some (.heartbeat 5 []) := by decide +kernel
theorem test_frame_bad_crc : readFrame .branch [0xA5, 0x02, 0x1A, 0x05, 0x1E, 0xE0] = some (.frameCrcError .branch) := by
  decide +kernel
theorem test_frame_bad_length :
    readFrame .kiosk [0xA5, 0x01] = some (.frameFormatError .kiosk) ∧ readFrame .branch [0xA5, 0xF9] = some (.frameFormatError .branch) := by
  decide
theorem test_frame_not_complete : readFrame .branch [0xA5, 0x02, 0x1A, 0x05, 0x1E] = none := by decide
theorem test_bus_frame_bad_crc : readBusFrame false [0x5A, 0x01, 0x01, 0x85, 0x00, 0x00] = some .badReply := by decide +kernel

/-! ### Small states -/

/-- A value of the next state. -/
def after {α : Type} (i : Instr) (s : State) (f : State → α) : Option α :=
  match exec i s with
  | .next t => some (f t)
  | _ => none

/-- The results that wait in the Answer Queue. -/
def results (s : State) : List Result := s.link.answers.map (·.result)

def booking1 : Booking :=
  { number := 1, kind := .rental, key := 7, code := some 1234, window := none, due := 2000, grace := 10, escalation := 60
    state := .loaded, source := none, stage := none, taken := none, returned := none, lateness := none, failures := 0
    alert := .clear }

def key7 : KeyEntry := { tag := 7, unit := 1, home := some 0, missing := false, alert := .clear }

def someReport : Report := { time := none, gap := false, body := .serviceState .begun none none false }

/-- Time 1000, every unit ONLINE, key 7 HELD in slot 0, booking 1 for it, the bus idle, the link CONNECTED and SENDING. -/
def desk : State :=
  { State.reset with
    time := some 1000
    directory := [key7]
    bookings := [booking1]
    slots := State.reset.slots.set 0 { SlotRec.start with occ := .held, tag := some 7, since := some 900 }
    units := Vector.replicate 25 { UnitRec.start with state := .online, cause := none }
    bus := { latches := [], nextAge := 0, lastPolled := none, flight := none }
    link := { BranchLink.start with state := .connected, supervision := some 30, tx := .sending (.report someReport) } }

/-- Booking 1 is OUT, slot 0 EMPTY, its due time at the head of the Due List. -/
def deskOut : State :=
  { (desk.withBooking 1 fun b => { b with state := .out, source := some .counter, stage := some .onTime, taken := some 950 }).withSlot 0
      fun r => { r with occ := .empty, tag := none } with
    dueList := [{ deadline := 2000, booking := 1 }] }

/-- Booking 1 is RELEASING at channel 0 of slot 0. -/
def deskAt (x : Channel) : State :=
  ((desk.withBooking 1 fun b => { b with state := .releasing, source := some .counter }).withSlot 0 fun r =>
    { r with channel := some 0 }).withChan 0 x

def deskOpening : State := deskAt (.opening 0 1)
def deskOpen : State := deskAt (.opened 0 1 1020)

/-- The OPEN command waits with age 3, behind a stray close with age 2 and before one with age 4. -/
def deskOpeningWaits : State :=
  let l (n : SlotNo) (dir : LatchDir) (c : Option ChanNo) (age : Nat) : LatchCmd := { slot := n, dir, channel := c, age, tries := 0 }
  { deskOpening with
    bus := { deskOpening.bus with
      latches := [l 17 .closeIt none 2, l 0 .openIt (some 0) 3, l 18 .closeIt none 4], nextAge := 5 } }

/-- Booking 1 is RELEASING in the queue, the budget 0. -/
def deskQueued : State :=
  let s := (desk.withBooking 1 fun b => { b with state := .releasing, source := some .counter }).withSlot 0 fun r =>
    { r with queued := true }
  { s with release := { s.release with queue := [{ booking := 1, slot := 0, source := .counter }], budget := 0 } }

def dropEntry (d : Nat) (st : BinState) : DropEntry :=
  { number := d, tag := none, foreign := false, state := st, dropped := some 900, handed := none, age := 0, unslotted := false
    booking := none, alert := .clear }

/-- Drop 3 is IN_HAND, its age at the UNSLOTTED limit. -/
def deskInHand : State := { desk with bin := { entries := [{ dropEntry 3 .inHand with age := 1800 }], nextDrop := 4 } }

/-- A service session in its last second. -/
def deskService : State := { desk with session := { remaining := some 0, removals := [{ tag := some 7, slot := 0, time := some 990 }] } }

/-- SLOT_FAULT of slot 0 is listed. -/
def deskAlarm : State :=
  { desk.withSlot 0 fun r => { r with alert := { cls := some .slotFault, waiting := false, acked := none, raised := none } } with
    alerts := { list := [{ subject := .slot 0, cls := .slotFault, raised := some 1000 }], mask := none, lines := .attnOnly } }

/-- HOLD, with every unit DARK. -/
def deskHold : State :=
  { desk with
    mode := { desk.mode with level := .lost }
    units := Vector.replicate 25 { UnitRec.start with state := .dark, cause := none }
    release := { desk.release with budget := 0 } }

/-- A command is in flight, its last byte sent at 100. -/
def flying (s : State) (u : UnitIx) (c : BusCmd) : State :=
  { s with bus := { s.bus with flight := some { unit := u, cmd := c, phase := .awaiting 100, stale := false } } }

/-- Unit `u` is PROBING for `cause`, its PROBE in flight. -/
def probing (s : State) (u : UnitIx) (cause : ProbeCause) : State :=
  flying (s.withUnit u fun r => { r with state := .probing, cause := some cause }) u .probe

def latchOf (dir : LatchDir) (c : Option ChanNo) : LatchCmd := { slot := 0, dir, channel := c, age := 0, tries := 0 }

/-- The answer to an accepted RESTART is being sent. -/
def deskRestart : State := { desk with link := { desk.link with tx := .sending (.answer (plain 0x94 5 .ok)) } }

def stopped (s : State) : State := { s with power := { s.power with stopped := true } }

/-! ### Answer bodies with optional fields: one presence row behind the result (R179, log 17) -/

/-- Key 7 in slot 0: the Directory part and home are there, no class, no handed time, no custody. -/
theorem test_keyAnswer_bytes :
    KeyAnswer.bytes { entry := some key7, place := .inSlot 0 true, custody := none } =
        [0x03, 0, 1, 0, 0, 0, 0, 0, 0, 0, 1]
      ∧ KeyAnswer.bytes { entry := none, place := .inHand 3 9 (some 5) true, custody := some (1, .out) } =
        [0x30, 2, 0, 3, BitVec.ofNat 8 BinState.inHand.code, 0, 9, 0, 0, 0, 5, 1, 0, 0, 0, 1, BitVec.ofNat 8 BookingState.out.code] := by
  decide +kernel

/-- A queued release position: its own bit (the ninth), and neither channel nor seconds; an OPEN one: channel, then phase, then
seconds. -/
theorem test_bookingAnswer_bytes :
    (BookingAnswer.bytes { booking := booking1, position := some (.queued 4), remaining := none }).take 2 = [0x00, 0x01]
      ∧ (BookingAnswer.bytes { booking := booking1, position := some (.queued 4), remaining := none }).getLast? = some 4
      ∧ (BookingAnswer.bytes { booking := booking1, position := some (.opened 2 17), remaining := none }).take 2 = [0x00, 0x06]
      ∧ ((BookingAnswer.bytes { booking := booking1, position := some (.opened 2 17), remaining := none }).reverse.take 3).reverse =
        [2, BitVec.ofNat 8 ReleasePhase.opened.code, 17] := by decide +kernel

/-- Slot 0 of `desk`: tag 7 without a presence bit, since behind bit 0, home key 7, and 0 for no last release (R178). -/
theorem test_slotEntry_bytes :
    (desk.slotEntry 0).bytes.take 14 = [0x01, 1, 0, 0, 0, 7, 0, 0, 3, 132, 0, 0, 0, 7]
      ∧ (desk.slotEntry 1).bytes.take 11 = [0x00, 3, 0, 0, 0, 0, 0, 0, 0, 0, 0] := by decide +kernel

/-- A FREE channel: phase 0, no slot, booking 0; an OPENING one: phase 1, slot 5, booking 9. -/
theorem test_channel_shown :
    fields Channel.free.shown = [0x00, 0, 0, 0, 0, 0]
      ∧ fields (Channel.opening 5 9).shown = [0x01, 1, 0, 5, 0, 0, 0, 9] := by decide +kernel

/-- ALERT_QUERY's list: presence, more flag, lines, the record, the waiting count, and no count byte before the records or the
waiting subjects (R143). -/
theorem test_alertListAnswer_bytes :
    AlertListAnswer.bytes
        { mask := none, lines := .attnOnly, records := [({ subject := .slot 0, cls := .slotFault, raised := none }, 3)]
          waitCount := 1, waiters := [{ subject := .key 7, cls := .keyMissing, raised := none }] } =
      [0, 0, 4, 0, 2, 0, 0, 0, 0, BitVec.ofNat 8 AlertClass.slotFault.number, 3, 0, 1, 0, 3, 0, 0, 0, 7,
        BitVec.ofNat 8 AlertClass.keyMissing.number] := by decide +kernel

/-! ### Branch Link requests -/

theorem test_keyLoad :
    after (.keyLoad 5 [0, 0, 0, 9, 0, 3, 1, 0, 5]) desk (fun t => (t.directory.map (·.tag), results t)) = some ([7, 9], [.ok]) := by
  decide +kernel
theorem test_keyDrop : after (.keyDrop 5 [0, 0, 0, 7]) desk (fun t => (t.directory.length, results t)) = some (1, [.keyInUse]) := by
  decide +kernel
theorem test_bookingLoad :
    after (.bookingLoad 5 [0, 0, 0, 2, 0, 0, 0, 0, 7, 2, 0, 0, 7, 208, 10, 0, 60, 0, 4, 210]) desk
      (fun t => (t.bookings.map fun b => (b.number, b.due, b.code), results t)) =
      some ([(1, 2000, some 1234), (2, 2000, some 1234)], [.ok]) := by decide +kernel
theorem test_bookingAmend :
    after (.bookingAmend 5 [0, 0, 0, 1, 0x14, 0, 0, 7, 209, 0]) desk (fun t => (t.bookings.map fun b => (b.due, b.code), results t)) =
      some ([(2001, none)], [.ok]) := by decide +kernel
theorem test_bookingCancel :
    after (.bookingCancel 5 [0, 0, 0, 1]) deskQueued (fun t => (t.bookings.map (·.state), t.release.queue, results t)) =
      some ([.cancelled], [], [.ok]) := by decide +kernel
theorem test_bookingRetire :
    after (.bookingRetire 5 [0, 0, 0, 0]) (desk.withBooking 1 fun b => { b with state := .returned })
      (fun t => (t.bookings, t.link.answers.map (·.fields))) = some ([], [.retired 1]) := by decide +kernel
theorem test_policySet :
    after (.policySet 5 [1, 7, 5, 0]) desk (fun t => t.policyOf .due) =
      some { priority := 7, lines := { beacon := true, buzzer := false, attn := true }, enabled := false } := by decide +kernel
theorem test_paramSet :
    after (.paramSet 5 [2, 0, 250]) desk (fun t => (t.params.slowLatch, t.link.answers.map (·.fields))) =
      some (250, [.oldParam 120]) := by decide +kernel
theorem test_timeSet :
    after (.timeSet 5 [0, 0, 4, 0]) deskOpen (fun t => (t.time, t.chan 0)) = some (some 1024, .opened 0 1 1044) := by decide +kernel
theorem test_release :
    after (.release 5 [0, 0, 0, 1]) desk (fun t => (t.chan 0, t.bookings.map (·.state), results t)) =
      some (.opening 0 1, [.releasing], [.accepted]) := by decide +kernel
theorem test_alertAck :
    after (.alertAck 5 [2, 0, 0, 0, 0]) deskAlarm (fun t => (t.alerts.list, t.alerts.lines, (t.slot 0).alert.acked)) =
      some ([], .none, some .slotFault) := by decide +kernel
theorem test_alertMask :
    after (.alertMask 5 [60]) deskAlarm (fun t => (t.alerts.mask, t.alerts.lines)) = some (some 3600, .none) := by decide +kernel
theorem test_alertUnmask :
    after (.alertUnmask 5 []) { deskAlarm with alerts := { deskAlarm.alerts with mask := some 9, lines := .none } }
      (fun t => (t.alerts.mask, t.alerts.lines)) = some (none, .attnOnly) := by decide +kernel
theorem test_slotClear :
    after (.slotClear 5 [0, 0]) (deskAlarm.withSlot 0 fun r => { r with service := .quarantined, slow := 3 })
      (fun t => ((t.slot 0).service, (t.slot 0).slow, t.alerts.list)) = some (.inService, 0, []) := by decide +kernel
theorem test_slotQuarantine :
    after (.slotQuarantine 5 [0, 0]) desk (fun t => ((t.slot 0).service, (t.slot 0).lamp, (t.unit 0).quarantined)) =
      some (.quarantined, .fast, 1) := by decide +kernel
theorem test_moduleRevive :
    after (.moduleRevive 5 [31]) (desk.withUnit 24 fun r => { r with state := .absent })
      (fun t => ((t.unit 24).state, (t.unit 24).cause)) = some (.probing, some .reviveAbsent) := by decide +kernel
theorem test_binDiscard : after (.binDiscard 5 [0, 3]) deskInHand (fun t => (t.bin.entries, results t)) = some ([], [.ok]) := by
  decide +kernel
theorem test_serviceBegin :
    after (.serviceBegin 5 []) desk (fun t => (t.session.remaining, t.link.answers.map (·.fields))) = some (some 900, [.limit 900]) := by
  decide +kernel
theorem test_serviceEnd :
    after (.serviceEnd 5 []) deskService (fun t => (t.session, t.directory.map (·.missing))) =
      some ({ remaining := none, removals := [] }, [true]) := by decide +kernel
theorem test_restart :
    after (.restart 5 []) desk (fun t => (t.link.answers, t.bookings)) = some ([plain 0x94 5 .ok], [booking1]) := by decide +kernel
theorem test_statusQuery :
    after (.statusQuery 5 [0]) desk (fun t => t.link.answers.map fun a => (a.kind, a.tag, a.result)) = some [(0x95, 5, .ok)] := by
  decide +kernel
theorem test_statusQueryUnits : after (.statusQueryUnits 5 [1]) desk results = some [.ok] := by decide +kernel
theorem test_slotQuery :
    after (.slotQuery 5 [1, 127, 1]) desk (fun t => t.link.answers.map (·.fields)) =
      some [.slots [{ slot := .start, homeKey := none, misplaced := false, channel := .free }] false] := by decide +kernel
theorem test_bookingQuery :
    after (.bookingQuery 5 [0, 0, 0, 0, 1]) deskQueued (fun t => t.link.answers.map fun a => match a.fields with
      | .booking b => b.position
      | _ => none) = some [some (.queued 1)] := by decide +kernel
theorem test_bookingQueryList :
    after (.bookingQueryList 5 [1, 0, 0, 0, 0]) desk (fun t => t.link.answers.map (·.fields)) =
      some [.bookings [{ number := 1, kind := .rental, key := 7, state := .loaded, stage := none }] false] := by decide +kernel
theorem test_keyQuery :
    after (.keyQuery 5 [0, 0, 0, 7]) desk (fun t => t.link.answers.map (·.fields)) =
      some [.key { entry := some key7, place := .inSlot 0 false, custody := none }] := by decide +kernel
theorem test_alertQuery :
    after (.alertQuery 5 [0]) deskAlarm (fun t => t.link.answers.map fun a => match a.fields with
      | .alerts x => x.records.map (·.2)
      | _ => []) = some [[3]] := by decide +kernel
theorem test_alertQuerySubject :
    after (.alertQuerySubject 5 [1, 2, 0, 0, 0, 0]) deskAlarm (fun t => t.link.answers.map (·.fields)) =
      some [.subject { cls := some .slotFault, listed := some 1, waiting := none, raised := some 1000, acked := none, active := none }] := by
  decide +kernel
theorem test_heartbeat :
    after (.heartbeat 5 []) desk (fun t => t.link.answers.map (·.fields)) = some [.heartbeat .connected (some 1000) 0 0] := by
  decide +kernel
theorem test_unknownKind :
    after (.unknownKind 0x40 5 []) desk (fun t => t.link.answers) =
      some [{ kind := 0xFF, tag := 5, result := .unknownKind, fields := .kindByte 0x40 }] := by decide +kernel

/-! ### Ports and start-up -/

theorem test_codeEntry :
    after (.codeEntry 5 [0, 0, 0, 1, 0, 4, 210]) desk (fun t => (t.chan 0, t.kiosk.tx)) =
      some (.opening 0 1, .sending (.answer { tag := 5, booking := 1, result := .accepted, accepted := some (0, 1) })) := by
  decide +kernel
theorem test_kioskUnknownKind :
    after (.kioskUnknownKind 0x62 5 []) desk (fun t => t.kiosk.tx) =
      some (.sending (.answer { tag := 5, booking := 0, result := .unknownKind, accepted := none })) := by decide +kernel
theorem test_frameCrcError : after (.frameCrcError .kiosk) desk (fun t => t.kiosk.counts.crc) = some 1 := by decide +kernel
theorem test_frameTimeout :
    after (.frameTimeout .branch 250) { desk with link := { desk.link with rx := .receiving 50 } }
      (fun t => (t.link.rx, t.link.counts.timeout)) = some (.searching, 1) := by decide +kernel
theorem test_frameFormatError : after (.frameFormatError .branch) desk (fun t => t.link.counts.format) = some 1 := by decide +kernel
theorem test_frameStartMarker : after (.frameStartMarker .kiosk 50) desk (fun t => t.kiosk.rx) = some (.receiving 50) := by
  decide +kernel
theorem test_linkFrameSent :
    after .linkFrameSent { desk with link := { desk.link with reports := [someReport] } } (fun t => (t.link.tx, t.link.reports)) =
      some (.sending (.report someReport), []) := by decide +kernel
theorem test_kioskFrameSent :
    after .kioskFrameSent { desk with kiosk := { desk.kiosk with tx := .sending (.notice { booking := 1, event := .taken }) } }
      (fun t => t.kiosk.tx) = some .idle := by decide +kernel
/-- The last byte of the answer to an accepted RESTART starts the part anew; of a refused one it does not (log 8). -/
theorem test_restartRequest :
    after (.restartRequest { Pins.atReset with strap1 := true }) deskRestart (fun t => (t.mode.cause, t.mode.rate, t.bookings)) =
        some (.restartRequest, .baud230400, [])
      ∧ after .linkFrameSent deskRestart (fun t => (t.mode.cause, t.link.tx, t.bookings)) = some (.restartRequest, .idle, [])
      ∧ after .linkFrameSent { desk with link := { desk.link with tx := .sending (.answer (plain 0x94 5 .badField)) } }
        (fun t => (t.mode.cause, t.link.tx, t.bookings)) = some (.powerOn, .idle, [booking1]) := by decide +kernel
theorem test_powerOn : exec (.powerOn Pins.atReset false) State.reset = .next State.reset := rfl
theorem test_resetAsserted :
    after .resetAsserted deskAlarm (fun t => (t.power.stopped, t.alerts.lines, t.link.tx)) = some (true, .none, .idle) := by
  decide +kernel
theorem test_resetLine :
    after (.resetLine { Pins.atReset with strap0 := true, strap1 := true, panel := true }) (stopped desk)
      (fun t => (t.mode.cause, t.mode.rate, t.mode.strapFault, t.alerts.list.map (·.subject))) =
      some (.resetLine, .baud115200, true, [.cabinet .panelOpen]) := by decide +kernel

/-! ### Supply, panel and time -/

theorem test_supplyChange :
    after (.supplyChange false) desk (fun t => (t.mode.level, t.release.budget, (t.cond .supply).active)) = some (.low, 1, true) := by
  decide +kernel
theorem test_holdEntry :
    after (.holdEntry true)
      (State.withUnit { deskOpen with units := Vector.replicate 25 { UnitRec.start with state := .absent, cause := none } } 0 fun r =>
        { r with state := .online })
      (fun t => (t.chan 0, (t.unit 0).state, (t.slot 0).occ, (t.slot 0).tag)) = some (.free, .dark, .unknown, some 7) := by
  decide +kernel
theorem test_holdExit :
    after (.holdExit true) deskHold (fun t => ((t.unit 0).state, t.release.budget, t.bus.flight.map (·.cmd))) =
      some (.probing, 4, some .probe) := by decide +kernel
theorem test_panelChange :
    after (.panelChange true) desk (fun t => (t.mode.panelOpen, (t.cond .panelOpen).active)) = some (true, true) := by decide +kernel
theorem test_oneSecondBoundary :
    after .oneSecondBoundary deskInHand (fun t => (t.time, t.link.supervision, t.bin.entries.map (·.age))) =
      some (some 1001, some 29, [1801]) := by decide +kernel
theorem test_deadlineExpiry :
    after .deadlineExpiry { deskOut with time := some 2000 }
      (fun t => (t.bookings.map (·.stage), t.dueList, t.alerts.list.map (·.cls))) =
      some ([some .due], [{ deadline := 2600, booking := 1 }], [.due]) := by decide +kernel
theorem test_windowExpiry :
    after (.windowExpiry 0) { deskOpen with time := some 1020 }
      (fun t => (t.chan 0, t.bookings.map (·.state), (t.slot 0).lastRelease, t.alerts.list.map (·.cls))) =
      some (.closing 0 1 .expired, [.loaded], some 1, [.untaken]) := by decide +kernel
theorem test_recoveryRetry :
    after (.recoveryRetry 3) (desk.withUnit 2 fun r => { r with state := .recovery, retry := some 0 })
      (fun t => ((t.unit 2).state, (t.unit 2).cause)) = some (.probing, some .retry) := by decide +kernel
theorem test_unslottedLimitReached :
    after .unslottedLimitReached deskInHand (fun t => (t.bin.entries.map (·.unslotted), t.alerts.list.map (·.subject))) =
      some ([true], [.bin 3]) := by decide +kernel
theorem test_maskExpiry :
    after .maskExpiry { deskAlarm with alerts := { deskAlarm.alerts with mask := some 0, lines := .none } }
      (fun t => (t.alerts.mask, t.alerts.lines)) = some (none, .attnOnly) := by decide +kernel
theorem test_supervisionExpiry :
    after .supervisionExpiry { desk with link := { desk.link with supervision := some 0 } }
      (fun t => (t.link.state, t.link.counts.losses, (t.cond .linkLost).active)) = some (.standalone, 1, true) := by decide +kernel
theorem test_serviceLimitExpiry :
    after .serviceLimitExpiry { deskService with mode := { desk.mode with panelOpen := true } }
      (fun t => (t.session.remaining, t.directory.map (·.missing), (t.cond .serviceOverrun).active)) = some (none, [true], true) := by
  decide +kernel

/-! ### The Slot Bus -/

/-- Slot 0 reported with tag 7 and its latch open, the rest EMPTY. -/
def statusTag7 : List Byte := [0xC1, 0, 0, 0, 7] ++ bytesOf 75

/-- The open latch of slot 0 holds no channel, so a stray close goes to unit 0 first (R29). -/
theorem test_probeReply :
    after (.probeReply 1 (0 :: statusTag7)) (probing State.reset 0 .start)
      (fun t => ((t.unit 0).state, (t.slot 0).tag, (t.slot 1).occ, t.bus.flight.map (·.unit))) =
      some (.online, some 7, .empty, some 0) := by decide +kernel
theorem test_pollReply_take :
    after (.pollReply 1 [1, 0x07, 0, 0, 0, 0]) (flying deskOpen 0 .poll)
      (fun t => (t.chan 0, t.bookings.map (·.state), t.dueList, (t.slot 0).occ)) =
      some (.closing 0 1 .taken, [.out], [{ deadline := 2000, booking := 1 }], .empty) := by decide +kernel
/-- The OPEN waits with age 3 between others; the CLOSE takes its place (R89). -/
theorem test_pollReply_early_take :
    after (.pollReply 1 [1, 0x07, 0, 0, 0, 0]) (flying deskOpeningWaits 0 .poll)
      (fun t => (t.chan 0, t.bookings.map (·.state), t.bus.latches)) =
      some (.closing 0 1 .taken, [.out],
        [{ latchOf .closeIt (some 0) with age := 3 }, { slot := 18, dir := .closeIt, channel := none, age := 4, tries := 0 }]) := by
  decide +kernel
theorem test_pollReply_return :
    after (.pollReply 1 [1, 0x03, 0, 0, 0, 7]) (flying deskOut 0 .poll)
      (fun t => (t.bookings.map fun b => (b.state, b.lateness), t.dueList, (t.slot 0).tag)) =
      some ([(.returned, some 0)], [], some 7) := by decide +kernel
theorem test_statusReply :
    after (.statusReply 1 statusTag7) (flying ((desk.withUnit 0 fun r => { r with resync := true }).withSlot 0 fun r => { r with occ := .unknown }) 0 .status)
      (fun t => ((t.unit 0).resync, (t.slot 0).occ, (t.slot 0).tag)) = some (false, .held, some 7) := by decide +kernel
theorem test_latchOpenReply :
    after (.latchOpenReply 1 [0, 30]) (flying deskOpening 0 (.latch (latchOf .openIt (some 0)))) (fun t => t.chan 0) =
      some (.opened 0 1 1020) := by decide +kernel
theorem test_latchCloseReply :
    after (.latchCloseReply 1 [0, 30]) (flying (deskAt (.closing 0 1 .taken)) 0 (.latch (latchOf .closeIt (some 0))))
      (fun t => (t.chan 0, (t.slot 0).channel)) = some (.free, none) := by decide +kernel
theorem test_lampsReply :
    after (.lampsReply 1 []) (flying (desk.withUnit 0 fun r => { r with misses := 2 }) 0 (.lamps (List.replicate 16 .off)))
      (fun t => (t.unit 0).misses) = some 0 := by decide +kernel
theorem test_flapReply :
    after (.flapReply 31 [0]) (flying desk 24 (.flap .unlocked)) (fun t => (t.chute.refused, (t.cond .chuteLocked).active)) =
      some (true, true) := by decide +kernel
theorem test_badReply :
    after .badReply (flying desk 0 .poll) (fun t => ((t.unit 0).misses, (t.unit 0).resync)) = some (1, true) := by decide +kernel
theorem test_replyDeadline :
    after (.replyDeadline 125) (flying (desk.withUnit 0 fun r => { r with misses := 2 }) 0 .poll)
      (fun t => ((t.unit 0).state, (t.unit 0).retry, (t.slot 0).occ)) = some (.recovery, some 2, .unknown) := by decide +kernel
theorem test_commandLastByteSent :
    after (.commandLastByteSent 9) State.reset (fun t => (t.sbde, t.bus.flight.map (·.phase))) = some (false, some (.awaiting 9)) := by
  decide +kernel

/-! ### States that meet the statements' hypotheses

For every statement of Obligations.lean with hypotheses: a state and operands that meet them together, each clause with one of
its own at the edge of its range. -/

theorem hears_of {s : State} (h : s.power.stopped = false ∧ s.link.answers.length < 4) : s.hears := h

/-- What holds of every slot record in the list holds of every slot. -/
theorem all_slots {s : State} {p : SlotRec → Prop} [DecidablePred p] (h : s.slots.toList.all (fun r => decide (p r)) = true)
    (n : SlotNo) : p (s.slot n) := by
  have hm : s.slot n ∈ s.slots.toList := by
    rw [Vector.mem_toList_iff]
    exact Vector.getElem_mem n.isLt
  exact of_decide_eq_true (List.all_eq_true.mp h _ hm)

theorem awaits_flying {s : State} {u : UnitIx} {c : BusCmd} {addr : Byte}
    (h : s.power.stopped = false ∧ unitAddr u = addr.toNat ∧ (s.unit u).state = if c = .probe then .probing else .online) :
    (flying s u c).awaits u c addr :=
  And.intro h.1 (And.intro (Exists.intro _ (And.intro rfl (And.intro rfl (And.intro rfl rfl)))) h.2)

theorem missed_flying {s : State} {u : UnitIx} {c : BusCmd} (h : s.power.stopped = false) :
    (flying s u c).missedBy u c .badReply ∧ (flying s u c).missedBy u c (.replyDeadline 125) :=
  And.intro
    (And.intro h (Exists.intro _ (And.intro rfl (And.intro rfl (And.intro rfl (And.intro rfl (Or.inl rfl)))))))
    (And.intro h (Exists.intro _ (And.intro rfl (And.intro rfl (And.intro rfl (And.intro rfl
      (Or.inr (Exists.intro 100 (Exists.intro 125 (And.intro rfl (And.intro (by decide) rfl)))))))))))

/-- Every desk hears: the Answer Queue holds up to 3 answers. -/
theorem test_meets_hears :
    desk.hears ∧ { desk with link := { desk.link with answers := List.replicate 3 (plain 0x9A 1 .ok) } }.hears ∧ desk.kioskHears
      ∧ deskOut.hears ∧ deskQueued.hears ∧ deskOpen.hears ∧ deskOpening.hears ∧ deskInHand.hears ∧ deskService.hears
      ∧ deskAlarm.hears ∧ deskHold.hears := by
  unfold State.hears State.kioskHears; decide +kernel

theorem test_meets_StepRunsTheFrontCommand :
    { desk with pending := [.badReply, .heartbeat 5 []] }.pending = .badReply :: [.heartbeat 5 []] ∧ desk.pending = [] := by decide

theorem test_meets_StartUpSetsEveryStartUpValue :
    deskRestart.power = { stopped := false, powerOnWaits := false }
      ∧ deskRestart.link.tx = .sending (.answer (plain 0x94 5 .ok)) ∧ (plain 0x94 5 .ok).kind = 0x94 ∧ (plain 0x94 5 .ok).result = .ok
      ∧ desk.power.stopped = false ∧ (∀ a : Answer, desk.link.tx = .sending (.answer a) → ¬ (a.kind = 0x94 ∧ a.result = .ok)) := by
  refine And.intro rfl (And.intro rfl (And.intro rfl (And.intro rfl (And.intro rfl ?_))))
  intro a h
  exact absurd h (by simp [desk])

theorem test_meets_ResetStopsThePart :
    (stopped desk).power.stopped = true ∧ (∀ p b, Instr.badReply ≠ .powerOn p b) ∧ Instr.badReply ≠ .resetAsserted
      ∧ ∀ p, Instr.badReply ≠ .resetLine p := by
  refine ⟨rfl, ?_, ?_, ?_⟩ <;> simp

def deskFull : State :=
  { desk with
    link := { desk.link with answers := List.replicate 4 (plain 0x9A 1 .ok) }
    kiosk := { desk.kiosk with answer := some { tag := 1, booking := 1, result := .ok, accepted := none } } }

theorem test_meets_AnOverrunIsDiscardedAndCounted :
    deskFull.power.stopped = false ∧ (Instr.heartbeat 5 []).frame = some (.branch, 0x1A, 5, []) ∧ 4 ≤ deskFull.link.answers.length
      ∧ deskFull.link.state ≠ .standalone := by decide

/-- The body [] is misshapen for every fixed length from 1, the body [0] for the empty one; then the variable layouts: lengths just
outside their ranges, presence, flag and form bytes one past their last, and bodies no layout reads. -/
theorem test_meets_AMisshapenFrameIsRefused :
    (([] : List Byte).length ≠ 1 ∧ (bytesOf 3).length ≠ 2 ∧ (bytesOf 2).length ≠ 3 ∧ (bytesOf 5).length ≠ 4 ∧ (bytesOf 4).length ≠ 5
      ∧ bytesOf 1 ≠ [] ∧ (bytesOf 8).length ≠ 7)
      ∧ readKeyLoad (bytesOf 6) = none ∧ ((bytesOf 8).length ≠ 7 ∧ (bytesOf 8).length ≠ 9)
      ∧ (∃ p : Byte, (bytesOf 6 ++ [2])[6]? = some p ∧ 1 < p.toNat)
      ∧ readBookingLoad (bytesOf 18) = none ∧ (bytesOf 16).length < 17 ∧ 28 < (bytesOf 29).length
      ∧ (∃ p : Byte, (bytesOf 9 ++ [4])[9]? = some p ∧ 3 < p.toNat)
      ∧ readBookingAmend (bytesOf 6) = none ∧ (bytesOf 4).length < 5 ∧ 25 < (bytesOf 26).length
      ∧ (∃ p : Byte, (bytesOf 4 ++ [32])[4]? = some p ∧ 31 < p.toNat)
      ∧ (∃ p : Byte, ([2] : List Byte)[0]? = some p ∧ 1 < p.toNat)
      ∧ readAlertQuery (bytesOf 2) = none ∧ ((bytesOf 5).length ≠ 1 ∧ (bytesOf 5).length ≠ 6) :=
  And.intro (by decide) (And.intro (by decide) (And.intro (by decide) (And.intro (Exists.intro 2 (by decide)) (And.intro (by decide)
    (And.intro (by decide) (And.intro (by decide) (And.intro (Exists.intro 4 (by decide)) (And.intro (by decide) (And.intro (by decide)
    (And.intro (by decide) (And.intro (Exists.intro 32 (by decide)) (And.intro (Exists.intro 2 (by decide)) (by decide)))))))))))))

theorem test_meets_ReceiversCountWhatTheyDiscard :
    desk.power.stopped = false ∧ { desk.link with rx := .receiving 50 }.rx = .receiving 50 ∧ 50 + 200 ≤ 250 ∧ 249 < 50 + 200
      ∧ desk.link.rx = .searching ∧ desk.kiosk.enabled = true ∧ { desk.kiosk with rx := .receiving 50 }.rx = .receiving 50
      ∧ desk.kiosk.rx = .searching ∧ (KioskPort.start false).enabled = false
      ∧ (Instr.codeEntry 5 []).frame = some (.kiosk, 0x61, 5, []) ∧ deskFull.kiosk.enabled = true ∧ deskFull.kiosk.answer ≠ none
      ∧ { desk with kiosk := .start false }.kiosk.enabled = false := by decide

def deskReports (k : Nat) : State := { desk with link := { desk.link with reports := List.replicate k someReport } }

/-- The kiosk transmitter sends a frame, and `k` notices wait. -/
def deskNotices (s : State) (k : Nat) : State :=
  let n : Notice := { booking := 1, event := .taken }
  { s with kiosk := { s.kiosk with tx := .sending (.notice n), notices := List.replicate k n } }

theorem busy_notices (s : State) (k : Nat) (h : s.kiosk.enabled = true) : (deskNotices s k).kioskBusy := ⟨h, _, rfl⟩

theorem test_meets_TransmittersChooseTheNextFrame :
    (desk.power.stopped = false ∧ desk.link.tx = .sending (.report someReport) ∧ State.reset.link.tx = .idle
      ∧ ¬ ((plain 0x94 5 .badField).kind = 0x94 ∧ (plain 0x94 5 .badField).result = .ok)
      ∧ (deskNotices desk 0).kiosk.tx ≠ .idle ∧ desk.kiosk.tx = .idle
      ∧ (deskReports 31).link.reports.length < 32 ∧ (deskReports 32).link.reports.length = 32
      ∧ (deskNotices desk 3).kiosk.notices.length < 4 ∧ (deskNotices desk 4).kiosk.notices.length = 4
      ∧ desk.kiosk.enabled = true ∧ desk.kiosk.answer = none ∧ desk.kiosk.notices = [] ∧ (KioskPort.start false).enabled = false)
      ∧ (deskReports 31).linkBusy ∧ (deskReports 32).linkBusy
      ∧ (deskReports 32).link.reports = someReport :: someReport :: List.replicate 30 someReport
      ∧ (deskNotices desk 3).kioskBusy ∧ (deskNotices desk 4).kioskBusy
      ∧ (deskNotices desk 4).kiosk.notices = { booking := 1, event := .taken } :: List.replicate 3 { booking := 1, event := .taken } :=
  ⟨by decide +kernel, ⟨_, rfl⟩, ⟨_, rfl⟩, rfl, busy_notices desk 3 rfl, busy_notices desk 4 rfl, rfl⟩

/-- Home slots 383 and 384. -/
theorem test_meets_KeyLoadChecksThenLoads :
    readKeyLoad [0, 0, 0, 9, 0, 3, 1, 1, 127] = some { tag := 9, unit := 3, home := some 383 }
      ∧ readKeyLoad [0, 0, 0, 9, 0, 3, 1, 1, 128] = some { tag := 9, unit := 3, home := some 384 }
      ∧ readKeyLoad [255, 255, 255, 255, 0, 3, 0] = some { tag := 4294967295, unit := 3, home := none } := by decide

/-- The four-byte bodies: KEY_DROP, BOOKING_CANCEL, BOOKING_RETIRE, TIME_SET, RELEASE, KEY_QUERY. -/
theorem test_meets_four_byte_bodies :
    readOne 4 [0, 0, 0, 0] = some 0 ∧ readOne 4 [0, 0, 0, 1] = some 1 ∧ readOne 4 [255, 255, 255, 255] = some 4294967295 := by decide

/-- The one-byte and two-byte bodies, at the edges of a mask's minutes, an address, a slot and a drop number. -/
theorem test_meets_short_bodies :
    readOne 1 [0] = some 0 ∧ readOne 1 [1] = some 1 ∧ readOne 1 [24] = some 24 ∧ readOne 1 [25] = some 25 ∧ readOne 1 [31] = some 31
      ∧ readOne 1 [60] = some 60 ∧ readOne 1 [61] = some 61 ∧ readOne 2 [1, 127] = some 383 ∧ readOne 2 [1, 128] = some 384
      ∧ readOne 2 [255, 255] = some 65535 := by decide

theorem test_meets_BookingLoadChecksThenLoads :
    readBookingLoad [0, 0, 0, 2, 0, 0, 0, 0, 7, 2, 0, 0, 7, 208, 240, 5, 160, 15, 66, 63] =
        some { number := 2, kind := 0, key := 7, due := 2000, grace := 240, escalation := 1440, code := some 999999, window := none }
      ∧ readBookingLoad [0, 0, 0, 2, 1, 0, 0, 0, 7, 1, 0, 0, 7, 208, 241, 5, 161, 0, 0, 0, 9, 0, 0, 0, 8] =
        some { number := 2, kind := 1, key := 7, due := 2000, grace := 241, escalation := 1441, code := none, window := some (9, 8) } := by
  decide

/-- An absent booking, a LOADED one, and an OUT one with its stage at a set time. -/
theorem test_meets_BookingAmendChecksThenAmends :
    readBookingAmend [0, 0, 0, 2, 2, 240] =
        some { number := 2, due := none, grace := some 240, escalation := none, code := none, window := none }
      ∧ desk.booking? 2 = none ∧ desk.booking? 1 = some booking1 ∧ booking1.state ≠ .out
      ∧ readBookingAmend [0, 0, 0, 1, 4, 0, 0, 7, 209] =
        some { number := 1, due := some 2001, grace := none, escalation := none, code := none, window := none }
      ∧ readBookingAmend [0, 0, 0, 1, 2, 241] =
        some { number := 1, due := none, grace := some 241, escalation := none, code := none, window := none }
      ∧ readBookingAmend [0, 0, 0, 1, 16, 0] =
        some { number := 1, due := none, grace := none, escalation := none, code := some none, window := none }
      ∧ (deskOut.booking? 1).map (fun b => (b.state, b.stage)) = some (.out, some .onTime) ∧ deskOut.time = some 1000 := by
  decide +kernel

/-- LOADED, queued, OPEN, OPENING with its command sent, and OPENING with it not sent. -/
theorem test_meets_BookingCancelWithdrawsTheRelease :
    (desk.booking? 2 = none ∧ desk.booking? 1 = some booking1 ∧ booking1.state = .loaded
      ∧ (deskOut.booking? 1).map (·.state) = some .out ∧ (deskQueued.booking? 1).map (·.state) = some .releasing
      ∧ deskQueued.release.queue.find? (fun e => e.booking == 1) = some { booking := 1, slot := 0, source := .counter }
      ∧ (deskOpen.booking? 1).map (·.state) = some .releasing ∧ deskOpen.release.queue.find? (fun e => e.booking == 1) = none
      ∧ deskOpen.chanOfBooking 1 = some 0 ∧ deskOpen.chan 0 = .opened 0 1 1020
      ∧ deskOpening.chanOfBooking 1 = some 0 ∧ deskOpening.chan 0 = .opening 0 1 ∧ deskOpening.openSent 0 = false
      ∧ deskOpening.release.queue = [] ∧ (deskOpening.slot 0).service ≠ .quarantinePending
      ∧ (flying deskOpening 0 (.latch (latchOf .openIt (some 0)))).openSent 0 = true ∧ deskOpen.slotOnline 0 = true)
      ∧ deskOpen.granted ∧ (flying deskOpening 0 (.latch (latchOf .openIt (some 0)))).granted := by
  unfold State.granted; decide +kernel

/-- A kiosk release is queued, OPENING, OPEN, and its kiosk port is busy. -/
theorem test_meets_a_kiosk_release_tells :
    let own : State → State := fun s => deskNotices (s.withBooking 1 fun b => { b with source := some .kiosk }) 0
    (((own deskQueued).booking? 1).bind (·.source) = some .kiosk ∧ ((own deskOpening).booking? 1).bind (·.source) = some .kiosk
      ∧ ((own deskOpen).booking? 1).bind (·.source) = some .kiosk ∧ (own deskOpen).chan 0 = .opened 0 1 1020)
      ∧ (own deskQueued).kioskBusy ∧ (own deskOpening).kioskBusy ∧ (own deskOpen).kioskBusy :=
  ⟨by decide +kernel, busy_notices _ 0 rfl, busy_notices _ 0 rfl, busy_notices _ 0 rfl⟩

theorem test_meets_BookingRetireRemovesFinalBookings :
    (desk.booking? 1).map (·.state) = some .loaded ∧ desk.booking? 2 = none
      ∧ ((desk.withBooking 1 fun b => { b with state := .returned }).booking? 1).map (·.state) = some .returned := by decide +kernel

/-- Class 0 and 17, priority 8, lines 8, enabled 2 are refused; 16, 7, 7, 1 are taken. Parameter 1 at 4, 5, 60 and 61; parameters 0
and 7. -/
theorem test_meets_SettingsRequestsKeepTheirRanges :
    (readPolicySet [0, 0, 0, 0] = some { cls := 0, priority := 0, lines := 0, enabled := 0 }
      ∧ readPolicySet [17, 8, 8, 2] = some { cls := 17, priority := 8, lines := 8, enabled := 2 }
      ∧ readPolicySet [16, 7, 7, 1] = some { cls := 16, priority := 7, lines := 7, enabled := 1 }
      ∧ readPolicySet [1, 0, 0, 0] = some { cls := 1, priority := 0, lines := 0, enabled := 0 })
      ∧ readPair 1 2 [1, 0, 4] = some { first := 1, second := 4 } ∧ readPair 1 2 [1, 0, 5] = some { first := 1, second := 5 }
      ∧ readPair 1 2 [1, 0, 60] = some { first := 1, second := 60 } ∧ readPair 1 2 [1, 0, 61] = some { first := 1, second := 61 }
      ∧ readPair 1 2 [0, 0, 9] = some { first := 0, second := 9 } ∧ readPair 1 2 [7, 0, 9] = some { first := 7, second := 9 }
      ∧ readPair 1 2 [6, 0, 47] = some { first := 6, second := 47 } := by decide

/-- Time unset; set back; set forward short of the head's deadline 2000; set to that deadline. -/
theorem test_meets_TimeSetMovesWindowsAndStages :
    State.reset.time = none ∧ deskOut.time = some 1000 ∧ 1000 ≤ 1000 ∧ (∀ e ∈ deskOut.dueList, 1999 < e.deadline) ∧ 1000 < 2000
      ∧ deskOut.dueList = { deadline := 2000, booking := 1 } :: [] ∧ (deskOut.booking? 1).map (·.number) = some 1 := by
  decide +kernel

theorem test_meets_ReleaseIsCheckedAdmittedAndGranted :
    desk.admission 2 none ≠ .accepted ∧ desk.admission 1 none = .accepted ∧ desk.booking? 1 = some booking1
      ∧ desk.slotOfKey booking1.key = some 0 ∧ desk.release.queue = [] ∧ desk.usedChannels < desk.release.budget
      ∧ (desk.slot 0).occ = .held ∧ desk.chan 0 = .free ∧ (∀ c : ChanNo, c < 0 → desk.chan c ≠ .free)
      ∧ { desk with release := { desk.release with budget := 0 } }.admission 1 none = .accepted
      ∧ { desk with release := { desk.release with budget := 0 } }.release.budget ≤ desk.usedChannels
      ∧ (let e : QueueEntry := { booking := 9, slot := 9, source := .counter }
        { desk with release := { desk.release with queue := List.replicate 16 e } }.admission 1 none = .queueFull
          ∧ { desk with release := { desk.release with queue := List.replicate 15 e } }.admission 1 none = .accepted) := by
  decide +kernel

theorem test_meets_CodeEntryIsCheckedAdmittedAndGranted :
    readPair 4 3 [0, 0, 0, 1, 15, 66, 63] = some { first := 1, second := 999999 }
      ∧ readPair 4 3 [0, 0, 0, 1, 15, 66, 64] = some { first := 1, second := 1000000 }
      ∧ readPair 4 3 [0, 0, 0, 1, 0, 4, 210] = some { first := 1, second := 1234 }
      ∧ desk.admission 1 (some 999999) = .codeWrong ∧ desk.admission 1 (some 1234) = .accepted
      ∧ (desk.withBooking 1 fun b => { b with failures := 5 }).admission 1 (some 1234) = .kioskLocked
      ∧ (desk.withBooking 1 fun b => { b with failures := 4 }).admission 1 (some 1234) = .accepted := by decide +kernel

/-- Slot `n` waits with FOREIGN_KEY. -/
def waiting (s : State) (n : SlotNo) : State :=
  s.withSlot n fun r => { r with alert := { cls := some .foreignKey, waiting := true, acked := none, raised := some 990 } }

/-- `k` records are listed, those of bookings 100 and up. -/
def listing (s : State) (k : Nat) : State :=
  { s with
    alerts := { s.alerts with
      list := (List.range k).map fun i => { subject := .booking (100 + i), cls := .due, raised := some 900 } } }

/-- FOREIGN_KEY raised on slot 0: acknowledged, disabled, listed, waiting, with 7 records listed, and with 8. -/
theorem test_meets_ARaiseTakesTheFirstCaseThatApplies :
    (desk.alertOf (.slot 0) = some .clear ∧ (desk.policyOf .foreignKey).enabled = true
      ∧ AlertFields.clear.acked ≠ some .foreignKey ∧ AlertFields.clear.waiting = false
      ∧ ((desk.withSlot 0 fun r => { r with alert := { r.alert with acked := some .foreignKey } }).alertOf (.slot 0)).map (·.acked) =
        some (some .foreignKey)
      ∧ ({ desk with policy := Vector.replicate 16 { priority := 0, lines := .none, enabled := false } }.policyOf .foreignKey).enabled =
        false
      ∧ (deskAlarm.listed (.slot 0)).map (·.cls) = some .slotFault ∧ (deskAlarm.alertOf (.slot 0)).map (·.acked) = some none
      ∧ (waiting desk 0).listed (.slot 0) = none
      ∧ (waiting desk 0).alertOf (.slot 0) = some { cls := some .foreignKey, waiting := true, acked := none, raised := some 990 }
      ∧ (listing desk 7).listed (.slot 0) = none ∧ (listing desk 7).alerts.list.length < 8
      ∧ (listing desk 8).listed (.slot 0) = none ∧ 8 ≤ (listing desk 8).alerts.list.length
      ∧ desk.link.reports.length ≤ 30)
      ∧ desk.linkBusy
      ∧ desk.power.stopped = false ∧ desk.mode.panelOpen = false ∧ desk.session.remaining = none
      ∧ (desk.cond .serviceOverrun).active = false ∧ (desk.cond .panelOpen).active = false :=
  ⟨by decide +kernel, ⟨_, rfl⟩, by decide +kernel⟩

/-- The record of slot 0 is acknowledged with no subject waiting, and with slot 3 waiting. -/
theorem test_meets_AlertAckPromotes :
    ((deskAlarm.frameBegin.listed (.slot 0)).isSome = true ∧ deskAlarm.frameBegin.waitersInOrder = []
      ∧ ((waiting deskAlarm 3).frameBegin.listed (.slot 0)).isSome = true
      ∧ (waiting deskAlarm 3).frameBegin.waitersInOrder = [{ subject := .slot 3, cls := .foreignKey, raised := some 990 }]
      ∧ (((waiting deskAlarm 3).frameBegin.alertOf (.slot 0)).map (·.waiting)) = some false)
      ∧ (waiting deskAlarm 3).alertListBounded ∧ (waiting deskAlarm 3).tablesOrdered
      ∧ ((waiting deskAlarm 3).bin.entries.map (·.number)).Nodup := by
  unfold State.alertListBounded State.tablesOrdered
  decide +kernel

theorem test_meets_AlertAckTakesTheRecordOrMark :
    readPair 1 4 [2, 0, 0, 0, 0] = some { first := 2, second := 0 } ∧ Subject.ofWire 2 384 = none ∧ Subject.ofWire 6 0 = none
      ∧ Subject.ofWire 2 0 = some (.slot 0) ∧ Subject.ofWire 4 9 = some (.booking 9)
      ∧ deskAlarm.frameBegin.alertOf (.booking 9) = none
      ∧ (deskAlarm.frameBegin.alertOf (.slot 1)).map (·.waiting) = some false ∧ deskAlarm.frameBegin.listed (.slot 1) = none
      ∧ (deskAlarm.frameBegin.listed (.slot 0)).map (·.cls) = some .slotFault
      ∧ (let s := desk.withSlot 5 fun r => { r with alert := { cls := some .foreignKey, waiting := true, acked := none, raised := none } }
        s.frameBegin.listed (.slot 5) = none
          ∧ s.frameBegin.alertOf (.slot 5) = some { cls := some .foreignKey, waiting := true, acked := none, raised := none }) := by
  decide +kernel

theorem test_meets_TheMaskIsSetClearedAndExpires :
    { desk.alerts with mask := some 0 }.mask = some 0 ∧ { desk.alerts with mask := some 1 }.mask ≠ some 0 ∧ desk.alerts.mask ≠ some 0 := by
  decide

theorem test_meets_SlotClearReturnsASlotToService :
    (383 : SlotNo).val = 383 ∧ (desk.unit (modUnit (moduleOf 383))).state = .online
      ∧ (deskHold.unit (modUnit (moduleOf 383))).state ≠ .online := by decide +kernel

/-- A slot with a channel, a queued one, the fifteenth, the sixteenth, and one already QUARANTINED. -/
theorem test_meets_SlotQuarantineTakesASlotOutOfService :
    (deskOpen.slot 0).channel ≠ none ∧ (deskQueued.slot 0).queued = true ∧ (desk.slot 0).channel = none ∧ (desk.slot 0).queued = false
      ∧ ((desk.withUnit 0 fun r => { r with quarantined := 14 }).unit (modUnit (moduleOf 0))).quarantined + 1 < 16
      ∧ ((desk.withUnit 0 fun r => { r with quarantined := 15 }).unit (modUnit (moduleOf 0))).quarantined = 15
      ∧ ((desk.withSlot 0 fun r => { r with service := .quarantined }).slot 0).service = .quarantined
      ∧ (deskHold.unit (modUnit (moduleOf 0))).state = .dark := by decide +kernel

theorem test_meets_ModuleReviveProbesAnAbsentOrRetiredUnit :
    unitAddr 0 = 1 ∧ unitAddr 23 = 24 ∧ unitAddr 24 = 31 ∧ ¬ (1 ≤ 25 ∧ 25 ≤ 24 ∨ 25 = 31)
      ∧ ((desk.withUnit 24 fun r => { r with state := .retired }).unit 24).state = .retired
      ∧ deskHold.mode.level = .lost := by decide +kernel

theorem test_meets_BinDiscardRemovesAnEntryInHand :
    desk.drop? 3 = none ∧ (deskInHand.drop? 3).map (·.state) = some .inHand
      ∧ (State.drop? { desk with bin := { entries := [dropEntry 3 .inBin], nextDrop := 4 } } 3).map (·.state) = some .inBin := by
  decide +kernel

theorem test_meets_ServiceBeginStartsASession :
    desk.mode.level ≠ .lost ∧ desk.session.remaining = none ∧ (∀ c : ChanNo, desk.chan c = .free) ∧ desk.release.queue = []
      ∧ deskHold.mode.level = .lost ∧ deskService.session.remaining ≠ none ∧ deskOpen.chan 0 ≠ .free ∧ deskQueued.release.queue ≠ [] := by
  decide +kernel

theorem test_meets_ASessionEndsByRequestOrLimit :
    desk.session.remaining = none ∧ deskService.session.remaining = some 0 ∧ deskService.power.stopped = false
      ∧ { desk.session with remaining := some 1 }.remaining ≠ some 0 := by decide +kernel

/-- Part 2; slot ranges of 0, 1, 16 and 17 slots, and one past slot 383. -/
theorem test_meets_StatusKeyAndSlotQueriesOnlyAnswer :
    (2 : Byte) ≠ 0 ∧ (2 : Byte) ≠ 1 ∧ readPair 2 1 [0, 0, 0] = some { first := 0, second := 0 }
      ∧ readPair 2 1 [1, 127, 1] = some { first := 383, second := 1 } ∧ readPair 2 1 [1, 112, 16] = some { first := 368, second := 16 }
      ∧ readPair 2 1 [1, 113, 16] = some { first := 369, second := 16 } ∧ readPair 2 1 [0, 0, 17] = some { first := 0, second := 17 } := by
  decide

theorem test_meets_BookingAndAlertQueriesOnlyAnswer :
    readBookingQuery [0, 0, 0, 0, 1] = some (.single 1) ∧ readBookingQuery [1, 0, 0, 0, 1] = some (.list 1)
      ∧ readAlertQuery [0] = some .list ∧ readAlertQuery [1, 2, 0, 0, 0, 0] = some (.subject 2 0)
      ∧ readAlertQuery [1, 2, 0, 0, 1, 128] = some (.subject 2 384) ∧ Subject.ofWire 2 384 = none
      ∧ Subject.ofWire 2 0 = some (.slot 0) ∧ (deskAlarm.frameBegin.alertOf (.slot 0)).isSome = true
      ∧ Subject.ofWire 4 9 = some (.booking 9) ∧ desk.frameBegin.alertOf (.booking 9) = none := by decide +kernel

/-- At GOOD and at LOW, with 24 reports waiting. -/
theorem test_meets_SupplyChangeSetsBudgetAndCondition :
    (desk.power.stopped = false ∧ desk.mode.level = .good ∧ (.low : SupplyLevel) ≠ .lost ∧ desk.release.queue = []
      ∧ (deskReports 24).link.reports.length ≤ 24) ∧ (deskReports 24).linkBusy := ⟨by decide, ⟨_, rfl⟩⟩

theorem test_meets_HoldEntryFreesAndDarkens : deskOpen.power.stopped = false ∧ deskOpen.mode.level ≠ .lost := by decide

theorem test_meets_HoldExitProbesDarkUnits :
    deskHold.power.stopped = false ∧ deskHold.mode.level = .lost ∧ deskHold.release.queue = []
      ∧ ∀ u : UnitIx, (deskHold.unit u).retireMark = false := by decide +kernel

theorem test_meets_PanelChangeJudgesTheConditions :
    desk.power.stopped = false ∧ desk.mode.panelOpen = false ∧ { desk.mode with panelOpen := true }.panelOpen ≠ false := by decide

/-- The deadline 2000 is not reached at 1999 and reached at 2000. -/
theorem test_meets_ADeadlineExpiryAdvancesTheHead :
    State.reset.time = none ∧ desk.dueList = [] ∧ deskOut.dueList = { deadline := 2000, booking := 1 } :: [] ∧ 1999 < 2000
      ∧ (deskOut.booking? 1).map (fun b => (b.stageAt 2000, b.alert.acked)) = some (.due, none)
      ∧ Stage.due.cls = some .due ∧ (deskOut.policyOf .due).enabled = true := by decide +kernel

theorem test_meets_AWindowExpiryClosesTheChannel :
    ((∀ n b d, desk.chan 0 ≠ .opened n b d) ∧ deskOpen.chan 0 = .opened 0 1 1020 ∧ deskOpen.time = some 1000 ∧ 1000 < 1020
      ∧ { deskOpen with time := some 1020 }.time = some 1020 ∧ deskOpen.slotOnline 0 = true)
      ∧ deskOpen.linkBusy ∧ (deskOpen.policyOf .untaken).enabled = true
      ∧ (deskOpen.booking? 1).map (·.alert.acked) = some none := by
  have h : desk.chan 0 = .free := by decide +kernel
  refine ⟨⟨?_, by decide +kernel⟩, ⟨_, rfl⟩, by decide +kernel⟩
  intro n b d
  rw [h]; simp

/-- Retry time 0; address 25 is no unit's; an age at the limit and one below it; supervision 0. -/
theorem test_meets_CountsThatRunOutAct :
    unitAddr 2 = (3 : Byte).toNat ∧ (∀ u : UnitIx, unitAddr u ≠ (25 : Byte).toNat)
      ∧ ((desk.withUnit 2 fun r => { r with state := .recovery, retry := some 0 }).unit 2).retry = some 0
      ∧ deskInHand.bin.entries.map (fun e => decide (60 * deskInHand.params.unslotted ≤ e.age)) = [true] ∧ desk.bin.entries = []
      ∧ desk.link.state = .connected ∧ { desk.link with supervision := some 0 }.supervision = some 0
      ∧ desk.link.supervision ≠ some 0 := by decide +kernel

theorem test_meets_TheBusTakesCommandsInOrder :
    desk.bus.flight = none ∧ desk.mode.level ≠ .lost
      ∧ (desk.unit (modUnit (moduleOf 0))).state = .online ∧ (desk.unit (modUnit (moduleOf 0))).resync = false := by decide +kernel

/-- No transaction; one whose 25 ms end at 125, at 124 and at 125; one to a unit that is no longer ONLINE; replies whose first byte has
no meaning, and layouts of the right and of a wrong length that cannot be read. -/
theorem test_meets_AReplyThatDoesNotBelongIsMissed :
    (desk.power.stopped = false ∧ desk.bus.flight = none
      ∧ (flying desk 0 .poll).bus.flight = some { unit := 0, cmd := .poll, phase := .awaiting 100, stale := false } ∧ 124 < 100 + 25
      ∧ unitAddr 0 ≠ (2 : Byte).toNat ∧ Instr.lampsReply 1 [] ≠ .pollReply 1 []
      ∧ ((flying deskHold 0 .poll).unit 0).state ≠ .online)
      ∧ (1 < (2 : Byte).toNat ∧ readFlapReply [2] = none) ∧ (2 < (3 : Byte).toNat ∧ readLatch [3, 0] = none)
      ∧ (16 < (17 : Byte).toNat % 32 ∧ readPoll readModuleEntry (17 :: bytesOf 85) = none)
      ∧ (bytesOf 1).length ≠ 1 + 5 * ((1 : Byte).toNat % 32) ∧ readPoll readModuleEntry [1, 0x00, 0, 0, 0, 0] = none
      ∧ readPoll readChuteEntry [1, 0x00, 0, 0, 0, 0] = none ∧ readProbe (modUnit 0) (1 :: bytesOf 80) = none
      ∧ readProbe chuteIx [1, 2, 0] = none ∧ readStatus chuteIx [0, 2] = none := by decide +kernel

theorem test_meets_AMissBelowThreeIsCounted :
    (flying (desk.withUnit 0 fun r => { r with misses := 1 }) 0 .poll).missedBy 0 .poll .badReply
      ∧ (flying (desk.withUnit 0 fun r => { r with misses := 1 }) 0 .poll).missedBy 0 .poll (.replyDeadline 125)
      ∧ ((flying (desk.withUnit 0 fun r => { r with misses := 1 }) 0 .poll).unit 0).state = .online
      ∧ ((flying (desk.withUnit 0 fun r => { r with misses := 1 }) 0 .poll).unit 0).misses < 2 :=
  ⟨(missed_flying rfl).1, (missed_flying rfl).2, by decide +kernel, by decide +kernel⟩

theorem test_meets_TheThirdMissLosesTheUnit :
    let s := flying (desk.withUnit 0 fun r => { r with misses := 2 }) 0 .poll
    s.missedBy 0 .poll .badReply ∧ (s.unit 0).state = .online ∧ 2 ≤ (s.unit 0).misses ∧ s.granted
      ∧ (∀ (k : ChanNo) (n : SlotNo), (s.chan k).slot? = some n → modUnit (moduleOf n) ≠ 0)
      ∧ (∀ e ∈ s.release.queue, modUnit (moduleOf e.slot) ≠ 0) ∧ (s.policyOf .moduleLost).enabled = true
      ∧ (s.unit 0).alert.acked ≠ some .moduleLost ∧ s.linkBusy := by
  refine ⟨(missed_flying rfl).1, by decide +kernel, by decide +kernel, Or.inl rfl, ?_, by decide, by decide +kernel, by decide +kernel, ⟨_, rfl⟩⟩
  have h : ∀ k : ChanNo, (flying (desk.withUnit 0 fun r => { r with misses := 2 }) 0 .poll).chan k = .free := by decide +kernel
  intro k n hk
  rw [h k] at hk
  simp [Channel.slot?] at hk

/-- The unit is lost with a channel OPENING, OPEN and CLOSING on it, each the only one of slot 0, and with a queue entry of slot 0;
the kiosk is told where the release was its own. -/
theorem test_meets_TheThirdMissFreesWhatTheUnitHeld :
    let lost : State → State := fun s => flying (s.withUnit 0 fun r => { r with misses := 2 }) 0 .poll
    let kiosk : State := deskNotices (deskOpen.withBooking 1 fun b => { b with source := some .kiosk }) 0
    (modUnit (moduleOf 0) = 0 ∧ (lost deskOpening).chan 0 = .opening 0 1 ∧ (lost deskOpen).chan 0 = .opened 0 1 1020
      ∧ (lost (deskAt (.closing 0 1 .taken))).chan 0 = .closing 0 1 .taken
      ∧ (∀ k : ChanNo, k ≠ 0 → (lost deskOpen).chan k = .free)
      ∧ (lost deskQueued).release.queue = [{ booking := 1, slot := 0, source := .counter }]
      ∧ (lost deskOpen).link.reports.length ≤ 8 ∧ ((lost deskOpen).unit 0).state = .online
      ∧ ((kiosk.booking? 1).bind (·.source)) = some .kiosk ∧ kiosk.kiosk.notices = [])
      ∧ kiosk.kioskBusy ∧ (lost deskOpen).linkBusy ∧ (lost deskQueued).missedBy 0 .poll .badReply
      ∧ (lost deskOpening).missedBy 0 .poll .badReply ∧ (lost (deskAt (.closing 0 1 .taken))).missedBy 0 .poll .badReply :=
  ⟨by decide +kernel, busy_notices _ 0 rfl, ⟨_, rfl⟩, (missed_flying rfl).1, (missed_flying rfl).1, (missed_flying rfl).1⟩

/-- The fourth and the fifth failed probe in a row. -/
theorem test_meets_AFailedProbeGoesByItsCause :
    (probing desk 0 .retry).missedBy 0 .probe .badReply ∧ ((probing desk 0 .retry).unit 0).state = .probing
      ∧ ((probing desk 0 .retry).unit 0).cause = some .retry
      ∧ ((probing (desk.withUnit 0 fun r => { r with attempts := 3 }) 0 .holdEnd).unit 0).attempts + 1 < 5
      ∧ 5 ≤ ((probing (desk.withUnit 0 fun r => { r with attempts := 4 }) 0 .holdEnd).unit 0).attempts + 1 :=
  ⟨(missed_flying rfl).1, by decide +kernel⟩

/-- The hatch is CLOSED in the record; a reply has it OPEN (0) or CLOSED (1). -/
theorem test_meets_AChuteProbeReplyBringsItOnline :
    (probing desk chuteIx .start).awaits chuteIx .probe 31 ∧ ((probing desk chuteIx .start).unit chuteIx).cause = some .start
      ∧ desk.chute.hatchOpen = false ∧ readProbe chuteIx [1, 0, 0] ≠ none ∧ readProbe chuteIx [1, 1, 1] ≠ none :=
  ⟨awaits_flying (by decide +kernel), by decide +kernel⟩

theorem test_meets_AStartProbeReplyFillsTheSlots :
    let st : List SlotStatus := { seen := .tagged 7, latchOpen := true } :: List.replicate 15 { seen := .empty, latchOpen := false }
    (probing State.reset 0 .start).awaits (modUnit 0) .probe 1
      ∧ ((probing State.reset 0 .start).unit (modUnit 0)).cause = some .start ∧ (probing State.reset 0 .start).directory = []
      ∧ readProbe (modUnit 0) (0 :: statusTag7) = some (.slots st)
      ∧ (∀ (tag : Nat) (n : SlotNo), .tagged tag ∈ st.map (·.seen) → ((probing State.reset 0 .start).slot n).tag ≠ some tag)
      ∧ (∀ tag : Nat, (st.map (·.seen)).count (.tagged tag) ≤ 1) := by
  refine ⟨awaits_flying (by decide +kernel), by decide +kernel, rfl, by decide +kernel, ?_, ?_⟩
  · have h := all_slots (s := probing State.reset 0 .start) (p := fun r => r.tag = none) (by decide +kernel)
    intro tag n _
    rw [h n]; simp
  · intro tag
    by_cases h : tag = 7
    · subst h; decide +kernel
    · have h' : ¬ 7 = tag := fun e => h e.symm
      simp [h']

/-- What the 16 positions of module 0 report: `a` at position 0, `b` at position 1, and the rest EMPTY. -/
def reports (a b : SlotSeen) (latchOpen : Bool) : List SlotStatus :=
  { seen := a, latchOpen } :: { seen := b, latchOpen := false } :: List.replicate 14 { seen := .empty, latchOpen := false }

/-- Every unit ONLINE, every slot EMPTY but slot 0, a STATUS read of module 0 in flight. -/
def reading (s : State) (r : SlotRec → SlotRec) : State :=
  flying (({ s with units := desk.units }.withSlot 0 fun _ => SlotRec.start).withSlot 0 r) 0 .status

def readingOut (r : SlotRec → SlotRec) : State := reading deskOut r

def held7 (r : SlotRec) : SlotRec := { r with occ := .held, tag := some 7, lastRelease := some 1, chatter := 4 }

/-- Module 0 comes back: PROBING for `cause` with slot 0 UNKNOWN and last-seen tag 7, key 7 in the Directory. -/
def back (cause : ProbeCause) : State :=
  probing ({ desk with slots := State.reset.slots }.withSlot 0 fun r => { r with occ := .unknown, tag := some 7 }) 0 cause

theorem agrees_of {s : State} {m : ModIx} {st : List SlotStatus} {but : Fin 16 → Bool}
    (h : (positions.all fun p => but p || match st[p.val]? with
      | none => true
      | some x => match (s.slot (slotAt m p)).countedAs with
        | .empty => decide (x.seen = .empty)
        | .held k => decide (x.seen = .tagged k) || decide (x.seen = .unread)
        | .noTag => decide (x.seen = .unread)) = true) : s.agrees m st but := by
  intro p x hb hx
  have hp := List.all_eq_true.mp h p ((by decide : ∀ q : Fin 16, q ∈ positions) p)
  rw [hb, hx] at hp
  revert hp
  cases (s.slot (slotAt m p)).countedAs <;> simp

theorem apart_of {s : State} (y : SlotNo) (h : ∀ n : SlotNo, n = y ∨ (s.slot n).tag = none) : s.tagsApart := by
  intro n n' k hn hn'
  have h0 (x : SlotNo) (hx : (s.slot x).tag = some k) : x = y := by
    rcases h x with hp | hp
    · exact hp
    · rw [hx] at hp; cases hp
  rw [h0 n hn, h0 n' hn']

/-- Slot 0 UNKNOWN with last-seen tag 7 is reported with it, HELD with it is reported unread, and nothing is known of it, reported
EMPTY with its latch open; the chute unit reports its hatch OPEN or CLOSED. -/
theorem test_meets_AStatusReplyThatAgreesRestores :
    let unknown : State := reading State.reset fun r => { r with occ := .unknown, tag := some 7 }
    let held : State := reading State.reset held7
    let blank : State := reading State.reset fun r => { r with occ := .unknown, tag := none }
    (unknown.awaits (modUnit 0) .status 1 ∧ held.awaits (modUnit 0) .status 1 ∧ blank.awaits (modUnit 0) .status 1)
      ∧ (readStatus (modUnit 0) statusTag7 = some (.slots (reports (.tagged 7) .empty true))
        ∧ readStatus (modUnit 0) ([0x81] ++ bytesOf 79) = some (.slots (reports .unread .empty true))
        ∧ readStatus (modUnit 0) ([0x01] ++ bytesOf 79) = some (.slots (reports .empty .empty true))
        ∧ (blank.slot 0).channel = none ∧ blank.bus.latches = [])
      ∧ unknown.granted ∧ unknown.agrees 0 (reports (.tagged 7) .empty true) (fun _ => false)
      ∧ held.agrees 0 (reports .unread .empty true) (fun _ => false) ∧ blank.agrees 0 (reports .empty .empty true) (fun _ => false)
      ∧ unknown.tagsApart ∧ held.tagsApart ∧ blank.tagsApart
      ∧ (flying desk chuteIx .status).awaits chuteIx .status 31
      ∧ (∃ base : State, unknown.reads (.statusReply 1 statusTag7) 0 (reports (.tagged 7) .empty true) base)
      ∧ (∃ base : State, (back .retry).reads (.probeReply 1 (0 :: statusTag7)) 0 (reports (.tagged 7) .empty true) base)
      ∧ (∃ base : State, (back .start).reads (.probeReply 1 (0 :: statusTag7)) 0 (reports (.tagged 7) .empty true) base)
      ∧ (back .start).agrees 0 (reports (.tagged 7) .empty true) (fun _ => false) ∧ (back .start).tagsApart ∧ (back .start).granted :=
  ⟨⟨awaits_flying (by decide +kernel), awaits_flying (by decide +kernel), awaits_flying (by decide +kernel)⟩, by decide +kernel,
    Or.inl rfl, agrees_of (by decide +kernel), agrees_of (by decide +kernel), agrees_of (by decide +kernel),
    apart_of 0 (by decide +kernel), apart_of 0 (by decide +kernel), apart_of 0 (by decide +kernel), awaits_flying (by decide +kernel),
    ⟨_, _, _, Or.inl ⟨rfl, awaits_flying (by decide +kernel), by decide +kernel, rfl⟩⟩,
    ⟨_, _, _, Or.inr ⟨.retry, rfl, awaits_flying (by decide +kernel), by decide +kernel, by decide +kernel, Or.inl (by decide), rfl⟩⟩,
    ⟨_, _, _, Or.inr ⟨.start, rfl, awaits_flying (by decide +kernel), by decide +kernel, by decide +kernel, Or.inr (by decide), rfl⟩⟩,
    agrees_of (by decide +kernel), apart_of 0 (by decide +kernel), Or.inl rfl⟩

/-- Slot 0 holds key 7 and is reported EMPTY (a removal, forced, noted or late), with tag 8, and with key 7 at position 1 in its
stead (a move); it holds a key with no tag and is reported EMPTY, and with tag 7; it is EMPTY and is reported unread, and with tag
7, which is nowhere or is held live in slot 20. -/
theorem test_meets_AStatusReplyThatDiffersIsReconciled :
    let at0 : Fin 16 → Bool := fun q => q == 0
    let held : State := reading desk held7
    let noTag : State := readingOut fun r => { r with occ := .heldNoTag, tag := none }
    let empty : State := readingOut fun r => { r with occ := .empty, tag := none }
    let twice : State := reading (desk.withSlot 20 fun r => { r with occ := .held, tag := some 7 }) fun r =>
      { r with occ := .empty, tag := none }
    (held.awaits (modUnit 0) .status 1 ∧ noTag.awaits (modUnit 0) .status 1 ∧ empty.awaits (modUnit 0) .status 1
      ∧ twice.awaits (modUnit 0) .status 1)
      ∧ ((held.slot (slotAt 0 0)).countedAs = .held 7 ∧ (held.slot (slotAt 0 0)).lastRelease = some 1
        ∧ held.booking? 1 = some booking1 ∧ booking1.state = .loaded ∧ booking1.key = 7 ∧ held.release.queue = []
        ∧ held.time = some 1000 ∧ (held.slot (slotAt 0 0)).chatter < 5 ∧ (held.slot (slotAt 0 0)).channel = none
        ∧ (noTag.slot (slotAt 0 0)).countedAs = .noTag ∧ (noTag.slot (slotAt 0 0)).tag = none
        ∧ (empty.slot (slotAt 0 0)).countedAs = .empty ∧ (twice.slot (slotAt 0 0)).countedAs = .empty
        ∧ (twice.slot 20).occ = .held ∧ (twice.slot 20).tag = some 7 ∧ twice.slotOnline 20 = true
        ∧ (held.slot (slotAt 0 1)).countedAs = .empty ∧ (held.slot (slotAt 0 1)).channel = none
        ∧ (held.slot (slotAt 0 1)).chatter < 5 ∧ held.bin.entries = []
        ∧ readStatus (modUnit 0) statusTag7 = some (.slots (reports (.tagged 7) .empty true))
        ∧ readStatus (modUnit 0) (bytesOf 80) = some (.slots (reports .empty .empty false)))
      ∧ held.granted ∧ held.tagsApart ∧ held.agrees 0 (reports .empty .empty false) at0 ∧ held.agrees 0 (reports (.tagged 8) .empty false) at0
      ∧ held.agrees 0 (reports .empty (.tagged 7) false) (fun r => r == 0 || r == 1)
      ∧ noTag.agrees 0 (reports .empty .empty false) at0 ∧ noTag.agrees 0 (reports (.tagged 7) .empty true) at0 ∧ noTag.nowhere 7
      ∧ empty.agrees 0 (reports .unread .empty false) at0 ∧ empty.agrees 0 (reports (.tagged 7) .empty true) at0
      ∧ noTag.tagsApart ∧ empty.tagsApart ∧ held.nowhere 8
      ∧ twice.agrees 0 (reports (.tagged 7) .empty true) at0 ∧ twice.tagsApart ∧ noTag.granted ∧ empty.granted ∧ twice.granted :=
  ⟨⟨awaits_flying (by decide +kernel), awaits_flying (by decide +kernel), awaits_flying (by decide +kernel),
      awaits_flying (by decide +kernel)⟩, by decide +kernel,
    Or.inl rfl, apart_of 0 (by decide +kernel), agrees_of (by decide +kernel), agrees_of (by decide +kernel), agrees_of (by decide +kernel),
    agrees_of (by decide +kernel), agrees_of (by decide +kernel),
    And.intro (all_slots (p := fun r => r.tag ≠ some 7) (by decide +kernel)) (by decide +kernel),
    agrees_of (by decide +kernel), agrees_of (by decide +kernel), apart_of 0 (by decide +kernel), apart_of 0 (by decide +kernel),
    And.intro (all_slots (p := fun r => r.tag ≠ some 8) (by decide +kernel)) (by decide +kernel), agrees_of (by decide +kernel),
    apart_of 20 (by decide +kernel), Or.inl rfl, Or.inl rfl, Or.inl rfl⟩

/-- Slot 15 is EMPTY with five changes counted, and the key of the OUT booking is inserted there. -/
theorem test_meets_AnInsertionReturnsTheKey :
    let s := flying (deskOut.withSlot 15 fun r => { r with occ := .empty, chatter := 5 }) 0 .poll
    s.awaits (modUnit 0) .poll 1
      ∧ readPoll readModuleEntry [0x81, 0xF3, 0, 0, 0, 7] =
        some { overflow := true, entries := [{ pos := 15, change := .inserted 7, latchOpen := true }] }
      ∧ (s.slot (slotAt 0 15)).occ = .empty ∧ (s.slot (slotAt 0 15)).channel = none ∧ (s.slot (slotAt 0 15)).chatter < 6
      ∧ s.nowhere 7 ∧ (s.outBooking 7).map (·.number) = some 1 ∧ s.granted :=
  ⟨awaits_flying (by decide +kernel), by decide +kernel, by decide +kernel, by decide +kernel, by decide +kernel,
    And.intro (all_slots (p := fun r => r.tag ≠ some 7) (by decide +kernel)) (by decide +kernel), by decide +kernel, Or.inl rfl⟩

/-- A removal from slot 0 with the latch closed, and one with it open after the release that its last release names; the list of
a session with 31 removals and with 32. -/
theorem test_meets_ARemovalIsForcedNotedOrLate :
    let s := flying (desk.withSlot 0 fun r => { r with lastRelease := some 1, chatter := 5 }) 0 .poll
    s.awaits (modUnit 0) .poll 1
      ∧ readPoll readModuleEntry [1, 0x06, 0, 0, 0, 0] = some { overflow := false, entries := [{ pos := 0, change := .removed, latchOpen := false }] }
      ∧ readPoll readModuleEntry [1, 0x07, 0, 0, 0, 0] = some { overflow := false, entries := [{ pos := 0, change := .removed, latchOpen := true }] }
      ∧ ((s.slot (slotAt 0 0)).occ = .held ∧ (s.slot (slotAt 0 0)).tag = some 7 ∧ (s.slot (slotAt 0 0)).channel = none
        ∧ (s.slot (slotAt 0 0)).chatter < 6 ∧ s.booking? 1 = some booking1 ∧ (s.slot (slotAt 0 0)).lastRelease = some 1
        ∧ booking1.state = .loaded ∧ booking1.key = 7 ∧ s.release.queue = [] ∧ s.time = some 1000 ∧ s.session.remaining = none)
      ∧ (let r : Removal := { tag := none, slot := 9, time := none }
        (List.replicate 31 r).length < 32 ∧ ¬ (List.replicate 32 r).length < 32)
      ∧ s.granted ∧ s.linkBusy :=
  ⟨awaits_flying (by decide +kernel), by decide +kernel, by decide +kernel, by decide +kernel, by decide +kernel, Or.inl rfl, ⟨_, rfl⟩⟩

theorem test_meets_ARemovalFromAChannelsSlotGoesByItsPhase :
    let s := flying deskOpen 0 .poll
    s.awaits (modUnit 0) .poll 1
      ∧ readPoll readModuleEntry [1, 0x07, 0, 0, 0, 0] = some { overflow := false, entries := [{ pos := 0, change := .removed, latchOpen := true }] }
      ∧ ((s.slot (slotAt 0 0)).occ = .held ∧ (s.slot (slotAt 0 0)).channel = some 0 ∧ s.chan 0 = .opened (slotAt 0 0) 1 1020
        ∧ s.time = some 1000 ∧ (s.booking? 1).map (·.key) = some 7) ∧ s.granted ∧ s.linkBusy :=
  ⟨awaits_flying (by decide +kernel), by decide +kernel, by decide +kernel, Or.inl rfl, ⟨_, rfl⟩⟩

/-- Six changes since 995 and a seventh at 1000, with 14 slots of the module quarantined; the slot has a queue entry, or none; the
latch open with no last release, so that the removal is no late take. -/
theorem test_meets_the_seventh_change :
    let s7 : State → State := fun s =>
      (s.withSlot 0 fun r => { r with chatter := 6, chatterStart := some 995 }).withUnit 0 fun r => { r with quarantined := 14 }
    let s := flying (s7 desk) 0 .poll
    let q := flying (s7 deskQueued) 0 .poll
    let ins := flying (s7 deskOut) 0 .poll
    (s.awaits (modUnit 0) .poll 1 ∧ q.awaits (modUnit 0) .poll 1 ∧ ins.awaits (modUnit 0) .poll 1)
      ∧ ((s.slot (slotAt 0 0)).occ = .held ∧ (s.slot (slotAt 0 0)).tag = some 7 ∧ (s.slot (slotAt 0 0)).channel = none
        ∧ (s.unit (modUnit 0)).quarantined < 15 ∧ (s.emptied 0).chattered 0 = true ∧ (s.slot 0).lastRelease = none
        ∧ (q.emptied 0).chattered 0 = true ∧ q.release.queue.find? (fun e => e.slot == 0) ≠ none ∧ q.release.budget ≤ q.usedChannels
        ∧ (s.policyOf .slotFault).enabled = true ∧ (s.slot 0).alert.acked ≠ some .slotFault ∧ s.link.reports.length ≤ 20
        ∧ (ins.slot (slotAt 0 0)).occ = .empty ∧ (ins.slot (slotAt 0 0)).channel = none ∧ (ins.outBooking 7).isSome = true
        ∧ (ins.filled 0 .held (some 7)).chattered 0 = true)
      ∧ s.granted ∧ s.linkBusy ∧ ins.nowhere 7 :=
  ⟨⟨awaits_flying (by decide +kernel), awaits_flying (by decide +kernel), awaits_flying (by decide +kernel)⟩, by decide +kernel,
    Or.inl rfl, ⟨_, rfl⟩, And.intro (all_slots (p := fun r => r.tag ≠ some 7) (by decide +kernel)) (by decide +kernel)⟩

/-- Channel 0 of slot 0 OPENING with its OPEN waiting, and CLOSING with the slot's last release naming the booking or none. -/
theorem test_meets_a_removal_in_OPENING_and_CLOSING :
    let opening := flying deskOpeningWaits 0 .poll
    let closing := flying ((deskAt (.closing 0 1 .expired)).withSlot 0 fun r => { r with lastRelease := some 1 }) 0 .poll
    let late := flying ((deskAt (.closing 0 1 .expired)).withBooking 1 (fun b => { b with state := .loaded }) |>.withSlot 0 fun r =>
      { r with lastRelease := some 1 }) 0 .poll
    (opening.awaits (modUnit 0) .poll 1 ∧ closing.awaits (modUnit 0) .poll 1 ∧ late.awaits (modUnit 0) .poll 1)
      ∧ ((opening.slot 0).occ = .held ∧ (opening.slot 0).channel = some 0 ∧ opening.chan 0 = .opening 0 1
        ∧ opening.bus.latches.any (fun l => l.channel == some 0 && l.dir == .openIt) = true
        ∧ opening.release.queue = [] ∧ (opening.slot 0).service ≠ .quarantinePending ∧ opening.time = some 1000
        ∧ (opening.booking? 1).map (·.key) = some 7 ∧ opening.link.reports.length ≤ 20
        ∧ closing.chan 0 = .closing 0 1 .expired ∧ (closing.booking? 1).map (·.state) = some .releasing
        ∧ late.chan 0 = .closing 0 1 .expired ∧ (late.slot 0).lastRelease = some 1 ∧ late.release.queue = []
        ∧ (late.booking? 1).map (fun b => (b.state, b.key)) = some (.loaded, 7) ∧ (late.slot 0).tag = some 7)
      ∧ opening.granted ∧ closing.granted ∧ late.granted ∧ opening.linkBusy :=
  ⟨⟨awaits_flying (by decide +kernel), awaits_flying (by decide +kernel), awaits_flying (by decide +kernel)⟩, by decide +kernel,
    Or.inl rfl, Or.inl rfl, Or.inl rfl, ⟨_, rfl⟩⟩

/-- A drop at 48 entries IN_BIN; an unread drop and the drop of the OUT key at 47; a hatch that opens. -/
theorem test_meets_TheChuteRecordsDropsAndHandsThemOver :
    let bin (k : Nat) : BinList := { entries := List.replicate k (dropEntry 3 .inBin), nextDrop := 4 }
    let s := flying { deskOut with bin := bin 47 } chuteIx .poll
    (s.awaits chuteIx .poll 31 ∧ (flying { deskOut with bin := bin 48 } chuteIx .poll).awaits chuteIx .poll 31)
      ∧ (readPoll readChuteEntry [1, 0x08, 0, 0, 0, 7] = some { overflow := false, entries := [.drop 7] }
        ∧ readPoll readChuteEntry [1, 0x0A, 0, 0, 0, 0] = some { overflow := false, entries := [.dropUnread] }
        ∧ readPoll readChuteEntry [1, 0x0C, 0, 0, 0, 0] = some { overflow := false, entries := [.hatchOpened] }
        ∧ 48 ≤ (flying { deskOut with bin := bin 48 } chuteIx .poll).inBinCount ∧ s.inBinCount < 48 ∧ s.bin.entries.length < 64
        ∧ (∀ x ∈ s.bin.entries, x.number ≠ s.bin.nextDrop) ∧ (s.outBooking 7).map (·.number) = some 1 ∧ s.chute.hatchOpen = false)
      ∧ s.nowhere 7 ∧ s.linkBusy :=
  ⟨⟨awaits_flying (by decide +kernel), awaits_flying (by decide +kernel)⟩, by decide +kernel,
    And.intro (all_slots (p := fun r => r.tag ≠ some 7) (by decide +kernel)) (by decide +kernel), ⟨_, rfl⟩⟩

/-- Travel 120 is good at the default limit, 121 slow, 255 a jam; a coil fault; a close of a channel and a stray one. -/
theorem test_meets_LatchRepliesMoveTheChannel :
    ((flying deskOpening 0 (.latch (latchOf .openIt (some 0)))).awaits (modUnit (moduleOf 0)) (.latch (latchOf .openIt (some 0))) 1
      ∧ (flying (deskAt (.closing 0 1 .taken)) 0 (.latch (latchOf .closeIt (some 0)))).awaits (modUnit (moduleOf 0))
        (.latch (latchOf .closeIt (some 0))) 1
      ∧ (flying desk 0 (.latch (latchOf .closeIt none))).awaits (modUnit (moduleOf 0)) (.latch (latchOf .closeIt none)) 1)
      ∧ readLatch [0, 120] = some { coil := .normal, travel := 120 } ∧ readLatch [0, 121] = some { coil := .normal, travel := 121 }
      ∧ readLatch [0, 255] = some { coil := .normal, travel := 255 } ∧ readLatch [1, 0] = some { coil := .openCoil, travel := 0 }
      ∧ deskOpening.chan 0 = .opening 0 1 ∧ deskOpening.time = some 1000 ∧ desk.params.slowLatch = 120 ∧ deskOpening.release.queue = []
      ∧ (deskOpening.slot 0).service = .inService ∧ ((desk.withUnit 0 fun r => { r with quarantined := 14 }).unit 0).quarantined < 15
      ∧ (deskAt (.closing 0 1 .taken)).chan 0 = .closing 0 1 .taken :=
  ⟨⟨awaits_flying (by decide +kernel), awaits_flying (by decide +kernel), awaits_flying (by decide +kernel)⟩, by decide +kernel⟩

/-- A CLOSE that jams, and an OPEN that is good, slow or a fault, for a channel in CLOSING. -/
theorem test_meets_latch_replies_in_CLOSING :
    let closing := deskAt (.closing 0 1 .withdrawn)
    ((flying closing 0 (.latch (latchOf .openIt (some 0)))).awaits (modUnit (moduleOf 0)) (.latch (latchOf .openIt (some 0))) 1
      ∧ (flying closing 0 (.latch (latchOf .closeIt (some 0)))).awaits (modUnit (moduleOf 0)) (.latch (latchOf .closeIt (some 0))) 1)
      ∧ (readLatch [0, 255] = some { coil := .normal, travel := 255 } ∧ readLatch [2, 9] = some { coil := .shortCoil, travel := 9 }
        ∧ readLatch [0, 254] = some { coil := .normal, travel := 254 }
        ∧ closing.chan 0 = .closing 0 1 .withdrawn ∧ closing.release.queue = [] ∧ (closing.unit 0).quarantined < 15
        ∧ (closing.policyOf .slotFault).enabled = true ∧ (closing.slot 0).alert.acked ≠ some .slotFault
        ∧ closing.link.reports.length ≤ 20)
      ∧ closing.linkBusy :=
  ⟨⟨awaits_flying (by decide +kernel), awaits_flying (by decide +kernel)⟩, by decide +kernel, ⟨_, rfl⟩⟩

theorem test_meets_LampsFlapAndTheLastByte :
    (flying desk 0 (.lamps [])).awaits 0 (.lamps []) 1 ∧ (flying desk chuteIx (.flap .unlocked)).awaits chuteIx (.flap .unlocked) 31
      ∧ State.reset.bus.flight = some { unit := 0, cmd := .probe, phase := .transmitting, stale := false }
      ∧ (flying desk 0 .poll).bus.flight.map (·.phase) = some (.awaiting 100) :=
  ⟨awaits_flying (by decide +kernel), awaits_flying (by decide +kernel), by decide +kernel⟩

theorem test_meets_StagesLatchClassesAndLamps :
    254 ≤ 254 ∧ booking1.escalation ≠ 0 ∧ booking1.stageAt 1999 = .onTime ∧ booking1.stageAt 2000 = .due
      ∧ booking1.stageAt 2600 = .overdue ∧ booking1.stageAt 6200 = .escalated := by decide

theorem test_meets_QuietRequestsTouchNoAlertOrReport :
    desk.link.state ≠ .standalone
      ∧ Instr.heartbeat 5 [] ∈ [Instr.heartbeat 5 [], .unknownKind 0x40 5 []] := by decide

/-- The longest body and the longest payload are read back. -/
theorem test_meets_FramesAreReadBackAsTheCommandsTheyCarry :
    (Instr.keyLoad 5 (bytesOf 246)).wf = true ∧ (Instr.keyLoad 5 (bytesOf 246)).frame = some (.branch, 1, 5, bytesOf 246)
      ∧ (Instr.codeEntry 5 []).wf = true ∧ (Instr.codeEntry 5 []).frame = some (.kiosk, 0x61, 5, []) ∧ (bytesOf 119).length ≤ 119 := by
  decide +kernel

/-- The start-up state meets every invariant's premises, and an empty queue steps. -/
theorem test_meets_EveryStepKeepsTheInvariants :
    State.reset.portsBounded ∧ State.reset.alertListBounded ∧ State.reset.tablesBounded ∧ State.reset.tablesOrdered
      ∧ State.reset.linesRight ∧ State.reset.settingsInRange ∧ State.reset.timeInRange ∧ State.reset.holdQuiet
      ∧ step State.reset = .next State.reset := by
  have h : State.reset.portsBounded ∧ State.reset.alertListBounded ∧ State.reset.tablesBounded ∧ State.reset.tablesOrdered
      ∧ State.reset.linesRight := by
    unfold State.portsBounded State.alertListBounded State.tablesBounded State.tablesOrdered State.linesRight
    decide +kernel
  have hs : State.reset.settingsInRange := by
    refine And.intro (by decide) (And.intro (by decide) (And.intro (by decide) (And.intro (by decide) (And.intro (by decide)
      (And.intro (by decide) ?_)))))
    intro c
    cases c <;> decide
  exact ⟨h.1, h.2.1, h.2.2.1, h.2.2.2.1, h.2.2.2.2, hs, fun _ e => (by cases e), fun e => (by cases e), rfl⟩

end Sys2Proof.Tests
end

section
/-! SUPPORT. What a Directory request may read of a state is what `tables` keeps: states with equal tables have equal places of
a key, equal custody, and equal Directories up to the alert fields. -/

namespace Sys2Proof.Machine

/-! ### Lists up to what a bare form sets aside -/

theorem any_eq_of_map_eq {α : Type} (f : α → α) (p : α → Bool) {l m : List α} (h : l.map f = m.map f)
    (hp : ∀ a, p (f a) = p a) : l.any p = m.any p := by
  have through (k : List α) : k.any p = (k.map f).any p := by simp [List.any_map, Function.comp_def, hp]
  rw [through l, h, ← through m]

theorem insertBy_map {α : Type} (f : α → α) (before : α → α → Bool) (hb : ∀ a b, before (f a) (f b) = before a b)
    (x : α) (l : List α) : (insertBy before x l).map f = insertBy before (f x) (l.map f) := by
  induction l with
  | nil => rfl
  | cons y ys ih =>
    simp only [insertBy, List.map_cons, hb]
    split
    · rfl
    · rw [List.map_cons, ih]

/-! ### Reading the Directory, the slots, the bin and the bookings through the tables -/

theorem directory_bare {s t : State} (h : s.tables = t.tables) :
    s.directory.map KeyEntry.bare = t.directory.map KeyEntry.bare := congrArg State.directory h

theorem directory_length_congr {s t : State} (h : s.tables = t.tables) : s.directory.length = t.directory.length := by
  simpa using congrArg List.length (directory_bare h)

theorem entry?_eq_none_congr {s t : State} (h : s.tables = t.tables) (k : Nat) : s.entry? k = none ↔ t.entry? k = none := by
  rw [← Option.map_eq_none_iff (f := KeyEntry.bare), entry?_bare h, Option.map_eq_none_iff]

theorem entry?_any_congr {s t : State} (h : s.tables = t.tables) (k : Nat) (p : KeyEntry → Bool)
    (hp : ∀ e, p e.bare = p e) : (s.entry? k).any p = (t.entry? k).any p := by
  have through (o : Option KeyEntry) : o.any p = (o.map KeyEntry.bare).any p := by cases o <;> simp [hp]
  rw [through, entry?_bare h, ← through]

theorem slotOfKey_congr {s t : State} (h : s.tables = t.tables) (k : Nat) : s.slotOfKey k = t.slotOfKey k := by
  have e : s.slots.map SlotRec.bare = t.slots.map SlotRec.bare := congrArg State.slots h
  have through (u : State) : u.slotOfKey k =
      ((allSlots.zip (u.slots.map SlotRec.bare).toList).find? fun p => p.2.tag == some k).map (·.1) := by
    rw [Vector.toList_map, List.zip_map_right,
      find_map_bare (Prod.map id SlotRec.bare) (fun p => p.2.tag == some k) _ _ fun _ => rfl, Option.map_map]
    rfl
  rw [through, e, ← through]

theorem dropOfKey_isSome_congr {s t : State} (h : s.tables = t.tables) (k : Nat) :
    (s.dropOfKey k).isSome = (t.dropOfKey k).isSome := by
  have e : s.bin.entries.map DropEntry.bare = t.bin.entries.map DropEntry.bare :=
    congrArg (fun u : State => u.bin.entries) h
  have through (u : State) : (u.dropOfKey k).isSome =
      ((u.bin.entries.map DropEntry.bare).find? fun e => e.tag == some k).isSome := by
    rw [find_map_bare DropEntry.bare (fun e => e.tag == some k) _ _ fun _ => rfl, Option.isSome_map]
    rfl
  rw [through, e, ← through]

theorem placed_congr {s t : State} (h : s.tables = t.tables) (k : Nat) : s.placed k = t.placed k := by
  rw [State.placed, State.placed, slotOfKey_congr h, dropOfKey_isSome_congr h]

theorem keyInCustody_congr {s t : State} (h : s.tables = t.tables) (k : Nat) : s.keyInCustody k = t.keyInCustody k :=
  any_eq_of_map_eq Booking.bare (fun b => b.key == k && b.inCustody) (congrArg State.bookings h) fun _ => rfl

/-- Equal tables stay equal under Directories that differ in alert fields only. -/
theorem setDirectory_tables_congr {s t : State} (h : s.tables = t.tables) {d e : List KeyEntry}
    (hd : d.map KeyEntry.bare = e.map KeyEntry.bare) : (s.setDirectory d).tables = (t.setDirectory e).tables := by
  have through (u : State) (c : List KeyEntry) :
      (u.setDirectory c).tables = { u.tables with directory := c.map KeyEntry.bare } := rfl
  rw [through, h, hd, ← through]

/-! ### KEY_LOAD (R2, R3) -/

/-- The home a KEY_LOAD asks for, where it is 383 or less. -/
def KeyLoadReq.wanted (r : KeyLoadReq) : Option SlotNo := r.home.map (Fin.ofNat 384)

/-- An entry once the request's unit and home are written into the one with its tag (R3). -/
def KeyLoadReq.writeInto (r : KeyLoadReq) (e : KeyEntry) : KeyEntry :=
  if e.tag = r.tag then { e with unit := r.unit, home := r.wanted } else e

/-- The write keeps the alert fields, and does not depend on them. -/
theorem KeyLoadReq.writeInto_bare (r : KeyLoadReq) (e : KeyEntry) : (r.writeInto e).bare = r.writeInto e.bare := by
  by_cases same : e.tag = r.tag <;> simp [KeyLoadReq.writeInto, KeyEntry.bare, same]

/-- The result of KEY_LOAD: the first check of R2 that fails. -/
def State.keyLoadResult (s : State) (r : KeyLoadReq) : Result :=
  if 383 < r.home.getD 0 ∨ r.tag = 0 ∨ r.unit = 0 then .badField
  else if s.entry? r.tag = none ∧ 512 ≤ s.directory.length then .tableFull
  else if s.directory.any fun e => e.tag != r.tag && e.home.isSome && e.home == r.wanted then .homeTaken
  else if (s.entry? r.tag).any (fun e => e.home != r.wanted) ∧ (s.placed r.tag || s.keyInCustody r.tag) = true then .keyInUse
  else .ok

/-- The Directory after an accepted KEY_LOAD (R3). -/
def State.keyLoadDirectory (s : State) (r : KeyLoadReq) : List KeyEntry :=
  if s.entry? r.tag = none then
    insertBy (fun a b => decide (a.tag < b.tag))
      { tag := r.tag, unit := r.unit, home := r.wanted, missing := false, alert := .clear } s.directory
  else s.directory.map r.writeInto

theorem KeyLoadReq.homeSlot_of_le {r : KeyLoadReq} (h : r.home.getD 0 ≤ 383) : r.homeSlot = some r.wanted := by
  unfold KeyLoadReq.homeSlot KeyLoadReq.wanted
  cases hr : r.home with
  | none => rfl
  | some n =>
    have lt : n < 384 := by rw [hr, Option.getD_some] at h; omega
    simp [lt, Fin.ofNat, Nat.mod_eq_of_lt lt]

theorem KeyLoadReq.homeSlot_of_gt {r : KeyLoadReq} (h : 383 < r.home.getD 0) : r.homeSlot = none := by
  unfold KeyLoadReq.homeSlot
  cases hr : r.home with
  | none => simp [hr] at h
  | some n =>
    have ge : ¬ n < 384 := by rw [hr, Option.getD_some] at h; omega
    simp [ge]

/-- An absent home is never taken; a slot is taken by an entry with another tag (R2, check 3). -/
theorem homeTaken_eq_any (s : State) (tag : Nat) (home : Option SlotNo) :
    s.homeTaken tag home = s.directory.any fun e => e.tag != tag && e.home.isSome && e.home == home := by
  cases home with
  | none =>
    have never (e : KeyEntry) : ¬ (e.tag != tag && e.home.isSome && e.home == none) = true := by
      cases e.home <;> simp
    exact (List.any_eq_false.mpr fun e _ => never e).symm
  | some h =>
    have same (e : KeyEntry) :
        (e.tag != tag && e.home.isSome && e.home == some h) = (e.home == some h && e.tag != tag) := by
      cases e.home <;> simp [Bool.and_comm]
    simp only [same]
    rfl

/-- What an accepted KEY_LOAD does. -/
def State.keyLoadEffect (s : State) (r : KeyLoadReq) : State :=
  match s.entry? r.tag with
  | none => s.addKey r.tag r.unit r.wanted
  | some e => s.replaceEntry r.tag r.unit r.wanted e.home

/-- KEY_LOAD acts when every check passes, and otherwise is refused with the first that fails. -/
theorem keyLoad_eq (s : State) (r : KeyLoadReq) :
    s.keyLoad r = if s.keyLoadResult r = .ok then (s.keyLoadEffect r).accept else s.refuse (s.keyLoadResult r) := by
  unfold State.keyLoad State.keyLoadResult State.keyLoadEffect
  by_cases far : 383 < r.home.getD 0
  · simp [KeyLoadReq.homeSlot_of_gt far, far]
  · rw [KeyLoadReq.homeSlot_of_le (Nat.le_of_not_lt far)]
    by_cases zero : r.tag = 0 ∨ r.unit = 0
    · simp [far, zero]
    · cases entry : s.entry? r.tag with
      | none =>
        by_cases full : 512 ≤ s.directory.length
        · simp [far, zero, full, Config.directoryCap]
        · by_cases taken : s.homeTaken r.tag r.wanted <;>
            simp [far, zero, full, taken, Config.directoryCap, ← homeTaken_eq_any]
      | some e =>
        by_cases taken : s.homeTaken r.tag r.wanted
        · simp [far, zero, taken, ← homeTaken_eq_any]
        · by_cases kept : e.home = r.wanted
          · simp [far, zero, taken, kept, ← homeTaken_eq_any]
          · by_cases used : (s.placed r.tag || s.keyInCustody r.tag) = true
            · simp [far, zero, taken, kept, Ne.symm kept, used, ← homeTaken_eq_any]
            · simp [far, zero, taken, used, ← homeTaken_eq_any]

/-- The effect is the Directory's change and the lamps' (R3), and lamps are no table. -/
theorem keyLoadEffect_tables (s : State) (r : KeyLoadReq) :
    (s.keyLoadEffect r).tables = (s.setDirectory (s.keyLoadDirectory r)).tables := by
  unfold State.keyLoadEffect State.keyLoadDirectory
  cases s.entry? r.tag with
  | none => exact relampAll_tables _ _
  | some e => exact relampAll_tables _ _

theorem keyLoadResult_congr {s t : State} (h : s.tables = t.tables) (r : KeyLoadReq) :
    s.keyLoadResult r = t.keyLoadResult r := by
  have taken := any_eq_of_map_eq KeyEntry.bare (fun e => e.tag != r.tag && e.home.isSome && e.home == r.wanted)
    (directory_bare h) fun _ => rfl
  have moves := entry?_any_congr h r.tag (fun e => e.home != r.wanted) fun _ => rfl
  simp only [State.keyLoadResult, entry?_eq_none_congr h, directory_length_congr h, taken, moves, placed_congr h,
    keyInCustody_congr h]

theorem keyLoadDirectory_bare {s t : State} (h : s.tables = t.tables) (r : KeyLoadReq) :
    (s.keyLoadDirectory r).map KeyEntry.bare = (t.keyLoadDirectory r).map KeyEntry.bare := by
  simp only [State.keyLoadDirectory, entry?_eq_none_congr h]
  split
  · rw [insertBy_map KeyEntry.bare _ fun _ _ => rfl, directory_bare h, ← insertBy_map KeyEntry.bare _ fun _ _ => rfl]
  · have through (d : List KeyEntry) : (d.map r.writeInto).map KeyEntry.bare = (d.map KeyEntry.bare).map r.writeInto := by
      simp [KeyLoadReq.writeInto_bare]
    rw [through, directory_bare h, ← through]

/-- Step 1 of R148 touches nothing that KEY_LOAD reads. -/
theorem heard_keyLoad (s : State) (r : KeyLoadReq) :
    s.heard.keyLoadResult r = s.keyLoadResult r ∧ s.heard.keyLoadDirectory r = s.keyLoadDirectory r := by
  unfold State.heard
  split <;> exact ⟨rfl, rfl⟩

/-- KEY_LOAD in the state that step 1 of R148 leaves answers and acts as the state before decides. -/
theorem keyLoad_frameBegin (s : State) (r : KeyLoadReq) :
    (s.frameBegin.keyLoad r).2 = .of (s.keyLoadResult r)
      ∧ (s.frameBegin.keyLoad r).1.tables =
        (if s.keyLoadResult r = .ok then s.heard.setDirectory (s.keyLoadDirectory r) else s.heard).tables := by
  have same := frameBegin_tables s
  obtain ⟨res, dir⟩ := heard_keyLoad s r
  rw [keyLoad_eq, keyLoadResult_congr same, res]
  by_cases ok : s.keyLoadResult r = .ok
  · rw [if_pos ok, if_pos ok, ok]
    refine ⟨rfl, (keyLoadEffect_tables _ _).trans (setDirectory_tables_congr same ?_)⟩
    rw [keyLoadDirectory_bare same, dir]
  · rw [if_neg ok, if_neg ok]
    exact ⟨rfl, same⟩

/-- Settles O9: the served request is the owner's action after step 1 of R148 (`takeRequest_served`), whose reply and tables
`keyLoad_frameBegin` reads off the state before it. -/
theorem keyLoadChecksThenLoads : Obligations.KeyLoadChecksThenLoads := by
  intro s tag body r hears read
  obtain ⟨reply, tables⟩ := keyLoad_frameBegin s r
  have served := takeRequest_served s (.keyLoad tag body) 0x01 tag (readKeyLoad body) r (fun r s => s.keyLoad r) hears read
    rfl ((keyLoad_calm _ _).linkKept (frameBegin_tx s))
  rw [reply] at served
  exact served.congr tables

end Sys2Proof.Machine
end

section
/-! SUPPORT. BOOKING_LOAD: the checks of R62 as one decision, what an accepted load adds (R63), and what of a state they
read. -/

namespace Sys2Proof.Machine

/-! ### The checks of R62 -/

/-- The kind a BOOKING_LOAD asks for, where its byte is 0 or 1. -/
def BookingLoadReq.wantedKind (r : BookingLoadReq) : BookingKind := if r.kind = 0 then .rental else .service

theorem BookingLoadReq.ofCode_kind_of_le {r : BookingLoadReq} (h : r.kind ≤ 1) :
    BookingKind.ofCode r.kind = some r.wantedKind := by
  unfold BookingLoadReq.wantedKind
  obtain rental | service := Nat.le_one_iff_eq_zero_or_eq_one.mp h
  · rw [rental]; rfl
  · rw [service]; rfl

theorem BookingLoadReq.ofCode_kind_of_gt {r : BookingLoadReq} (h : 1 < r.kind) : BookingKind.ofCode r.kind = none := by
  match hk : r.kind with
  | 0 | 1 => omega
  | k + 2 => rfl

theorem BookingLoadReq.wantedKind_eq_service_iff {r : BookingLoadReq} (h : r.kind ≤ 1) :
    r.wantedKind = .service ↔ r.kind = 1 := by
  unfold BookingLoadReq.wantedKind
  obtain rental | service := Nat.le_one_iff_eq_zero_or_eq_one.mp h
  · simp [rental]
  · simp [service]

/-- An absent code is in range, as 0 is (R62, check 2). -/
theorem inRange_eq_false_iff (grace escalation : Nat) (code : Option Nat) :
    inRange grace escalation code = false ↔ 240 < grace ∨ 1440 < escalation ∨ 999999 < code.getD 0 := by
  cases code <;> simp [inRange, Config.graceMax, Config.escalationMax, Config.codeMax] <;> omega

/-- R62, check 3, fails on a SERVICE with a code, or on a window that ends before its start or starts no earlier than due. -/
theorem agrees_eq_false_iff (kind : BookingKind) (code : Option Nat) (window : Option (Nat × Nat)) (due : Nat) :
    agrees kind code window due = false ↔
      (kind = .service ∧ code ≠ none) ∨ (window.any fun w => decide (w.2 < w.1) || decide (due ≤ w.1)) = true := by
  have kinds : (kind == .rental || code.isNone) = false ↔ kind = .service ∧ code ≠ none := by
    cases kind <;> cases code <;> simp
  unfold agrees
  rw [Bool.and_eq_false_iff, kinds]
  cases window with
  | none => simp
  | some w => simp [Decidable.imp_iff_not_or]

/-- Some booking has the number exactly when the table finds one (R62, check 4). -/
theorem booking?_isSome_eq_any (s : State) (n : Nat) : (s.booking? n).isSome = s.bookings.any fun b => b.number == n :=
  List.isSome_find?

/-! ### What BOOKING_LOAD answers and adds -/

/-- The result of BOOKING_LOAD: the first check of R62 that fails. -/
def State.bookingLoadResult (s : State) (r : BookingLoadReq) : Result :=
  if s.time = none then .timeUnset
  else if r.number = 0 ∨ r.key = 0 ∨ 1 < r.kind ∨ 240 < r.grace ∨ 1440 < r.escalation ∨ 999999 < r.code.getD 0 then
    .badField
  else if (r.kind = 1 ∧ r.code ≠ none) ∨ (r.window.any fun w => decide (w.2 < w.1) || decide (r.due ≤ w.1)) = true then
    .badField
  else if s.bookings.any fun b => b.number == r.number then .duplicate
  else if 256 ≤ s.bookings.length then .tableFull
  else if s.entry? r.key = none then .notFound
  else .ok

/-- BOOKING_LOAD adds its booking when every check passes, and otherwise is refused with the first that fails. -/
theorem bookingLoad_eq (s : State) (r : BookingLoadReq) :
    s.bookingLoad r =
      if s.bookingLoadResult r = .ok then (s.addBooking (r.booking r.wantedKind)).accept
      else s.refuse (s.bookingLoadResult r) := by
  unfold State.bookingLoad State.bookingLoadResult
  by_cases unset : s.time = none
  · simp [unset]
  by_cases odd : 1 < r.kind
  · simp [unset, odd, BookingLoadReq.ofCode_kind_of_gt odd]
  have kind : r.kind ≤ 1 := Nat.le_of_not_lt odd
  simp only [unset, odd, if_false, false_or, BookingLoadReq.ofCode_kind_of_le kind, inRange_eq_false_iff,
    agrees_eq_false_iff, BookingLoadReq.wantedKind_eq_service_iff kind, booking?_isSome_eq_any, Config.bookingCap,
    Option.isNone_iff_eq_none]
  by_cases range : r.number = 0 ∨ r.key = 0 ∨ 240 < r.grace ∨ 1440 < r.escalation ∨ 999999 < r.code.getD 0
  · simp [range]
  by_cases disagrees : (r.kind = 1 ∧ r.code ≠ none) ∨
      (r.window.any fun w => decide (w.2 < w.1) || decide (r.due ≤ w.1)) = true
  · simp [range, disagrees]
  by_cases twice : (s.bookings.any fun b => b.number == r.number) = true
  · simp [range, disagrees, twice]
  by_cases full : 256 ≤ s.bookings.length
  · simp [range, disagrees, twice, full]
  by_cases keyless : s.entry? r.key = none <;> simp [range, disagrees, twice, full, keyless]

/-! ### What BOOKING_LOAD reads -/

theorem time_congr {s t : State} (h : s.tables = t.tables) : s.time = t.time :=
  show s.tables.time = t.tables.time from congrArg State.time h

theorem bookings_bare {s t : State} (h : s.tables = t.tables) :
    s.bookings.map Booking.bare = t.bookings.map Booking.bare := congrArg State.bookings h

theorem bookings_length_congr {s t : State} (h : s.tables = t.tables) : s.bookings.length = t.bookings.length := by
  simpa using congrArg List.length (bookings_bare h)

theorem bookingLoadResult_congr {s t : State} (h : s.tables = t.tables) (r : BookingLoadReq) :
    s.bookingLoadResult r = t.bookingLoadResult r := by
  have twice := any_eq_of_map_eq Booking.bare (fun b => b.number == r.number) (bookings_bare h) fun _ => rfl
  simp only [State.bookingLoadResult, time_congr h, twice, bookings_length_congr h, entry?_eq_none_congr h]

/-- Equal tables stay equal under Booking Tables that differ in alert fields only. -/
theorem setBookings_tables_congr {s t : State} (h : s.tables = t.tables) {l m : List Booking}
    (hl : l.map Booking.bare = m.map Booking.bare) : (s.setBookings l).tables = (t.setBookings m).tables := by
  have through (u : State) (c : List Booking) :
      (u.setBookings c).tables = { u.tables with bookings := c.map Booking.bare } := rfl
  rw [through, h, hl, ← through]

theorem addBooking_tables_congr {s t : State} (h : s.tables = t.tables) (b : Booking) :
    (s.addBooking b).tables = (t.addBooking b).tables := by
  refine setBookings_tables_congr h ?_
  rw [insertBy_map Booking.bare _ fun _ _ => rfl, bookings_bare h, ← insertBy_map Booking.bare _ fun _ _ => rfl]

/-- Step 1 of R148 touches nothing that BOOKING_LOAD reads. -/
theorem heard_bookingLoad (s : State) (r : BookingLoadReq) :
    s.heard.bookingLoadResult r = s.bookingLoadResult r ∧ s.heard.bookings = s.bookings := by
  unfold State.heard
  split <;> exact ⟨rfl, rfl⟩

/-- BOOKING_LOAD in the state that step 1 of R148 leaves answers and acts as the state before decides. -/
theorem bookingLoad_frameBegin (s : State) (r : BookingLoadReq) :
    (s.frameBegin.bookingLoad r).2 = .of (s.bookingLoadResult r)
      ∧ (s.frameBegin.bookingLoad r).1.tables =
        (if s.bookingLoadResult r = .ok then s.heard.addBooking (r.booking r.wantedKind) else s.heard).tables := by
  have same := frameBegin_tables s
  rw [bookingLoad_eq, bookingLoadResult_congr same, (heard_bookingLoad s r).1]
  by_cases ok : s.bookingLoadResult r = .ok
  · rw [if_pos ok, if_pos ok, ok]
    exact ⟨rfl, addBooking_tables_congr same _⟩
  · rw [if_neg ok, if_neg ok]
    exact ⟨rfl, same⟩

/-- Settles O11: the served request is the owner's action after step 1 of R148 (`takeRequest_served`), whose reply and tables
`bookingLoad_frameBegin` reads off the state before it. -/
theorem bookingLoadChecksThenLoads : Obligations.BookingLoadChecksThenLoads := by
  intro s tag body r hears read
  obtain ⟨reply, tables⟩ := bookingLoad_frameBegin s r
  rw [State.addBooking, (heard_bookingLoad s r).2] at tables
  have served := takeRequest_served s (.bookingLoad tag body) 0x03 tag (readBookingLoad body) r (fun r s => s.bookingLoad r)
    hears read rfl ((bookingLoad_calm _ _).linkKept (frameBegin_tx s))
  rw [reply] at served
  exact served.congr tables

end Sys2Proof.Machine
end

section
/-! SUPPORT. The watch stages of R119, the latch reply classes of R45 and the lamp patterns of R55. -/

namespace Sys2Proof.Machine

/-! ### Deadlines and stages (R119) -/

/-- With escalation 0 there is no escalation deadline, and with any other the watch compares it as it does the other two. -/
theorem Booking.stageAt_eq (b : Booking) (t : Nat) :
    b.stageAt t =
      if b.escalation ≠ 0 ∧ addTime b.overdueAt (60 * b.escalation) ≤ t then .escalated
      else if b.overdueAt ≤ t then .overdue
      else if b.due ≤ t then .due
      else .onTime := by
  unfold Booking.stageAt Booking.escalationAt
  by_cases h : b.escalation = 0
  · simp [h]
  · simp [h]

/-! ### Latch replies (R45) -/

theorem latchClass_openCoil (limit travel : Nat) (dir : LatchDir) :
    latchClass limit dir { coil := .openCoil, travel } = .fault .coilOpen := rfl

theorem latchClass_shortCoil (limit travel : Nat) (dir : LatchDir) :
    latchClass limit dir { coil := .shortCoil, travel } = .fault .coilShort := rfl

/-- A travel of 255 is a latch that never reached its end. -/
theorem latchClass_jammed (limit : Nat) (dir : LatchDir) :
    latchClass limit dir { coil := .normal, travel := 255 } = .fault .latchJammed := rfl

theorem latchClass_close_good (limit : Nat) {travel : Nat} (h : travel ≤ 254) :
    latchClass limit .closeIt { coil := .normal, travel } = .good := by
  have arrived : travel ≠ 255 := by omega
  simp [latchClass, arrived]

/-- Only an opening is judged by the slow-latch limit, and the limit itself is still good. -/
theorem latchClass_open_by_limit (limit : Nat) {travel : Nat} (h : travel ≤ 254) :
    latchClass limit .openIt { coil := .normal, travel } = if travel ≤ limit then .good else .slow := by
  have arrived : travel ≠ 255 := by omega
  by_cases inTime : travel ≤ limit
  · simp [latchClass, arrived, inTime]
  · simp [latchClass, arrived, inTime, Nat.lt_of_not_le inTime]

/-! ### The lamp pattern (R55) -/

/-- R55, line 2: a slot guides exactly while the channel it holds is in phase OPENING or OPEN. -/
theorem State.guides_iff (s : State) (r : SlotRec) :
    s.guides r = true ↔
      ∃ c n b, r.channel = some c ∧ (s.chan c = .opening n b ∨ ∃ d, s.chan c = .opened n b d) := by
  unfold State.guides
  cases r.channel with
  | none => simp
  | some c => cases phase : s.chan c <;> simp [phase]

/-- Settles O53: the deadlines are the model's own sums, held at the top of the count; the stage is `Booking.stageAt_eq`, the
classes are the five rows of R45, and the lamp turns on the phase of the slot's channel (`State.guides_iff`). -/
theorem stagesLatchClassesAndLamps : Obligations.StagesLatchClassesAndLamps := by
  refine ⟨fun b t => ⟨rfl, rfl, b.stageAt_eq t⟩, fun limit travel dir => ?_, fun s n => ?_⟩
  · exact ⟨latchClass_openCoil limit travel dir, latchClass_shortCoil limit travel dir, latchClass_jammed limit dir,
      fun h => ⟨latchClass_close_good limit h, latchClass_open_by_limit limit h⟩⟩
  · unfold State.lampOf
    cases held : (s.slot n).channel with
    | none => simp [s.guides_iff, held]
    | some c => cases phase : s.chan c <;> simp [s.guides_iff, held, phase]

end Sys2Proof.Machine
end

section
/-! SUPPORT. A Branch Link frame over a full Answer Queue (R149): the one event every Branch Link row is, what that event comes
to when the queue is full, and what the alert operations of its step 1 and the bus's choice at its end leave alone. -/

namespace Sys2Proof.Machine

/-! ### The Kiosk Port and the overrun count through an alert operation -/

/-- What an alert operation leaves of the two ports: the whole Kiosk Port, and the Branch Link's overrun count, since a report
can raise only the dropped count (R152). -/
structure PortsQuiet (s t : State) : Prop where
  kiosk : t.kiosk = s.kiosk := by rfl
  overrun : t.link.counts.overrun = s.link.counts.overrun := by rfl

theorem PortsQuiet.refl (s : State) : PortsQuiet s s := {}

theorem PortsQuiet.trans {s t u : State} (h : PortsQuiet s t) (k : PortsQuiet t u) : PortsQuiet s u where
  kiosk := k.kiosk.trans h.kiosk
  overrun := k.overrun.trans h.overrun

theorem BranchLink.choose_counts (l : BranchLink) : l.choose.counts = l.counts := by
  unfold BranchLink.choose
  split
  · rfl
  · split <;> rfl

theorem BranchLink.wake_counts (l : BranchLink) : l.wake.counts = l.counts := by
  unfold BranchLink.wake
  split
  · exact l.choose_counts
  · rfl

theorem BranchLink.enqueue_overrun (l : BranchLink) (r : Report) : (l.enqueue r).counts.overrun = l.counts.overrun := by
  unfold BranchLink.enqueue
  split
  · split <;> rfl
  · rfl

theorem queueReport_portsQuiet (s : State) (b : ReportBody) : PortsQuiet s (s.queueReport b) where
  overrun := (congrArg PortCounts.overrun (BranchLink.wake_counts _)).trans (BranchLink.enqueue_overrun _ _)

theorem relamp_portsQuiet (s : State) (n : SlotNo) : PortsQuiet s (s.relamp n) := by
  unfold State.relamp
  split
  · exact .refl s
  · unfold State.wantLamps
    split <;> exact {}

theorem setAlert_portsQuiet (s : State) (x : Subject) (f : AlertFields) : PortsQuiet s (s.setAlert x f) := by
  cases x with
  | slot n =>
    have written : PortsQuiet s (s.modSlot n fun r => { r with alert := f }) := {}
    exact written.trans (relamp_portsQuiet _ n)
  | _ => exact {}

theorem putAlertList_portsQuiet (s : State) (l : List AlertRec) : PortsQuiet s (s.putAlertList l) := {}

theorem appendRecord_portsQuiet (s : State) (x : Subject) (f : AlertFields) (c : AlertClass) (t : Option Nat) :
    PortsQuiet s (s.appendRecord x f c t) :=
  (setAlert_portsQuiet _ _ _).trans (putAlertList_portsQuiet _ _)

theorem promote_portsQuiet (s : State) (w : Waiter) : PortsQuiet s (s.promote w) := by
  unfold State.promote
  split
  · split
    · exact appendRecord_portsQuiet _ _ _ _ _
    · exact .refl s
  · exact .refl s

theorem afterLeaving_portsQuiet (s : State) (x : Subject) (c : AlertClass) (why : ClearReason) :
    PortsQuiet s (s.afterLeaving x c why) := by
  unfold State.afterLeaving
  split
  · exact queueReport_portsQuiet _ _
  · exact (promote_portsQuiet _ _).trans ((queueReport_portsQuiet _ _).trans (queueReport_portsQuiet _ _))

theorem leaveList_portsQuiet (s : State) (x : Subject) (f : AlertFields) (a : Option AlertClass) (c : AlertClass)
    (why : ClearReason) : PortsQuiet s (s.leaveList x f a c why) :=
  (setAlert_portsQuiet _ _ _).trans ((putAlertList_portsQuiet _ _).trans (afterLeaving_portsQuiet _ _ _ _))

theorem clearMark_portsQuiet (s : State) (x : Subject) (f : AlertFields) (a : Option AlertClass) (c : AlertClass)
    (why : ClearReason) : PortsQuiet s (s.clearMark x f a c why) :=
  (setAlert_portsQuiet _ _ _).trans (queueReport_portsQuiet _ _)

theorem withdrawAlert_portsQuiet (s : State) (x : Subject) (cs : List AlertClass) : PortsQuiet s (s.withdrawAlert x cs) := by
  have ackOnly (f : AlertFields) (a : Option AlertClass) :
      PortsQuiet s (if a = f.acked then s else s.setAlert x { f with acked := a }) := by
    split
    · exact .refl s
    · exact setAlert_portsQuiet _ _ _
  unfold State.withdrawAlert
  split
  · exact .refl s
  · dsimp only
    split
    · split
      · exact leaveList_portsQuiet _ _ _ _ _ _
      · exact ackOnly _ _
    · split
      · split
        · exact clearMark_portsQuiet _ _ _ _ _ _
        · exact ackOnly _ _
      · exact ackOnly _ _

theorem endCond_portsQuiet (s : State) (c : Condition) : PortsQuiet s (s.endCond c) := by
  have inactive : PortsQuiet s (s.putCond c { s.cond c with active := false }) := {}
  exact inactive.trans (withdrawAlert_portsQuiet _ _ _)

/-- Step 1 of R148 counts no overrun and does nothing at the Kiosk Port, also where it withdraws LINK_LOST (R154). -/
theorem frameBegin_portsQuiet (s : State) : PortsQuiet s s.frameBegin := by
  unfold State.frameBegin
  dsimp only
  split
  · have connected : PortsQuiet s (s.setLink s.link.connect) := {}
    exact connected.trans (endCond_portsQuiet _ _)
  · exact {}

/-- A change from AWAITING or CONNECTED "raises and withdraws nothing" (R154): step 1 is the change of the link alone. -/
theorem frameBegin_of_not_standalone {s : State} (h : s.link.state ≠ .standalone) :
    s.frameBegin = s.setLink s.link.connect := if_neg h

/-! ### What the bus's next command leaves alone -/

theorem alertOf_putUnit (s : State) (u : UnitIx) (r : UnitRec) (h : r.alert = (s.unit u).alert) (x : Subject) :
    (s.putUnit u r).alertOf x = s.alertOf x := by
  cases x with
  | module v =>
    simp only [State.alertOf, unit_putUnit]
    split
    · next same => rw [same, h]
    · rfl
  | _ => rfl

theorem send_kept (s : State) (u : UnitIx) (c : BusCmd) :
    (s.send u c).kiosk = s.kiosk ∧ (s.send u c).alerts = s.alerts ∧ ∀ x : Subject, (s.send u c).alertOf x = s.alertOf x := by
  cases c with
  | lamps patterns => exact ⟨rfl, rfl, alertOf_putUnit s u { s.unit u with lampsWanted := false } rfl⟩
  | _ => exact ⟨rfl, rfl, fun _ => rfl⟩

/-- The choice of R31 touches neither the Kiosk Port nor anything of the Alert Unit. -/
theorem chooseCommand_kept (s : State) :
    s.chooseCommand.kiosk = s.kiosk ∧ s.chooseCommand.alerts = s.alerts
      ∧ ∀ x : Subject, s.chooseCommand.alertOf x = s.alertOf x := by
  unfold State.chooseCommand
  split
  · exact ⟨rfl, rfl, fun _ => rfl⟩
  · split
    · exact send_kept _ _ _
    · exact ⟨rfl, rfl, fun _ => rfl⟩

/-! ### The event of a frame over a full Answer Queue -/

/-- Every row that comes in as a Branch Link frame is the event of R148 around some owner: the one its kind names, or for an
unknown kind the one that only answers UNKNOWN_KIND. No other row has such a frame. -/
theorem exec_branchFrame {i : Instr} {kind tag : Byte} {body : List Byte} (s : State)
    (h : i.frame = some (.branch, kind, tag, body)) :
    ∃ (answerKind : Byte) (owner : State → State × Reply),
      exec i s = .next (s.event fun s => s.takeFrame answerKind tag owner) := by
  cases i <;> cases h <;> exact ⟨_, _, rfl⟩

/-- What an overrun leaves before the bus's choice, as `Overrun` has it: step 1 of R148, the count, supervision, and the
transmitter's next answer. -/
def State.afterOverrun (s : State) : State :=
  s.frameBegin.setLink
    { s.frameBegin.link with
      tx := s.link.moved.1, answers := s.link.moved.2, supervision := some s.params.supervision
      counts := { s.frameBegin.link.counts with overrun := up s.frameBegin.link.counts.overrun } }

/-- While answers wait, the choice at the event's end moves the oldest answer into a transmitter that was not SENDING, and never
comes to a report (R151). -/
theorem deferred_choice_moves {l m : BranchLink} (tx : m.tx = l.connect.tx) (answers : m.answers = l.answers)
    (waiting : l.answers ≠ []) :
    (if m.tx = .deferred then m.choose else m) = { m with tx := l.moved.1, answers := l.moved.2 } := by
  obtain ⟨oldest, rest, queue⟩ := List.exists_cons_of_ne_nil waiting
  cases before : l.tx with
  | sending f =>
    have still : m.tx = .sending f := by simp [tx, BranchLink.connect, before]
    have moved : l.moved = (m.tx, m.answers) := by simp [BranchLink.moved, before, still, answers]
    rw [moved, if_neg (by simp [still])]
  | _ =>
    have deferred : m.tx = .deferred := by simp [tx, BranchLink.connect, before]
    simp [BranchLink.moved, BranchLink.choose, before, deferred, answers, queue]

theorem frameEnd_overrun {s : State} (waiting : s.link.answers ≠ []) : s.frameBegin.overrun.frameEnd = s.afterOverrun := by
  obtain ⟨tx, answers, -, -⟩ := frameBegin_link s
  have params : s.frameBegin.overrun.params = s.params := (frameBegin_calm s).params
  have choice := deferred_choice_moves (l := s.link)
    (m := { s.frameBegin.overrun.link with supervision := some s.params.supervision }) tx answers waiting
  unfold State.frameEnd
  rw [params]
  exact congrArg s.frameBegin.overrun.setLink choice

/-- The second step of R148 on a full queue: the owner is not run, whichever it is. -/
theorem event_takeFrame_of_full {s : State} (running : s.power.stopped = false) (full : 4 ≤ s.link.answers.length)
    (kind tag : Byte) (owner : State → State × Reply) :
    s.event (fun s => s.takeFrame kind tag owner) = s.afterOverrun.chooseCommand := by
  have waiting : s.link.answers ≠ [] := fun empty => by simp [empty] at full
  obtain ⟨-, answers, -, -⟩ := frameBegin_link s
  have capacity : Config.answerCap ≤ s.frameBegin.link.answers.length := by rw [answers]; exact full
  simp only [State.event, running, Bool.false_eq_true, if_false, State.takeFrame, if_pos capacity, frameEnd_overrun waiting]

theorem exec_of_full {s : State} {i : Instr} {kind tag : Byte} {body : List Byte} (running : s.power.stopped = false)
    (frame : i.frame = some (.branch, kind, tag, body)) (full : 4 ≤ s.link.answers.length) :
    exec i s = .next s.afterOverrun.chooseCommand := by
  obtain ⟨answerKind, owner, event⟩ := exec_branchFrame s frame
  rw [event, event_takeFrame_of_full running full]

/-- Settles O5: the event is `State.afterOverrun` with the bus's choice (`exec_of_full`); step 1 accounts for the tables, and
the Alert Unit is as before where there was no LINK_LOST to withdraw. -/
theorem anOverrunIsDiscardedAndCounted : Obligations.AnOverrunIsDiscardedAndCounted := by
  intro s i kind tag body running frame full
  have outcome := exec_of_full running frame full
  obtain ⟨link, -⟩ := chooseCommand_link s.afterOverrun
  obtain ⟨kiosk, alerts, alertOf⟩ := chooseCommand_kept s.afterOverrun
  obtain ⟨-, -, rx, state⟩ := frameBegin_link s
  have quiet := frameBegin_portsQuiet s
  refine ⟨outcome, _, outcome, (chooseCommand_tables _).trans (frameBegin_tables s), ?_⟩
  rw [link, kiosk, alerts]
  refine ⟨rfl, rx, state, rfl, congrArg up quiet.overrun, quiet.kiosk, fun attached => ?_⟩
  have begun := frameBegin_of_not_standalone attached
  have sameAlerts : s.frameBegin.alerts = s.alerts := by rw [begun]; rfl
  have sameReports : s.frameBegin.link.reports = s.link.reports := by rw [begun]; rfl
  have sameFields (x : Subject) : s.frameBegin.alertOf x = s.alertOf x := by rw [begun]; rfl
  exact ⟨sameAlerts, sameReports, fun x => (alertOf x).trans (sameFields x)⟩

end Sys2Proof.Machine
end

section
/-! SUPPORT. What a step can do, said once: a predicate kept by the operations inside an event (`Calm`) and by the few updates that
are not calm (a port's record, a setting, cabinet time, the pins, the supply level, the boundary, a start-up, RESET) is kept by
every step. -/

namespace Sys2Proof.Machine

/-- The cabinet mode a start-up begins with (R169, steps 2 to 4). -/
def startMode (pins : Pins) (cause : StartCause) : CabinetMode :=
  { level := supplyLevel pins.supa pins.supb, cause, rate := (linkRate pins.strap1 pins.strap0).1
    strapFault := (linkRate pins.strap1 pins.strap0).2, panelOpen := pins.panel, startOnline := 0, startReported := false }

/-- The state of a start-up before its report, its conditions and the bus's first command. -/
def startBase (pending : List Instr) (pins : Pins) (cause : StartCause) : State :=
  let mode := startMode pins cause
  let s := State.cleared pending pins mode pins.strap2 (budgetOf mode.level)
  if mode.level = .lost then s.startDark else s

theorem startUp_eq (pending : List Instr) (pins : Pins) (cause : StartCause) :
    startUp pending pins cause =
      (if (startMode pins cause).level = .good then startBase pending pins cause
        else ((startBase pending pins cause).supplyState none (budgetOf (startMode pins cause).level)).beginCond
          .supply).judgePanel.chooseCommand := rfl

/-- An update of the Branch Link's record that joins at most the answer there is room for (R149), and no report. -/
structure LinkGrows (l m : BranchLink) : Prop where
  answers : m.answers.length ≤ max 4 l.answers.length := by exact Nat.le_max_right _ _
  reports : m.reports.length ≤ l.reports.length := by exact Nat.le_refl _

/-- A predicate that every update out of which a step is made keeps, while the part runs. -/
structure Keeps (Inv : State → Prop) : Prop where
  calm : ∀ {s t : State}, Calm s t → s.power.stopped = false → Inv s → Inv t
  pending : ∀ {s : State} (x : List Instr), Inv s → Inv (s.setPending x)
  pins : ∀ {s : State} (x : Pins), Inv s → Inv (s.setPins x)
  link : ∀ {s : State} (l : BranchLink), LinkGrows s.link l → Inv s → Inv (s.setLink l)
  kiosk : ∀ {s : State} (k : KioskPort), k.notices.length ≤ s.kiosk.notices.length → Inv s → Inv (s.setKiosk k)
  policy : ∀ {s : State} (c : AlertClass) (p : PolicyEntry), s.power.stopped = false → p.priority ≤ 7 → Inv s →
    Inv (s.putPolicy c p).judgeLines
  params : ∀ {s : State} (n : ParamName) (v : Nat), n.range.1 ≤ v → v ≤ n.range.2 → Inv s →
    Inv (s.setParams (n.set v s.params))
  mask : ∀ {s : State} (m : Option Nat), s.power.stopped = false → Inv s →
    Inv (s.setAlerts { s.alerts with mask := m }).judgeLines
  time : ∀ {s : State} (t : Nat), t ≤ Config.maxTime → Inv s → Inv (s.setTime (some t))
  level : ∀ {s : State} (l : SupplyLevel), l ≠ .lost → Inv s → Inv ((s.setLevel l).setBudget (budgetOf l))
  hold : ∀ {s : State} (old : SupplyLevel), s.power.stopped = false → Inv s →
    Inv (((s.setLevel .lost).supplyState (some old) 0).setBudget 0).unitsDark
  boundary : ∀ {s : State}, s.power.stopped = false → Inv s → Inv s.boundary
  /-- A reply may put its unit ONLINE: in HOLD that matters only where HOLD is not yet known to be quiet. -/
  reply : (∀ (s : State) (u : UnitIx) (r : UnitRec), Inv s → Inv (s.putUnit u r))
    ∨ ∀ s : State, Inv s → s.mode.level = .lost → s.bus.flight = none
  cleared : ∀ (pending : List Instr) (pins : Pins) (mode : CabinetMode) (kioskOn : Bool), mode.level ≠ .lost →
    Inv (State.cleared pending pins mode kioskOn (budgetOf mode.level))
  dark : ∀ (pending : List Instr) (pins : Pins) (mode : CabinetMode) (kioskOn : Bool), mode.level = .lost →
    Inv (State.cleared pending pins mode kioskOn (budgetOf mode.level)).startDark
  stop : ∀ {s : State} (p : Power), p.stopped = true → Inv s → Inv { s.stop with power := p }

/-- A running part of which the predicate holds. -/
structure Running (Inv : State → Prop) (s : State) : Prop where
  run : s.power.stopped = false
  inv : Inv s

/-- Effects that keep a running part running and the predicate with it. -/
def Effect (Inv : State → Prop) (f : State → State) : Prop := ∀ s : State, Running Inv s → Running Inv (f s)

namespace Keeps

section
variable {Inv : State → Prop} (K : Keeps Inv)
include K

theorem running_calm {s t : State} (h : Calm s t) (r : Running Inv s) : Running Inv t :=
  ⟨(congrArg Power.stopped h.power).trans r.run, K.calm h r.run r.inv⟩

theorem effect_calm {f : State → State} (h : ∀ s, Calm s (f s)) : Effect Inv f := fun s r => K.running_calm (h s) r

/-- An event keeps what its effect keeps. -/
theorem event {s : State} (f : State → State) (h : Inv s) (hf : Running Inv s → Running Inv (f s)) : Inv (s.event f) := by
  cases run : s.power.stopped with
  | true => rw [event_stopped s f run]; exact h
  | false =>
    simp only [State.event, run, Bool.false_eq_true, if_false]
    exact (K.running_calm (chooseCommand_calm _) (hf ⟨run, h⟩)).inv

theorem event_calm {s : State} (f : State → State) (h : Inv s) (hf : Calm s (f s)) : Inv (s.event f) :=
  K.event f h fun r => K.running_calm hf r

/-! ### Frames -/

/-- What an owner must keep: the running part's predicate, and the room it was given in the Answer Queue. -/
def Owner (Inv : State → Prop) (owner : State → State × Reply) : Prop :=
  ∀ s : State, Running Inv s → Running Inv (owner s).1 ∧ (owner s).1.link.answers.length ≤ s.link.answers.length

theorem owner_calm {owner : State → State × Reply} (h : ∀ s, Calm s (owner s).1) : Owner Inv owner :=
  fun s r => ⟨K.running_calm (h s) r, (h s).answers⟩

omit K in
theorem frameEnd_grows (s : State) :
    LinkGrows s.link
      (let l := { s.link with supervision := some s.params.supervision }
       if l.tx = .deferred then l.choose else l) := by
  have answers := BranchLink.choose_answers { s.link with supervision := some s.params.supervision }
  have reports := BranchLink.choose_reports { s.link with supervision := some s.params.supervision }
  dsimp only at answers reports ⊢
  split
  · exact ⟨answers.trans (Nat.le_max_right _ _), reports⟩
  · exact {}

theorem takeFrame (kind tag : Byte) {owner : State → State × Reply} (ho : Owner Inv owner) :
    Effect Inv fun s => s.takeFrame kind tag owner := by
  intro s r
  beta_reduce
  have begin : Running Inv s.frameBegin :=
    K.running_calm (frameBegin_calm s) ⟨r.run, K.link _ (by unfold BranchLink.connect; exact {}) r.inv⟩
  have fin (t : State) (h : Running Inv t) : Running Inv t.frameEnd := ⟨h.run, K.link _ (frameEnd_grows t) h.inv⟩
  unfold State.takeFrame
  dsimp only
  split
  · exact fin _ ⟨begin.run, K.link _ {} begin.inv⟩
  · next room =>
    obtain ⟨kept, fits⟩ := ho _ begin
    refine fin _ ⟨kept.run, K.link _ ⟨?_, BranchLink.wake_reports _⟩ kept.inv⟩
    refine (BranchLink.wake_answers _).trans ?_
    simp only [Config.answerCap] at room
    simp only [List.length_append, List.length_singleton]
    omega

theorem takeRequest {α : Type} {s : State} (kind : Nat) (tag : Byte) (body : Option α) (owner : α → State → State × Reply)
    (ho : ∀ b, body = some b → Owner Inv (owner b)) (h : Inv s) : Inv (s.takeRequest kind tag body owner) := by
  refine K.event _ h (K.takeFrame _ tag ?_ s)
  cases body with
  | none => exact K.owner_calm fun s => Calm.refl s
  | some b => exact ho b rfl

theorem takeRequest_calm {α : Type} {s : State} (kind : Nat) (tag : Byte) (body : Option α)
    (owner : α → State → State × Reply) (ho : ∀ b s, Calm s (owner b s).1) (h : Inv s) :
    Inv (s.takeRequest kind tag body owner) :=
  K.takeRequest kind tag body owner (fun b _ => K.owner_calm (ho b)) h

theorem takeUnknown {s : State} (kind tag : Byte) (h : Inv s) : Inv (s.takeUnknown kind tag) :=
  K.event _ h (K.takeFrame _ tag (K.owner_calm fun s => Calm.refl s) s)

theorem takeKioskFrame {s : State} (tag : Byte) (owner : State → State × KioskReply) (after : KioskReply → State → State)
    (ho : ∀ s, Calm s (owner s).1) (ha : ∀ r s, Calm s (after r s)) (h : Inv s) : Inv (s.takeKioskFrame tag owner after) := by
  refine K.event _ h fun r => ?_
  have heard : Running Inv (s.setKiosk { s.kiosk with rx := .searching }) := ⟨r.run, K.kiosk _ (Nat.le_refl _) h⟩
  have placed (t : State) (a : KioskAnswer) (ht : Running Inv t) : Running Inv (t.placeKioskAnswer a) :=
    ⟨ht.run, K.kiosk _ (KioskPort.wake_kept _).2 ht.inv⟩
  dsimp only
  split
  · split
    · exact ⟨r.run, K.kiosk _ (Nat.le_refl _) h⟩
    · exact K.running_calm (ha _ _) (placed _ _ (K.running_calm (ho _) heard))
  · exact r

/-! ### The requests that are not calm -/

theorem policySet (r : PolicySetReq) : Owner Inv fun s => s.policySet r := by
  intro s h
  unfold State.policySet
  split
  · exact ⟨h, Nat.le_refl _⟩
  · split
    · exact ⟨h, Nat.le_refl _⟩
    · exact ⟨⟨h.run, K.policy _ _ h.run (by dsimp only; omega) h.inv⟩, Nat.le_refl _⟩

theorem paramSet (r : PairReq) : Owner Inv fun s => s.paramSet r := by
  intro s h
  unfold State.paramSet
  split
  · exact ⟨h, Nat.le_refl _⟩
  · next n _ =>
    split
    · exact ⟨h, Nat.le_refl _⟩
    · have judged := judgeNearFull_calm (s.setParams (n.set r.second s.params))
      exact ⟨K.running_calm judged ⟨h.run, K.params n _ (by omega) (by omega) h.inv⟩, judged.answers⟩

theorem alertMask (minutes : Nat) : Owner Inv fun s => s.alertMask minutes := by
  intro s h
  unfold State.alertMask
  split
  · exact ⟨h, Nat.le_refl _⟩
  · exact ⟨⟨h.run, K.mask _ h.run h.inv⟩, Nat.le_refl _⟩

theorem alertUnmask : Owner Inv fun s => s.alertUnmask := fun _ h => ⟨⟨h.run, K.mask _ h.run h.inv⟩, Nat.le_refl _⟩

theorem timeSet (t : Nat) (ht : t ≤ Config.maxTime) : Owner Inv fun s => s.timeSet t := fun s h =>
  ⟨K.running_calm (timeSet_calm s t) ⟨h.run, K.time t ht h.inv⟩, (timeSet_calm s t).answers⟩

/-! ### Replies -/

/-- A PROBE reply puts its unit's record ONLINE, and is calm before and behind that. -/
theorem deliverProbe_of_units (units : ∀ (s : State) (u : UnitIx) (r : UnitRec), Inv s → Inv (s.putUnit u r)) (u : UnitIx)
    (st : UnitStatus) : Effect Inv fun s => s.deliverProbe u st := by
  intro s r
  beta_reduce
  unfold State.deliverProbe
  cases (s.unit u).cause with
  | none => exact r
  | some cause =>
    dsimp only
    have counted := K.running_calm (countStart_calm s cause) r
    have entered : Running Inv ((s.countStart cause).enterOnline u cause) := by
      unfold State.enterOnline
      dsimp only
      generalize ({ (s.countStart cause).unit u with
        state := .online, cause := none, misses := 0, attempts := 0, retry := none, resync := false
        lampsWanted := u != chuteIx } : UnitRec) = online
      have withdrawn := withdrawAlert_calm ((s.countStart cause).putUnit u online) (.module u) [.moduleLost]
      have rest := Calm.ite (cause.reportsOnline = true) (fun _ => withdrawn.trans (moduleState_calm _ u .probing))
        fun _ => withdrawn
      exact K.running_calm rest ⟨counted.run, units _ u online counted.inv⟩
    generalize (s.countStart cause).enterOnline u cause = s1 at entered ⊢
    refine K.running_calm (thenGrant_calm _ u) (K.running_calm (Calm.ite _ (fun _ => startCheck_calm _) fun _ => Calm.refl _) ?_)
    split
    · exact K.running_calm (probeSlots_calm _ _ _ _) entered
    · exact K.running_calm (chuteStatus_calm _ _ _) entered
    · exact entered

theorem takeReply (addr : Byte) (read : Flight → Option (State → State)) (hd : ∀ f d, read f = some d → Effect Inv d) :
    Effect Inv fun s => s.takeReply addr read := by
  intro s r
  beta_reduce
  have missed : Running Inv s.miss := K.running_calm (miss_calm s) r
  have ended : Running Inv s.endFlight := K.running_calm (endFlight_calm s) r
  unfold State.takeReply
  split
  · exact r
  · split
    · split
      · next f _ _ _ d hr =>
        unfold State.answered
        dsimp only
        split
        · exact hd f d hr _ (K.running_calm (putMisses_calm s.endFlight f.unit 0) ended)
        · exact ended
      · exact missed
    · exact missed

theorem takeReply_calm (addr : Byte) (read : Flight → Option (State → State))
    (hd : ∀ f d, read f = some d → ∀ s, Calm s (d s)) : Effect Inv fun s => s.takeReply addr read :=
  K.takeReply addr read fun f d h => K.effect_calm (hd f d h)

theorem probeReply (addr : Byte) (payload : List Byte) : Effect Inv fun s => s.takeReply addr (readProbeReply payload) := by
  rcases K.reply with units | quiet
  · refine K.takeReply addr _ fun f d hr => ?_
    unfold readProbeReply at hr
    split at hr
    · obtain ⟨st, _, rfl⟩ := Option.map_eq_some_iff.mp hr
      exact K.deliverProbe_of_units units f.unit st
    · cases hr
  · exact fun s r => K.running_calm
      (Machine.takeReply_calm s addr _ (quiet s r.inv) fun f d hr t hl => readProbeReply_calm payload f d hr t hl) r

/-! ### Supply and start-up -/

theorem enterHold : Effect Inv State.enterHold := by
  intro s r
  refine K.running_calm (enterHold_calm s) ⟨?_, K.hold s.mode.level r.run r.inv⟩
  rw [(unitsDark_calm _).power]
  exact r.run

theorem supplyTo (supa supb : Bool) : Effect Inv fun s => s.supplyTo supa supb := by
  intro s r
  beta_reduce
  have pinned := K.pins { s.pins with supa, supb } r.inv
  unfold State.supplyTo
  dsimp only
  generalize supplyLevel supa supb = new
  split
  · exact ⟨r.run, pinned⟩
  · split
    · exact K.enterHold _ ⟨r.run, pinned⟩
    · next live =>
      split
      · exact K.running_calm (leaveHold_calm _ new) ⟨r.run, K.level new live pinned⟩
      · exact K.running_calm (supplyShift_calm _ new) ⟨r.run, K.level new live pinned⟩

theorem panelTo (isOpen : Bool) : Effect Inv fun s => s.panelTo isOpen := fun s r =>
  K.running_calm (panelTo_calm s isOpen) ⟨r.run, K.pins _ r.inv⟩

theorem startUp (pending : List Instr) (pins : Pins) (cause : StartCause) : Running Inv (startUp pending pins cause) := by
  have base : Running Inv (startBase pending pins cause) := by
    unfold startBase
    dsimp only
    split
    · next lost => exact ⟨rfl, K.dark _ _ _ _ lost⟩
    · next live => exact ⟨rfl, K.cleared _ _ _ _ live⟩
  rw [startUp_eq]
  refine K.running_calm (chooseCommand_calm _) (K.running_calm (judgePanel_calm _) ?_)
  exact K.running_calm (Calm.ite _ (fun _ => Calm.refl _) fun _ => (supplyState_calm _ _ _).trans (beginCond_calm _ _)) base

theorem restartNow (pins : Pins) : Effect Inv fun s => s.restartNow pins := by
  intro s r
  beta_reduce
  unfold State.restartNow
  split
  · exact K.startUp _ _ _
  · exact r

theorem linkSent : Effect Inv State.linkSent := by
  intro s r
  unfold State.linkSent
  split
  · exact K.restartNow s.pins s r
  · split
    · exact ⟨r.run, K.link _ ⟨(BranchLink.choose_answers _).trans (Nat.le_max_right _ _), BranchLink.choose_reports _⟩ r.inv⟩
    · exact r

theorem kioskSent : Effect Inv State.kioskSent := by
  intro s r
  unfold State.kioskSent
  split
  · exact ⟨r.run, K.kiosk _ (KioskPort.choose_kept _).2 r.inv⟩
  · exact r

theorem onPort (p : Port) (f : Receiver → PortCounts → Receiver × PortCounts) : Effect Inv fun s => s.onPort p f := by
  intro s r
  beta_reduce
  unfold State.onPort
  split
  · exact ⟨r.run, K.link _ {} r.inv⟩
  · split
    · exact ⟨r.run, K.kiosk _ (Nat.le_refl _) r.inv⟩
    · exact r

theorem maskExpiry : Effect Inv State.maskExpiry := by
  intro s r
  unfold State.maskExpiry
  split
  · exact ⟨r.run, K.mask _ r.run r.inv⟩
  · exact r

theorem supervisionExpiry : Effect Inv State.supervisionExpiry := by
  intro s r
  unfold State.supervisionExpiry
  split
  · exact K.running_calm (beginCond_calm _ _) ⟨r.run, K.link _ {} r.inv⟩
  · exact r

omit K in
theorem recoveryRetry (addr : Byte) (s : State) :
    Calm s (match unitAt addr.toNat with
      | some u => s.retryProbe u
      | none => s) := by
  split
  · exact retryProbe_calm _ _
  · exact Calm.refl _

/-! ### Every command -/

omit K in
/-- A time a TIME_SET body gives is at most the top of the count: four bytes. -/
theorem readOne_le_maxTime {body : List Byte} {t : Nat} (h : readOne 4 body = some t) : t ≤ Config.maxTime := by
  unfold readOne whole at h
  split at h
  · next n hr =>
    cases h
    have := readNat_lt 4 body [] t hr
    simp only [Config.maxTime]; omega
  · cases h

/-- Every command keeps the predicate. -/
theorem exec {s t : State} (i : Instr) (h : Inv s) (e : exec i s = .next t) : Inv t := by
  have asks {α : Type} (kind : Nat) (tag : Byte) (body : Option α) (f : State → α → Reply) :
      Inv (s.takeRequest kind tag body (asked f)) := K.takeRequest_calm kind tag body _ (fun _ s => Calm.refl s) h
  have replies (addr : Byte) (read : Flight → Option (State → State))
      (hd : ∀ f d, read f = some d → ∀ s, Calm s (d s)) : Inv (s.event fun s => s.takeReply addr read) :=
    K.event _ h (K.takeReply_calm addr read hd s)
  cases i with
  | keyLoad tag body => cases e; exact K.takeRequest_calm _ _ _ _ (fun r s => keyLoad_calm s r) h
  | keyDrop tag body => cases e; exact K.takeRequest_calm _ _ _ _ (fun n s => keyDrop_calm s n) h
  | bookingLoad tag body => cases e; exact K.takeRequest_calm _ _ _ _ (fun r s => bookingLoad_calm s r) h
  | bookingAmend tag body => cases e; exact K.takeRequest_calm _ _ _ _ (fun r s => bookingAmend_calm s r) h
  | bookingCancel tag body => cases e; exact K.takeRequest_calm _ _ _ _ (fun n s => bookingCancel_calm s n) h
  | bookingRetire tag body => cases e; exact K.takeRequest_calm _ _ _ _ (fun n s => bookingRetire_calm s n) h
  | policySet tag body => cases e; exact K.takeRequest _ _ _ _ (fun r _ => K.policySet r) h
  | paramSet tag body => cases e; exact K.takeRequest _ _ _ _ (fun r _ => K.paramSet r) h
  | timeSet tag body => cases e; exact K.takeRequest _ _ _ _ (fun t read => K.timeSet t (readOne_le_maxTime read)) h
  | release tag body => cases e; exact K.takeRequest_calm _ _ _ _ (fun n s => releaseRequest_calm s n) h
  | alertAck tag body => cases e; exact K.takeRequest_calm _ _ _ _ (fun r s => alertAck_calm s r) h
  | alertMask tag body => cases e; exact K.takeRequest _ _ _ _ (fun n _ => K.alertMask n) h
  | alertUnmask tag body => cases e; exact K.takeRequest _ _ _ _ (fun _ _ => K.alertUnmask) h
  | slotClear tag body => cases e; exact K.takeRequest_calm _ _ _ _ (fun n s => slotClear_calm s n) h
  | slotQuarantine tag body => cases e; exact K.takeRequest_calm _ _ _ _ (fun n s => slotQuarantine_calm s n) h
  | moduleRevive tag body => cases e; exact K.takeRequest_calm _ _ _ _ (fun n s => moduleRevive_calm s n) h
  | binDiscard tag body => cases e; exact K.takeRequest_calm _ _ _ _ (fun n s => binDiscard_calm s n) h
  | serviceBegin tag body => cases e; exact K.takeRequest_calm _ _ _ _ (fun _ s => serviceBegin_calm s) h
  | serviceEnd tag body => cases e; exact K.takeRequest_calm _ _ _ _ (fun _ s => serviceEnd_calm s) h
  | restart tag body => cases e; exact K.takeRequest_calm _ _ _ _ (fun _ s => Calm.refl s) h
  | statusQuery tag body => cases e; exact asks _ _ _ _
  | statusQueryUnits tag body => cases e; exact asks _ _ _ _
  | slotQuery tag body => cases e; exact asks _ _ _ _
  | bookingQuery tag body => cases e; exact asks _ _ _ _
  | bookingQueryList tag body => cases e; exact asks _ _ _ _
  | keyQuery tag body => cases e; exact asks _ _ _ _
  | alertQuery tag body => cases e; exact asks _ _ _ _
  | alertQuerySubject tag body => cases e; exact asks _ _ _ _
  | heartbeat tag body => cases e; exact asks _ _ _ _
  | unknownKind kind tag body => cases e; exact K.takeUnknown _ _ h
  | codeEntry tag body =>
    cases e
    refine K.takeKioskFrame _ _ _ (fun s => ?_) (fun r s => ?_) h
    · split
      · exact codeEntry_calm s _
      · exact Calm.refl s
    · exact Calm.ite _ (fun _ => arbiter_calm s) fun _ => Calm.refl s
  | kioskUnknownKind kind tag body =>
    cases e; exact K.takeKioskFrame _ _ _ (fun s => Calm.refl s) (fun _ s => Calm.refl s) h
  | frameCrcError port => cases e; exact K.event _ h (K.onPort port _ s)
  | frameTimeout port clock => cases e; exact K.event _ h (K.onPort port _ s)
  | frameFormatError port => cases e; exact K.event _ h (K.onPort port _ s)
  | linkFrameSent => cases e; exact K.event _ h (K.linkSent s)
  | kioskFrameSent => cases e; exact K.event _ h (K.kioskSent s)
  | restartRequest pins => cases e; exact K.event _ h (K.restartNow pins s)
  | powerOn pins resetLow =>
    cases e
    split
    · exact K.stop _ rfl (K.startUp _ _ _).inv
    · exact (K.startUp _ _ _).inv
  | resetAsserted => cases e; exact K.stop { s.power with stopped := true } rfl h
  | resetLine pins => cases e; exact (K.startUp _ _ _).inv
  | supplyChange supb => cases e; exact K.event _ h (K.supplyTo true supb s)
  | holdEntry supb => cases e; exact K.event _ h (K.supplyTo false supb s)
  | holdExit supb => cases e; exact K.event _ h (K.supplyTo true supb s)
  | panelChange isOpen => cases e; exact K.event _ h (K.panelTo isOpen s)
  | oneSecondBoundary => cases e; exact K.event _ h fun r => ⟨r.run, K.boundary r.run h⟩
  | deadlineExpiry => cases e; exact K.event_calm _ h (takeDeadlines_calm s)
  | windowExpiry channel => cases e; exact K.event_calm _ h (windowExpiry_calm s channel)
  | recoveryRetry unit => cases e; exact K.event_calm _ h (recoveryRetry unit s)
  | unslottedLimitReached => cases e; exact K.event_calm _ h (markUnslotted_calm s)
  | maskExpiry => cases e; exact K.event _ h (K.maskExpiry s)
  | supervisionExpiry => cases e; exact K.event _ h (K.supervisionExpiry s)
  | serviceLimitExpiry => cases e; exact K.event_calm _ h (serviceLimitExpiry_calm s)
  | probeReply unit payload => cases e; exact K.event _ h (K.probeReply unit payload s)
  | pollReply unit payload => cases e; exact replies _ _ (readPollReply_calm payload)
  | statusReply unit payload => cases e; exact replies _ _ (readStatusReply_calm payload)
  | latchOpenReply unit payload => cases e; exact replies _ _ (readLatchReply_calm .openIt payload)
  | latchCloseReply unit payload => cases e; exact replies _ _ (readLatchReply_calm .closeIt payload)
  | lampsReply unit payload => cases e; exact replies _ _ (readLampsReply_calm payload)
  | flapReply unit payload => cases e; exact replies _ _ (readFlapFrame_calm payload)
  | badReply => cases e; exact K.event_calm _ h (miss_calm s)
  | replyDeadline clock => cases e; exact K.event_calm _ h (replyDeadline_calm s clock)
  | frameStartMarker port clock => cases e; exact K.event _ h (K.onPort port _ s)
  | commandLastByteSent clock => cases e; exact K.event_calm _ h (commandSent_calm s clock)

/-- Every step keeps the predicate. -/
theorem step {s t : State} (h : Inv s) (e : step s = .next t) : Inv t := by
  unfold Machine.step at e
  split at e
  · cases e; exact h
  · exact K.exec _ (K.pending _ h) e

end

end Keeps

end Sys2Proof.Machine
end

section
/-! The invariants every step keeps (O57, O59, O60), each from `Keeps.step`: the predicate is kept by the calm operations and by each
of the updates that are not calm. -/

namespace Sys2Proof.Machine

/-! ### Capacities and ranges -/

/-- The capacities of tables and queues, and the ranges of settings and time. -/
structure State.Bounded (s : State) : Prop where
  ports : s.portsBounded
  list : s.alertListBounded
  tables : s.tablesBounded
  settings : s.settingsInRange
  time : s.timeInRange

theorem settingsInRange_congr {s t : State} (params : t.params = s.params) (policy : t.policy = s.policy)
    (h : s.settingsInRange) : t.settingsInRange := by
  unfold State.settingsInRange State.policyOf at h ⊢
  rwa [params, policy]

theorem Calm.bounded {s t : State} (h : Calm s t) (b : s.Bounded) : t.Bounded := by
  obtain ⟨⟨answers, reports, notices⟩, list, ⟨directory, bookings, queue, bin, inBin, removals⟩, settings, time⟩ := b
  have list' : s.alerts.list.length ≤ 8 := list
  refine ⟨⟨?_, ?_, ?_⟩, ?_, ⟨?_, ?_, ?_, ?_, ?_, ?_⟩, settingsInRange_congr h.params h.policy settings, ?_⟩
  · exact h.answers.trans answers
  · exact h.reports.trans (Nat.max_le.mpr ⟨Nat.le_refl _, reports⟩)
  · exact h.notices.trans (Nat.max_le.mpr ⟨Nat.le_refl _, notices⟩)
  · exact h.list.trans (Nat.max_le.mpr ⟨Nat.le_refl _, list'⟩)
  · exact h.directory.trans (Nat.max_le.mpr ⟨Nat.le_refl _, directory⟩)
  · exact h.bookings.trans (Nat.max_le.mpr ⟨Nat.le_refl _, bookings⟩)
  · exact h.queue.trans (Nat.max_le.mpr ⟨Nat.le_refl _, queue⟩)
  · exact h.bin.trans (Nat.max_le.mpr ⟨Nat.le_refl _, bin⟩)
  · exact h.inBin.trans (Nat.max_le.mpr ⟨Nat.le_refl _, inBin⟩)
  · exact h.removals.trans (Nat.max_le.mpr ⟨Nat.le_refl _, removals⟩)
  · intro t ht; exact time t (h.time ▸ ht)

/-- A parameter set within its range leaves all six in theirs. -/
theorem params_inRange {s : State} (n : ParamName) (v : Nat) (low : n.range.1 ≤ v) (high : v ≤ n.range.2)
    (h : s.settingsInRange) : (s.setParams (n.set v s.params)).settingsInRange := by
  obtain ⟨window, slowLatch, supervision, unslotted, service, nearFull, priority⟩ := h
  cases n with
  | window => exact ⟨⟨low, high⟩, slowLatch, supervision, unslotted, service, nearFull, priority⟩
  | slowLatch => exact ⟨window, ⟨low, high⟩, supervision, unslotted, service, nearFull, priority⟩
  | supervision => exact ⟨window, slowLatch, ⟨low, high⟩, unslotted, service, nearFull, priority⟩
  | unslotted => exact ⟨window, slowLatch, supervision, ⟨low, high⟩, service, nearFull, priority⟩
  | service => exact ⟨window, slowLatch, supervision, unslotted, ⟨low, high⟩, nearFull, priority⟩
  | nearFull => exact ⟨window, slowLatch, supervision, unslotted, service, ⟨low, high⟩, priority⟩

/-- A class's place in the Policy Table names it. -/
theorem AlertClass.ix_inj {c d : AlertClass} : (c.ix : Nat) = d.ix ↔ d = c := by
  have back (k : AlertClass) : AlertClass.ofNumber (k.ix + 1) = some k := by cases k <;> rfl
  refine ⟨fun h => Option.some.inj ?_, fun h => by rw [h]⟩
  rw [← back d, ← back c, h]

theorem policyOf_putPolicy (s : State) (c d : AlertClass) (p : PolicyEntry) :
    (s.putPolicy c p).policyOf d = if d = c then p else s.policyOf d := by
  simp only [State.policyOf, State.putPolicy, State.setPolicy, Fin.getElem_fin, Vector.getElem_set, AlertClass.ix_inj]

theorem DropEntry.older_state (e : DropEntry) : e.older.state = e.state := by
  unfold DropEntry.older; split <;> rfl

/-- A start-up empties every table and queue, and sets parameters and policies to values in range. -/
theorem cleared_bounded (pending : List Instr) (pins : Pins) (mode : CabinetMode) (kioskOn : Bool) (budget : Nat) :
    (State.cleared pending pins mode kioskOn budget).Bounded where
  ports := ⟨Nat.zero_le _, Nat.zero_le _, Nat.zero_le _⟩
  list := Nat.zero_le _
  tables := ⟨Nat.zero_le _, Nat.zero_le _, Nat.zero_le _, Nat.zero_le _, Nat.zero_le _, Nat.zero_le _⟩
  settings := by
    have params : (State.cleared pending pins mode kioskOn budget).params = Params.start := rfl
    unfold State.settingsInRange
    rw [params]
    refine ⟨by decide, by decide, by decide, by decide, by decide, by decide, ?_⟩
    show ∀ c : AlertClass, (Policy.start[c.ix]).priority ≤ 7
    intro c; cases c <;> decide
  time := fun _ h => by cases h

theorem bounded_kept : Keeps State.Bounded where
  calm h _ b := h.bounded b
  pending _ b := ⟨b.ports, b.list, b.tables, b.settings, b.time⟩
  pins _ b := ⟨b.ports, b.list, b.tables, b.settings, b.time⟩
  link l grows b :=
    ⟨⟨grows.answers.trans (Nat.max_le.mpr ⟨Nat.le_refl _, b.ports.1⟩), grows.reports.trans b.ports.2.1, b.ports.2.2⟩, b.list,
      b.tables, b.settings, b.time⟩
  kiosk k fewer b := ⟨⟨b.ports.1, b.ports.2.1, fewer.trans b.ports.2.2⟩, b.list, b.tables, b.settings, b.time⟩
  policy c p _ priority b := by
    refine ⟨b.ports, b.list, b.tables, ?_, b.time⟩
    obtain ⟨window, slowLatch, supervision, unslotted, service, nearFull, priorities⟩ := b.settings
    refine ⟨window, slowLatch, supervision, unslotted, service, nearFull, fun d => ?_⟩
    show ((State.putPolicy _ c p).policyOf d).priority ≤ 7
    rw [policyOf_putPolicy]
    split
    · exact priority
    · exact priorities d
  params n v low high b := ⟨b.ports, b.list, b.tables, params_inRange n v low high b.settings, b.time⟩
  mask _ _ b := ⟨b.ports, b.list, b.tables, b.settings, b.time⟩
  time t ht b := ⟨b.ports, b.list, b.tables, b.settings, fun _ h => by cases h; exact ht⟩
  level _ _ b := ⟨b.ports, b.list, b.tables, b.settings, b.time⟩
  hold {s} old _ b := by
    have lost : (s.setLevel .lost).Bounded := ⟨b.ports, b.list, b.tables, b.settings, b.time⟩
    have told := (supplyState_calm (s.setLevel .lost) (some old) 0).bounded lost
    refine (unitsDark_calm _).bounded ?_
    exact ⟨told.ports, told.list, told.tables, told.settings, told.time⟩
  boundary {s} _ b := by
    obtain ⟨⟨answers, reports, notices⟩, list, ⟨directory, bookings, queue, bin, inBin, removals⟩, settings, time⟩ := b
    have link : s.link.tick.answers = s.link.answers ∧ s.link.tick.reports = s.link.reports := by
      unfold BranchLink.tick; split <;> exact ⟨rfl, rfl⟩
    refine ⟨⟨?_, ?_, notices⟩, list, ⟨directory, bookings, queue, ?_, ?_, removals⟩, settings, ?_⟩
    · show s.link.tick.answers.length ≤ 4
      rwa [link.1]
    · show s.link.tick.reports.length ≤ 32
      rwa [link.2]
    · show (s.bin.entries.map DropEntry.older).length ≤ 64
      rwa [List.length_map]
    · show ((s.bin.entries.map DropEntry.older).filter fun e => e.state == .inBin).length ≤ 48
      rw [filter_map_state _ _ DropEntry.older_state]
      exact inBin
    · intro t ht
      obtain ⟨n, -, rfl⟩ := Option.map_eq_some_iff.mp (show s.time.map _ = some t from ht)
      exact Nat.min_le_right _ _
  reply := Or.inl fun _ _ _ b => ⟨b.ports, b.list, b.tables, b.settings, b.time⟩
  cleared _ _ _ _ _ := cleared_bounded _ _ _ _ _
  dark pending pins mode kioskOn _ :=
    have b := cleared_bounded pending pins mode kioskOn (budgetOf mode.level)
    ⟨b.ports, b.list, b.tables, b.settings, b.time⟩
  stop _ _ b := ⟨b.ports, b.list, b.tables, b.settings, b.time⟩

/-- Settles O57. -/
theorem everyStepKeepsCapacitiesAndRanges : Obligations.EveryStepKeepsCapacitiesAndRanges := by
  intro s s' ports list tables settings time e
  obtain ⟨ports', list', tables', settings', time'⟩ := bounded_kept.step ⟨ports, list, tables, settings, time⟩ e
  exact ⟨ports', list', tables', settings', time'⟩

/-! ### The lines -/

/-- Lines just judged are right in a running part. -/
theorem linesRight_of_judged {s : State} (run : s.power.stopped = false) (h : s.alerts.lines = s.judgedLines) :
    s.linesRight := by
  unfold State.linesRight
  rwa [run]

/-- The lines rest on the power record, the alert record and the policy. -/
theorem linesRight_congr {s t : State} (power : t.power.stopped = s.power.stopped) (alerts : t.alerts = s.alerts)
    (policy : t.policy = s.policy) (h : s.linesRight) : t.linesRight := by
  unfold State.linesRight at h ⊢
  rw [power, judgedLines_congr alerts policy, alerts]
  exact h

theorem Calm.linesRight {s t : State} (h : Calm s t) (run : s.power.stopped = false) (l : s.linesRight) : t.linesRight := by
  have power : t.power.stopped = s.power.stopped := congrArg Power.stopped h.power
  rcases h.lines with same | judged
  · exact linesRight_congr power same h.policy l
  · exact linesRight_of_judged (power.trans run) judged

/-- An empty Alert List drives no line. -/
theorem cleared_linesRight (pending : List Instr) (pins : Pins) (mode : CabinetMode) (kioskOn : Bool) (budget : Nat) :
    (State.cleared pending pins mode kioskOn budget).linesRight := rfl

/-- The mask is on after a boundary where it was on before. -/
theorem fall_isNone (m : Option Nat) : (fall m).isNone = m.isNone := by cases m <;> rfl

theorem linesRight_kept : Keeps State.linesRight where
  calm h run l := h.linesRight run l
  pending _ l := linesRight_congr (s := _) rfl rfl rfl l
  pins _ l := linesRight_congr (s := _) rfl rfl rfl l
  link _ _ l := linesRight_congr (s := _) rfl rfl rfl l
  kiosk _ _ l := linesRight_congr (s := _) rfl rfl rfl l
  policy _ _ run _ _ := linesRight_of_judged run rfl
  params _ _ _ _ l := linesRight_congr (s := _) rfl rfl rfl l
  mask _ run _ := linesRight_of_judged run rfl
  time _ _ l := linesRight_congr (s := _) rfl rfl rfl l
  level _ _ l := linesRight_congr (s := _) rfl rfl rfl l
  hold {s} old run l := by
    have told := (supplyState_calm (s.setLevel .lost) (some old) 0).linesRight run (linesRight_congr (s := s) rfl rfl rfl l)
    exact (unitsDark_calm _).linesRight run (linesRight_congr (s := (s.setLevel .lost).supplyState (some old) 0) rfl rfl rfl told)
  boundary {s} run l := by
    have right : s.alerts.lines = s.judgedLines := by unfold State.linesRight at l; rwa [run] at l
    refine linesRight_of_judged run (right.trans ?_)
    simp only [State.judgedLines, State.policyOf, State.boundary, fall_isNone]
  reply := Or.inl fun _ _ _ l => linesRight_congr (s := _) rfl rfl rfl l
  cleared _ _ _ _ _ := cleared_linesRight _ _ _ _ _
  dark pending pins mode kioskOn _ := cleared_linesRight pending pins mode kioskOn (budgetOf mode.level)
  stop p stopped _ := by
    unfold State.linesRight
    rw [show ({ State.stop _ with power := p } : State).power = p from rfl, stopped]
    rfl

/-- Settles O59. -/
theorem everyStepKeepsTheLinesRight : Obligations.EveryStepKeepsTheLinesRight := fun _ _ h e => linesRight_kept.step h e

/-! ### HOLD -/

/-- HOLD rests on the level, the transaction in flight, the units' states and the budget. -/
theorem holdQuiet_congr {s t : State} (level : t.mode.level = s.mode.level) (flight : t.bus.flight = s.bus.flight)
    (units : ∀ u, (t.unit u).state = (s.unit u).state) (budget : t.release.budget = s.release.budget) (h : s.holdQuiet) :
    t.holdQuiet := by
  intro lost
  obtain ⟨noFlight, offline, noBudget⟩ := h (level ▸ lost)
  exact ⟨flight.trans noFlight, fun u => units u ▸ offline u, budget.trans noBudget⟩

theorem holdQuiet_of_running {s : State} (h : s.mode.level ≠ .lost) : s.holdQuiet := fun lost => absurd lost h

theorem online_eq_true_iff (s : State) (u : UnitIx) : s.online u = true ↔ (s.unit u).state = .online := by
  simp [State.online]

theorem Calm.holdQuiet {s t : State} (h : Calm s t) (q : s.holdQuiet) : t.holdQuiet := by
  intro lost
  have was : s.mode.level = .lost := h.level ▸ lost
  obtain ⟨noFlight, offline, noBudget⟩ := q was
  refine ⟨h.flight was noFlight, fun u on => offline u ?_, h.budget.trans noBudget⟩
  exact (online_eq_true_iff s u).mp (h.online was u ((online_eq_true_iff t u).mpr on))

theorem UnitRec.tick_state (r : UnitRec) : r.tick.state = r.state := by
  unfold UnitRec.tick; split <;> simp_all

theorem holdQuiet_kept : Keeps State.holdQuiet where
  calm h _ q := h.holdQuiet q
  pending _ q := holdQuiet_congr (s := _) rfl rfl (fun _ => rfl) rfl q
  pins _ q := holdQuiet_congr (s := _) rfl rfl (fun _ => rfl) rfl q
  link _ _ q := holdQuiet_congr (s := _) rfl rfl (fun _ => rfl) rfl q
  kiosk _ _ q := holdQuiet_congr (s := _) rfl rfl (fun _ => rfl) rfl q
  policy _ _ _ _ q := holdQuiet_congr (s := _) rfl rfl (fun _ => rfl) rfl q
  params _ _ _ _ q := holdQuiet_congr (s := _) rfl rfl (fun _ => rfl) rfl q
  mask _ _ q := holdQuiet_congr (s := _) rfl rfl (fun _ => rfl) rfl q
  time _ _ q := holdQuiet_congr (s := _) rfl rfl (fun _ => rfl) rfl q
  level _ live _ := holdQuiet_of_running live
  hold {s} old _ _ := fun _ => by
    refine ⟨unitsDark_flight _, fun u on => ?_, (unitsDark_calm _).budget⟩
    have off := unitsDark_offline (((s.setLevel .lost).supplyState (some old) 0).setBudget 0) u
    rw [(online_eq_true_iff _ u).mpr on] at off
    cases off
  boundary {s} _ q := by
    refine holdQuiet_congr (s := s) rfl rfl (fun u => ?_) rfl q
    show ((s.units.map UnitRec.tick)[u]).state = (s.units[u]).state
    rw [Fin.getElem_fin, Vector.getElem_map]
    exact UnitRec.tick_state _
  reply := Or.inr fun _ q lost => (q lost).1
  cleared _ _ _ _ live := holdQuiet_of_running live
  dark pending pins mode kioskOn lost := fun _ => by
    refine ⟨rfl, fun u on => ?_, by rw [lost]; rfl⟩
    have dark : ((State.cleared pending pins mode kioskOn (budgetOf mode.level)).startDark.unit u).state = .dark := by
      simp [State.unit, State.startDark, State.setUnits]
    rw [dark] at on
    cases on
  stop _ _ q := fun lost => ⟨rfl, (q lost).2.1, (q lost).2.2⟩

/-- Settles O60. -/
theorem everyStepKeepsHoldQuiet : Obligations.EveryStepKeepsHoldQuiet := fun _ _ h e => holdQuiet_kept.step h e

end Sys2Proof.Machine
end

section
/-! The Directory and the Booking Table stay in order (O58): which operations leave the tags and the booking numbers as they are,
and the four that insert a record in its place or take records out. -/

namespace Sys2Proof.Machine

/-- The tags of the Directory and the numbers of the Booking Table, in the order they stand in. -/
def State.numbers (s : State) : List Nat × List Nat := (s.directory.map (·.tag), s.bookings.map (·.number))

theorem numbers_of_tables {s t : State} (h : t.tables = s.tables) : t.numbers = s.numbers := by
  have tags (u : State) : (u.tables.directory.map (·.tag), u.tables.bookings.map (·.number)) = u.numbers := by
    simp [State.tables, State.numbers, KeyEntry.bare, Booking.bare, Function.comp_def]
  rw [← tags t, ← tags s, h]

theorem numbers_foldl {α : Type} (f : State → α → State) (h : ∀ s a, (f s a).numbers = s.numbers) (l : List α) (s : State) :
    (l.foldl f s).numbers = s.numbers := by
  induction l generalizing s with
  | nil => rfl
  | cons a l ih => exact (ih _).trans (h s a)

@[simp] theorem numbers_ite (p : Prop) {_ : Decidable p} (a b : State) :
    (if p then a else b).numbers = if p then a.numbers else b.numbers := apply_ite _ _ _ _

/-! ### Updates of a block of state -/

@[simp] theorem setPending_numbers (s : State) (x : List Instr) : (s.setPending x).numbers = s.numbers := rfl
@[simp] theorem setMode_numbers (s : State) (x : CabinetMode) : (s.setMode x).numbers = s.numbers := rfl
@[simp] theorem setPins_numbers (s : State) (x : Pins) : (s.setPins x).numbers = s.numbers := rfl
@[simp] theorem setSession_numbers (s : State) (x : Session) : (s.setSession x).numbers = s.numbers := rfl
@[simp] theorem setParams_numbers (s : State) (x : Params) : (s.setParams x).numbers = s.numbers := rfl
@[simp] theorem putPolicy_numbers (s : State) (c : AlertClass) (x : PolicyEntry) : (s.putPolicy c x).numbers = s.numbers := rfl
@[simp] theorem setTime_numbers (s : State) (x : Option Nat) : (s.setTime x).numbers = s.numbers := rfl
@[simp] theorem setDueList_numbers (s : State) (x : List DueEntry) : (s.setDueList x).numbers = s.numbers := rfl
@[simp] theorem setAlerts_numbers (s : State) (x : AlertUnit) : (s.setAlerts x).numbers = s.numbers := rfl
@[simp] theorem setRelease_numbers (s : State) (x : ReleaseUnit) : (s.setRelease x).numbers = s.numbers := rfl
@[simp] theorem setBus_numbers (s : State) (x : BusMaster) : (s.setBus x).numbers = s.numbers := rfl
@[simp] theorem setChute_numbers (s : State) (x : ChuteRec) : (s.setChute x).numbers = s.numbers := rfl
@[simp] theorem setBin_numbers (s : State) (x : BinList) : (s.setBin x).numbers = s.numbers := rfl
@[simp] theorem setLink_numbers (s : State) (x : BranchLink) : (s.setLink x).numbers = s.numbers := rfl
@[simp] theorem setKiosk_numbers (s : State) (x : KioskPort) : (s.setKiosk x).numbers = s.numbers := rfl
@[simp] theorem putSlot_numbers (s : State) (n : SlotNo) (r : SlotRec) : (s.putSlot n r).numbers = s.numbers := rfl
@[simp] theorem putUnit_numbers (s : State) (u : UnitIx) (r : UnitRec) : (s.putUnit u r).numbers = s.numbers := rfl
@[simp] theorem putChan_numbers (s : State) (c : ChanNo) (x : Channel) : (s.putChan c x).numbers = s.numbers := rfl
@[simp] theorem putCond_numbers (s : State) (c : Condition) (r : CondRec) : (s.putCond c r).numbers = s.numbers := rfl
@[simp] theorem mapDrop_numbers (s : State) (d : Nat) (f : DropEntry → DropEntry) : (s.mapDrop d f).numbers = s.numbers := rfl

/-- A change of an entry that keeps its tag. -/
theorem mapEntry_numbers (s : State) (t : Nat) (f : KeyEntry → KeyEntry) (h : ∀ e, (f e).tag = e.tag) :
    (s.mapEntry t f).numbers = s.numbers := by
  have same (e : KeyEntry) : (if e.tag = t then f e else e).tag = e.tag := by split <;> simp [h]
  simp [State.mapEntry, State.numbers, State.setDirectory, same]

/-- A change of a booking that keeps its number. -/
theorem mapBooking_numbers (s : State) (n : Nat) (f : Booking → Booking) (h : ∀ b, (f b).number = b.number) :
    (s.mapBooking n f).numbers = s.numbers := by
  have same (b : Booking) : (if b.number = n then f b else b).number = b.number := by split <;> simp [h]
  simp [State.mapBooking, State.numbers, State.setBookings, same]

/-! ### Reports, lamps and alerts -/

@[simp] theorem queueReport_numbers (s : State) (b : ReportBody) : (s.queueReport b).numbers = s.numbers := rfl
@[simp] theorem placeAnswer_numbers (s : State) (a : Answer) : (s.placeAnswer a).numbers = s.numbers := rfl
@[simp] theorem placeKioskAnswer_numbers (s : State) (a : KioskAnswer) : (s.placeKioskAnswer a).numbers = s.numbers := rfl
@[simp] theorem noticeFor_numbers (s : State) (src : Option Source) (b : Nat) (e : NoticeEvent) :
    (s.noticeFor src b e).numbers = s.numbers := numbers_of_tables (noticeFor_tables s src b e)
@[simp] theorem modSlot_numbers (s : State) (n : SlotNo) (f : SlotRec → SlotRec) : (s.modSlot n f).numbers = s.numbers := rfl
@[simp] theorem modSlotLamp_numbers (s : State) (n : SlotNo) (f : SlotRec → SlotRec) :
    (s.modSlotLamp n f).numbers = s.numbers := (numbers_of_tables (modSlotLamp_tables s n f)).trans rfl
@[simp] theorem relampAll_numbers (s : State) (ns : List SlotNo) : (s.relampAll ns).numbers = s.numbers :=
  numbers_of_tables (relampAll_tables ns s)
@[simp] theorem setPhase_numbers (s : State) (c : ChanNo) (x : Channel) : (s.setPhase c x).numbers = s.numbers := by
  unfold State.setPhase
  split
  · exact (numbers_of_tables (relamp_tables (s.putChan c x) _)).trans rfl
  · rfl
@[simp] theorem judgeLines_numbers (s : State) : s.judgeLines.numbers = s.numbers := rfl
@[simp] theorem raiseAlert_numbers (s : State) (x : Subject) (c : AlertClass) : (s.raiseAlert x c).numbers = s.numbers :=
  numbers_of_tables (raiseAlert_tables s x c)
@[simp] theorem withdrawAlert_numbers (s : State) (x : Subject) (cs : List AlertClass) :
    (s.withdrawAlert x cs).numbers = s.numbers := numbers_of_tables (withdrawAlert_tables s x cs)
@[simp] theorem judgeCond_numbers (s : State) (c : Condition) (w : Bool) : (s.judgeCond c w).numbers = s.numbers := by
  simp [State.judgeCond, State.beginCond, State.endCond]
@[simp] theorem beginCond_numbers (s : State) (c : Condition) : (s.beginCond c).numbers = s.numbers := by
  simp [State.beginCond]
@[simp] theorem endCond_numbers (s : State) (c : Condition) : (s.endCond c).numbers = s.numbers := by simp [State.endCond]
@[simp] theorem judgePanel_numbers (s : State) : s.judgePanel.numbers = s.numbers := judgeCond_numbers _ _ _
@[simp] theorem judgeNearFull_numbers (s : State) : s.judgeNearFull.numbers = s.numbers := judgeCond_numbers _ _ _
@[simp] theorem judgeChuteLocked_numbers (s : State) : s.judgeChuteLocked.numbers = s.numbers := judgeCond_numbers _ _ _

/-! ### The Due Watch and the bookings -/

@[simp] theorem dueRemove_numbers (s : State) (n : Nat) : (s.dueRemove n).numbers = s.numbers := rfl
@[simp] theorem duePlace_numbers (s : State) (n : Nat) (d : Option Nat) : (s.duePlace n d).numbers = s.numbers := by
  cases d <;> rfl
@[simp] theorem setStage_numbers (s : State) (n : Nat) (st : Stage) : (s.setStage n st).numbers = s.numbers :=
  mapBooking_numbers _ _ _ fun _ => rfl
@[simp] theorem raiseStage_numbers (s : State) (n : Nat) (st : Stage) : (s.raiseStage n st).numbers = s.numbers := by
  cases st <;> simp [State.raiseStage, Stage.cls]
@[simp] theorem withdrawStage_numbers (s : State) (n : Nat) : (s.withdrawStage n).numbers = s.numbers :=
  withdrawAlert_numbers _ _ _
@[simp] theorem toStage_numbers (s : State) (b : Booking) (st : Stage) : (s.toStage b st).numbers = s.numbers := by
  simp [State.toStage]
@[simp] theorem dueStart_numbers (s : State) (n : Nat) : (s.dueStart n).numbers = s.numbers := by
  unfold State.dueStart; split <;> simp
@[simp] theorem dueAmend_numbers (s : State) (n : Nat) : (s.dueAmend n).numbers = s.numbers := by
  unfold State.dueAmend; split <;> simp
@[simp] theorem dueReturn_numbers (s : State) (n : Nat) : (s.dueReturn n).numbers = s.numbers := by simp [State.dueReturn]
theorem advance_numbers (t fuel : Nat) (s : State) (k : Nat) : (State.advance t fuel s k).1.numbers = s.numbers := by
  induction fuel generalizing s k with
  | zero => rfl
  | succ fuel ih =>
    unfold State.advance
    split
    · rfl
    · split
      · split <;> simp [ih]
      · rfl
@[simp] theorem takeDeadlines_numbers (s : State) : s.takeDeadlines.numbers = s.numbers := by
  unfold State.takeDeadlines; split
  · exact advance_numbers _ _ _ _
  · rfl
@[simp] theorem clearLastRelease_numbers (s : State) (n : Nat) : (s.clearLastRelease n).numbers = s.numbers := by
  refine numbers_foldl _ ?_ _ _
  intros; rfl
@[simp] theorem leftLoaded_numbers (s : State) (n : Nat) : (s.leftLoaded n).numbers = s.numbers := by simp [State.leftLoaded]
@[simp] theorem toReleasing_numbers (s : State) (n : Nat) (x : Source) : (s.toReleasing n x).numbers = s.numbers := by
  simp [State.toReleasing, mapBooking_numbers]
@[simp] theorem toLoaded_numbers (s : State) (n : Nat) : (s.toLoaded n).numbers = s.numbers :=
  mapBooking_numbers _ _ _ fun _ => rfl
@[simp] theorem toOut_numbers (s : State) (n : Nat) : (s.toOut n).numbers = s.numbers := by
  simp [State.toOut, mapBooking_numbers]
@[simp] theorem toOutLate_numbers (s : State) (n : Nat) : (s.toOutLate n).numbers = s.numbers := by
  simp [State.toOutLate, mapBooking_numbers]
@[simp] theorem toReturned_numbers (s : State) (n : Nat) (p : Place) : (s.toReturned n p).numbers = s.numbers :=
  mapBooking_numbers _ _ _ fun _ => rfl
@[simp] theorem toCancelled_numbers (s : State) (n : Nat) : (s.toCancelled n).numbers = s.numbers := by
  simp [State.toCancelled, mapBooking_numbers]
@[simp] theorem setMissing_numbers (s : State) (t : Nat) : (s.setMissing t).numbers = s.numbers := by
  simp [State.setMissing, mapEntry_numbers]
@[simp] theorem clearMissing_numbers (s : State) (t : Nat) : (s.clearMissing t).numbers = s.numbers := by
  simp [State.clearMissing, mapEntry_numbers]
@[simp] theorem strikeRemoval_numbers (s : State) (t : Nat) : (s.strikeRemoval t).numbers = s.numbers := by
  simp [State.strikeRemoval]

/-! ### The Release Unit -/

@[simp] theorem addLatch_numbers (s : State) (n : SlotNo) (d : LatchDir) (c : Option ChanNo) :
    (s.addLatch n d c).numbers = s.numbers := numbers_of_tables (addLatch_tables s n d c)
@[simp] theorem withdrawLatch_numbers (s : State) (c : ChanNo) (d : LatchDir) : (s.withdrawLatch c d).numbers = s.numbers := rfl
@[simp] theorem closeForOpen_numbers (s : State) (n : SlotNo) (c : ChanNo) : (s.closeForOpen n c).numbers = s.numbers :=
  numbers_of_tables (closeForOpen_tables s n c)
@[simp] theorem quarantine_numbers (s : State) (n : SlotNo) (k : Option FaultKind) : (s.quarantine n k).numbers = s.numbers := by
  simp [State.quarantine]
@[simp] theorem freeChannel_numbers (s : State) (c : ChanNo) : (s.freeChannel c).numbers = s.numbers := by
  unfold State.freeChannel; split <;> simp
@[simp] theorem abortChannel_numbers (s : State) (c : ChanNo) (k : AbortCause) (l : Bool) :
    (s.abortChannel c k l).numbers = s.numbers := by
  unfold State.abortChannel; dsimp only; split <;> simp
@[simp] theorem dequeue_numbers (s : State) (e : QueueEntry) : (s.dequeue e).numbers = s.numbers := rfl
@[simp] theorem abortEntry_numbers (s : State) (e : QueueEntry) (k : AbortCause) : (s.abortEntry e k).numbers = s.numbers := by
  simp [State.abortEntry]
@[simp] theorem grant_numbers (s : State) (e : QueueEntry) (c : ChanNo) : (s.grant e c).numbers = s.numbers := by
  simp [State.grant]
theorem arbiterTurns_numbers (fuel : Nat) (s : State) : (State.arbiterTurns fuel s).numbers = s.numbers := by
  induction fuel generalizing s with
  | zero => rfl
  | succ fuel ih =>
    unfold State.arbiterTurns
    split
    · rfl
    · split
      · split
        · rfl
        · rw [ih]; simp
      · rfl
@[simp] theorem arbiter_numbers (s : State) : s.arbiter.numbers = s.numbers := arbiterTurns_numbers _ _
@[simp] theorem enqueueRelease_numbers (s : State) (e : QueueEntry) : (s.enqueueRelease e).numbers = s.numbers := rfl
@[simp] theorem abortChannels_numbers (s : State) (on : SlotNo → Bool) (k : AbortCause) :
    (s.abortChannels on k).numbers = s.numbers := by
  refine numbers_foldl _ (fun s c => ?_) _ _
  split <;> simp
@[simp] theorem abortEntries_numbers (s : State) (on : SlotNo → Bool) (k : AbortCause) :
    (s.abortEntries on k).numbers = s.numbers := numbers_foldl _ (fun s e => abortEntry_numbers s e k) _ _
theorem take_numbers (s : State) (c : ChanNo) (n : SlotNo) (b : Nat) (close : State → State)
    (h : ∀ s, (close s).numbers = s.numbers) : (s.take c n b close).numbers = s.numbers := by simp [State.take, h]
@[simp] theorem expireWindow_numbers (s : State) (c : ChanNo) (n : SlotNo) (b : Nat) :
    (s.expireWindow c n b).numbers = s.numbers := by simp [State.expireWindow]
@[simp] theorem lateTake_numbers (s : State) (n : SlotNo) (b k : Nat) (r : Bool) : (s.lateTake n b k r).numbers = s.numbers := by
  have custody : (s.abortCustody b k).numbers = s.numbers := by unfold State.abortCustody; dsimp only; split <;> simp
  simp [State.lateTake, custody]
@[simp] theorem reportWithdrawn_numbers (s : State) (i : RelInfo) (x : Option Source) (p : ReleasePhase) :
    (s.reportWithdrawn i x p).numbers = s.numbers := by simp [State.reportWithdrawn]
@[simp] theorem cancelReleasing_numbers (s : State) (n : Nat) : (s.cancelReleasing n).numbers = s.numbers := by
  have channel (c : ChanNo) : (s.cancelChannel c).numbers = s.numbers := by
    unfold State.cancelChannel; dsimp only; split <;> simp
  unfold State.cancelReleasing State.cancelQueued
  split
  · simp
  · split <;> simp [channel]
@[simp] theorem latchFault_numbers (s : State) (n : SlotNo) (b : Option Nat) (k : FaultKind) (t : Nat) (d : LatchDir) :
    (s.latchFault n b k t d).numbers = s.numbers := by simp [State.latchFault, State.reportFault]
@[simp] theorem slowOpen_numbers (s : State) (n : SlotNo) (b : Option Nat) (t : Nat) : (s.slowOpen n b t).numbers = s.numbers := by
  simp [State.slowOpen, State.reportFault]
@[simp] theorem openReply_numbers (s : State) (l : LatchCmd) (r : LatchReply) : (s.openReply l r).numbers = s.numbers := by
  have channel (k : LatchClass) (t : Nat) : (s.openReplyChannel l k t).numbers = s.numbers := by
    unfold State.openReplyChannel
    split
    · rfl
    · split <;> simp [State.openChannel]
  unfold State.openReply
  dsimp only
  split <;> simp [channel]
@[simp] theorem closeReply_numbers (s : State) (l : LatchCmd) (r : LatchReply) : (s.closeReply l r).numbers = s.numbers := by
  have channel : (match s.chanHolds l with
      | some c =>
        match s.chan c with
        | .closing _ _ _ => s.freeChannel c
        | _ => s
      | none => s).numbers = s.numbers := by
    split
    · split <;> simp
    · rfl
  unfold State.closeReply
  dsimp only
  split
  · exact (latchFault_numbers _ _ _ _ _ _).trans channel
  · exact channel
@[simp] theorem shiftWindows_numbers (s : State) (o n : Nat) : (s.shiftWindows o n).numbers = s.numbers := by
  refine numbers_foldl _ ?_ _ _
  intros; rfl

/-! ### Units -/

@[simp] theorem moduleState_numbers (s : State) (u : UnitIx) (o : UnitState) : (s.moduleState u o).numbers = s.numbers := rfl
@[simp] theorem startCheck_numbers (s : State) : s.startCheck.numbers = s.numbers := by simp [State.startCheck]
@[simp] theorem markStale_numbers (s : State) (u : UnitIx) : (s.markStale u).numbers = s.numbers :=
  numbers_of_tables (markStale_tables s u)
@[simp] theorem slotsUnknown_numbers (s : State) (m : ModIx) : (s.slotsUnknown m).numbers = s.numbers :=
  numbers_foldl _ (fun _ _ => modSlotLamp_numbers _ _ _) _ _
@[simp] theorem leaveOnline_numbers (s : State) (u : UnitIx) (new : UnitState) : (s.leaveOnline u new).numbers = s.numbers := by
  unfold State.leaveOnline; dsimp only; split <;> simp [State.dropCommands]
@[simp] theorem retire_numbers (s : State) (m : ModIx) : (s.retire m).numbers = s.numbers := by
  unfold State.retire; dsimp only; split <;> simp
@[simp] theorem retireIfRisen_numbers (s : State) (m : ModIx) (k : Nat) : (s.retireIfRisen m k).numbers = s.numbers := by
  simp [State.retireIfRisen]
@[simp] theorem recover_numbers (s : State) (u : UnitIx) : (s.recover u).numbers = s.numbers := by
  unfold State.recover; dsimp only; split <;> simp
@[simp] theorem unitsDark_numbers (s : State) : s.unitsDark.numbers = s.numbers := by
  have one (s : State) (u : UnitIx) : (s.darkenUnit u).numbers = s.numbers := by
    unfold State.darkenUnit; dsimp only; split <;> simp
  unfold State.unitsDark
  dsimp only
  rw [setChute_numbers, numbers_foldl State.darkenUnit one]
  rfl
@[simp] theorem unitsLight_numbers (s : State) : s.unitsLight.numbers = s.numbers := by
  have one (s : State) (u : UnitIx) : (s.lightUnit u).numbers = s.numbers := by
    unfold State.lightUnit; dsimp only; split <;> simp
  exact numbers_foldl State.lightUnit one allUnits _

/-! ### The Intake Unit -/

@[simp] theorem judgeFlap_numbers (s : State) : s.judgeFlap.numbers = s.numbers := by simp [State.judgeFlap]
@[simp] theorem confirmFlap_numbers (s : State) (p : FlapPos) (b : Bool) : (s.confirmFlap p b).numbers = s.numbers :=
  judgeChuteLocked_numbers _
@[simp] theorem binLeave_numbers (s : State) (e : DropEntry) : (s.binLeave e).numbers = s.numbers := by simp [State.binLeave]
@[simp] theorem reslot_numbers (s : State) (n : SlotNo) (t : Nat) : (s.reslot n t).numbers = s.numbers := by
  unfold State.reslot; split <;> simp
@[simp] theorem reportReturn_numbers (s : State) (b : Booking) (p : Place) (m : Bool) :
    (s.reportReturn b p m).numbers = s.numbers := rfl
@[simp] theorem returnAtSlot_numbers (s : State) (b : Booking) (n : SlotNo) (m : Bool) :
    (s.returnAtSlot b n m).numbers = s.numbers := by simp [State.returnAtSlot]
@[simp] theorem handOn_numbers (s : State) (n : SlotNo) (t : Option Nat) (d : Bool) : (s.handOn n t d).numbers = s.numbers := by
  unfold State.handOn
  cases t with
  | none => rfl
  | some t => dsimp only; split <;> simp [State.reportPlaced]
@[simp] theorem clearLastSeen_numbers (s : State) (t : Nat) (b : Option SlotNo) : (s.clearLastSeen t b).numbers = s.numbers :=
  numbers_foldl _ (fun _ _ => modSlotLamp_numbers _ _ _) _ _
@[simp] theorem drop_numbers (s : State) (t : Option Nat) : (s.drop t).numbers = s.numbers := by
  have add (s : State) (d : Nat) (t : Option Nat) (f : Bool) : (s.addDrop d t f).numbers = s.numbers := by
    cases t <;> simp [State.addDrop]
  have close (s : State) (d : Nat) (b : Option Booking) : (s.closeByDrop d b).numbers = s.numbers := by
    cases b <;> simp [State.closeByDrop]
  have report (s : State) (d : Nat) (b : Option Booking) : (s.reportDropReturn d b).numbers = s.numbers := by
    cases b <;> simp [State.reportDropReturn]
  unfold State.drop
  split
  · rfl
  · unfold State.dropRecorded
    simp only [judgeFlap_numbers, judgeNearFull_numbers, report, queueReport_numbers]
    cases t <;> split <;> simp [add, close]
@[simp] theorem seeHatch_numbers (s : State) (b : Bool) : (s.seeHatch b).numbers = s.numbers := by
  simp [State.seeHatch, State.hatchOpened]
@[simp] theorem markUnslotted_numbers (s : State) : s.markUnslotted.numbers = s.numbers := by
  refine numbers_foldl _ ?_ _ _
  intros; simp

/-! ### Slot events -/

@[simp] theorem countUnless_numbers (s : State) (b : Bool) (n : SlotNo) : (s.countUnless b n).numbers = s.numbers := by
  have fault (s : State) : (s.chatterFault n).numbers = s.numbers := by
    unfold State.chatterFault; dsimp only; split <;> simp [State.reportFault]
  have count : (s.countChange n).numbers = s.numbers := by
    unfold State.countChange; split <;> simp [fault]
  simp [State.countUnless, count]
@[simp] theorem classify_numbers (s : State) (n : SlotNo) (t : Option Nat) (l : Option Bool) :
    (s.classify n t l).numbers = s.numbers := by
  have forced : (s.forced n t).numbers = s.numbers := by cases t <;> simp [State.forced]
  unfold State.classify State.noteRemoval
  dsimp only
  split
  · simp
  · split
    · split
      · next h =>
        split at h
        · cases h; rfl
        · cases h
      · exact forced
    · exact forced
theorem removalWith_numbers (s : State) (n : SlotNo) (l : Option Bool) (back : State → State)
    (h : ∀ s, (back s).numbers = s.numbers) : (s.removalWith n l back).numbers = s.numbers := by
  have channel (s : State) (c : ChanNo) : (s.removalOnChannel c n l back).numbers = s.numbers := by
    unfold State.removalOnChannel
    split
    · exact take_numbers _ _ _ _ _ fun _ => addLatch_numbers _ _ _ _
    · split
      · exact take_numbers _ _ _ _ _ fun _ => closeForOpen_numbers _ _ _
      · simp [h]
    · exact h s
  unfold State.removalWith State.emptySlot
  dsimp only
  split <;> simp [channel, h]
@[simp] theorem removal_numbers (s : State) (n : SlotNo) (l : Option Bool) : (s.removal n l).numbers = s.numbers :=
  removalWith_numbers _ _ _ _ fun _ => classify_numbers _ _ _ _
@[simp] theorem moveOut_numbers (s : State) (n : SlotNo) : (s.moveOut n).numbers = s.numbers :=
  removalWith_numbers _ _ _ _ fun _ => rfl
@[simp] theorem raiseOnSlot_numbers (s : State) (n : SlotNo) (c : AlertClass) : (s.raiseOnSlot n c).numbers = s.numbers := by
  simp [State.raiseOnSlot]
@[simp] theorem fillWith_numbers (s : State) (n : SlotNo) (o : Occupancy) (t : Option Nat) :
    (s.fillWith n o t).numbers = s.numbers := modSlotLamp_numbers _ _ _
@[simp] theorem insertion_numbers (s : State) (n : SlotNo) (t : Option Nat) : (s.insertion n t).numbers = s.numbers := by
  cases t <;> simp [State.insertion, State.insertTag]
@[simp] theorem learnTag_numbers (s : State) (n : SlotNo) (t : Nat) : (s.learnTag n t).numbers = s.numbers := by
  simp [State.learnTag]
@[simp] theorem moduleEntry_numbers (s : State) (m : ModIx) (e : ModuleEntry) : (s.moduleEntry m e).numbers = s.numbers := by
  have replace (s : State) (n : SlotNo) (l : Bool) (t : Option Nat) : (s.replaceKey n l t).numbers = s.numbers := by
    simp [State.replaceKey]
  unfold State.moduleEntry
  dsimp only
  split
  · split <;> simp [replace]
  · rfl
@[simp] theorem chuteEntry_numbers (s : State) (e : ChuteEntry) : (s.chuteEntry e).numbers = s.numbers := by
  cases e <;> simp [State.chuteEntry]
@[simp] theorem settle_numbers (s : State) (n : SlotNo) (o : Occupancy) (t : Option Nat) : (s.settle n o t).numbers = s.numbers :=
  modSlotLamp_numbers _ _ _
@[simp] theorem fill_numbers (s : State) (m : ModIx) (st : List SlotStatus) : (s.fill m st).numbers = s.numbers := by
  refine numbers_foldl _ (fun s p => ?_) _ _
  unfold State.fillSlot; split <;> simp
@[simp] theorem reconcile_numbers (s : State) (m : ModIx) (st : List SlotStatus) : (s.reconcile m st).numbers = s.numbers := by
  have restore (s : State) (n : SlotNo) (x : SlotSeen) : (s.restore n x).numbers = s.numbers := by
    unfold State.restore
    cases x with
    | unread => dsimp only; split <;> simp
    | _ => simp
  have third (s : State) (p : SlotPlan) : (s.planRestore p).numbers = s.numbers := by
    simp [State.planRestore, State.whileOnline, restore]
  have second (s : State) (p : SlotPlan) : (s.planIn p).numbers = s.numbers := by
    unfold State.planIn State.whileOnline; split
    · split <;> simp
    · rfl
  have first (s : State) (p : SlotPlan) : (s.planOut p).numbers = s.numbers := by
    unfold State.planOut State.whileOnline; split
    · split <;> simp
    · rfl
  unfold State.reconcile
  rw [numbers_foldl _ third, numbers_foldl _ second, numbers_foldl _ first]
@[simp] theorem strayCloses_numbers (s : State) (m : ModIx) (st : List SlotStatus) : (s.strayCloses m st).numbers = s.numbers :=
  numbers_foldl _ (fun s p => by simp [State.strayClose]) _ _

/-! ### Around an event -/

@[simp] theorem chooseCommand_numbers (s : State) : s.chooseCommand.numbers = s.numbers :=
  numbers_of_tables (chooseCommand_tables s)
@[simp] theorem frameBegin_numbers (s : State) : s.frameBegin.numbers = s.numbers := by simp [State.frameBegin]
@[simp] theorem frameEnd_numbers (s : State) : s.frameEnd.numbers = s.numbers := rfl
@[simp] theorem miss_numbers (s : State) : s.miss.numbers = s.numbers := by
  have failed (s : State) (u : UnitIx) : (s.probeFailed u).numbers = s.numbers := by
    unfold State.probeFailed; dsimp only; split <;> simp [State.probeTo]
  have online (s : State) (u : UnitIx) (c : BusCmd) : (s.missOnline u c).numbers = s.numbers := by
    cases c <;> simp [State.missOnline, State.missEffect]
  unfold State.miss
  split
  · rfl
  · dsimp only
    split
    · rfl
    · split <;> simp [failed, online, State.endFlight]
@[simp] theorem replyDeadline_numbers (s : State) (k : Nat) : (s.replyDeadline k).numbers = s.numbers := by
  unfold State.replyDeadline
  split
  · split <;> simp
  · rfl
@[simp] theorem commandSent_numbers (s : State) (k : Nat) : (s.commandSent k).numbers = s.numbers := by
  unfold State.commandSent
  split
  · split <;> rfl
  · rfl
@[simp] theorem windowExpiry_numbers (s : State) (c : ChanNo) : (s.windowExpiry c).numbers = s.numbers := by
  unfold State.windowExpiry; split <;> simp
@[simp] theorem endSession_numbers (s : State) (w : SessionReason) : (s.endSession w).numbers = s.numbers := by
  have left (s : State) (r : Removal) : (s.leftBehind r).numbers = s.numbers := by
    unfold State.leftBehind; dsimp only; split <;> simp
  unfold State.endSession
  dsimp only
  rw [judgePanel_numbers, numbers_ite, beginCond_numbers, ite_self, setSession_numbers, numbers_foldl _ left]
  rfl
@[simp] theorem panelTo_numbers (s : State) (b : Bool) : (s.panelTo b).numbers = s.numbers := by simp [State.panelTo]
@[simp] theorem supplyTo_numbers (s : State) (a b : Bool) : (s.supplyTo a b).numbers = s.numbers := by
  have full (s t : State) : (s.markFull t).numbers = s.numbers := numbers_foldl _ (fun _ _ => retireIfRisen_numbers _ _ _) _ _
  have level (s : State) (l : SupplyLevel) : (s.setLevel l).numbers = s.numbers := rfl
  have budget (s : State) (b : Nat) : (s.setBudget b).numbers = s.numbers := rfl
  have told (s : State) (l : Option SupplyLevel) (b : Nat) : (s.supplyState l b).numbers = s.numbers := rfl
  have enter (s : State) : s.enterHold.numbers = s.numbers := by
    unfold State.enterHold
    dsimp only
    rw [beginCond_numbers, numbers_ite, endSession_numbers, ite_self, full]
    simp [level, budget, told]
  have leave (s : State) (l : SupplyLevel) : (s.leaveHold l).numbers = s.numbers := by
    simp [State.leaveHold, level, budget, told]
  have shift (s : State) (l : SupplyLevel) : (s.supplyShift l).numbers = s.numbers := by
    simp [State.supplyShift, level, budget, told]
  simp [State.supplyTo, enter, leave, shift]

/-! ### Deliveries -/

/-- A delivery that leaves tags and numbers alone. -/
def NumbersKept (f : State → State) : Prop := ∀ s, (f s).numbers = s.numbers

theorem takeReply_numbers (s : State) (a : Byte) (rd : Flight → Option (State → State))
    (h : ∀ f d, rd f = some d → NumbersKept d) : (s.takeReply a rd).numbers = s.numbers := by
  unfold State.takeReply
  split
  · rfl
  · split
    · split
      · next d hd =>
        unfold State.answered
        dsimp only
        split
        · exact h _ _ hd _
        · rfl
      · exact miss_numbers s
    · exact miss_numbers s

theorem deliverStatus_numbers (u : UnitIx) (st : UnitStatus) : NumbersKept fun s => s.deliverStatus u st := by
  intro s
  unfold State.deliverStatus
  dsimp only
  split <;> simp [State.moduleStatus, State.chuteStatus]

theorem deliverProbe_numbers (u : UnitIx) (st : UnitStatus) : NumbersKept fun s => s.deliverProbe u st := by
  intro s
  have online (s : State) (c : ProbeCause) : (s.enterOnline u c).numbers = s.numbers := by simp [State.enterOnline]
  have count (c : ProbeCause) : (s.countStart c).numbers = s.numbers := by simp [State.countStart]
  unfold State.deliverProbe
  dsimp only
  cases (s.unit u).cause with
  | none => rfl
  | some cause =>
    simp only [State.thenGrant, numbers_ite, arbiter_numbers, startCheck_numbers, ite_self]
    split <;> simp [State.probeSlots, State.moduleStatus, State.chuteStatus, online, count]

theorem readPollReply_numbers (p : List Byte) (f : Flight) (d : State → State) (h : readPollReply p f = some d) :
    NumbersKept d := by
  have flagged (s : State) (u : UnitIx) (b : Bool) : (s.overflowed u b).numbers = s.numbers := by simp [State.overflowed]
  unfold readPollReply at h
  split at h
  · split at h
    · obtain ⟨q, -, rfl⟩ := Option.map_eq_some_iff.mp h
      intro s
      simp [State.deliverPollModule, flagged, numbers_foldl _ fun s e => moduleEntry_numbers s _ e]
    · obtain ⟨q, -, rfl⟩ := Option.map_eq_some_iff.mp h
      intro s
      simp [State.deliverPollChute, flagged, numbers_foldl _ chuteEntry_numbers]
  · cases h

theorem readLatchReply_numbers (dir : LatchDir) (p : List Byte) (f : Flight) (d : State → State)
    (h : readLatchReply dir p f = some d) : NumbersKept d := by
  unfold readLatchReply at h
  split at h
  · split at h
    · obtain ⟨r, -, rfl⟩ := Option.map_eq_some_iff.mp h
      intro s
      unfold State.deliverLatch
      dsimp only
      split <;> simp
    · cases h
  · cases h

/-- Every reply's delivery leaves tags and numbers alone. -/
theorem readProbeReply_numbers (p : List Byte) (f : Flight) (d : State → State) (h : readProbeReply p f = some d) :
    NumbersKept d := by
  unfold readProbeReply at h
  split at h
  · obtain ⟨st, -, rfl⟩ := Option.map_eq_some_iff.mp h; exact deliverProbe_numbers _ _
  · cases h

theorem readStatusReply_numbers (p : List Byte) (f : Flight) (d : State → State) (h : readStatusReply p f = some d) :
    NumbersKept d := by
  unfold readStatusReply at h
  split at h
  · obtain ⟨st, -, rfl⟩ := Option.map_eq_some_iff.mp h; exact deliverStatus_numbers _ _
  · cases h

theorem readLampsReply_numbers (p : List Byte) (f : Flight) (d : State → State) (h : readLampsReply p f = some d) :
    NumbersKept d := by
  unfold readLampsReply at h
  split at h
  · obtain ⟨_, -, rfl⟩ := Option.map_eq_some_iff.mp h; exact fun _ => rfl
  · cases h

theorem readFlapFrame_numbers (p : List Byte) (f : Flight) (d : State → State) (h : readFlapFrame p f = some d) :
    NumbersKept d := by
  unfold readFlapFrame at h
  split at h
  · obtain ⟨_, -, rfl⟩ := Option.map_eq_some_iff.mp h; exact fun s => confirmFlap_numbers s _ _
  · cases h

/-! ### Keeping the order -/

/-- The order of the tables speaks of tags and numbers only. -/
theorem tablesOrdered_iff (s : State) :
    s.tablesOrdered ↔ s.numbers.1.Pairwise (· < ·) ∧ s.numbers.2.Pairwise (· < ·) := Iff.rfl

theorem tablesOrdered_of_numbers {s t : State} (h : t.numbers = s.numbers) (o : s.tablesOrdered) : t.tablesOrdered := by
  rw [tablesOrdered_iff] at o ⊢
  rwa [h]

/-- Inserting before the first higher number keeps an ascending list ascending, where the number is new. -/
theorem insertBy_ascending {α : Type} (key : α → Nat) (x : α) (l : List α) (h : (l.map key).Pairwise (· < ·))
    (new : ∀ y ∈ l, key y ≠ key x) :
    ((insertBy (fun a b => decide (key a < key b)) x l).map key).Pairwise (· < ·) := by
  have mem (l : List α) (k : Nat) (h : k ∈ (insertBy (fun a b => decide (key a < key b)) x l).map key) :
      k = key x ∨ k ∈ l.map key := by
    induction l with
    | nil => simpa [insertBy] using h
    | cons y ys ih =>
      unfold insertBy at h
      split at h
      · simpa using h
      · rcases List.mem_cons.mp h with e | h
        · exact Or.inr (List.mem_cons.mpr (Or.inl e))
        · exact (ih h).imp id fun m => List.mem_cons.mpr (Or.inr m)
  induction l with
  | nil => simp [insertBy]
  | cons y ys ih =>
    obtain ⟨first, rest⟩ := List.pairwise_cons.mp h
    unfold insertBy
    split
    · next lower =>
      have lower : key x < key y := of_decide_eq_true lower
      refine List.pairwise_cons.mpr ⟨fun k hk => ?_, h⟩
      rcases List.mem_cons.mp hk with e | hk
      · exact e ▸ lower
      · exact lower.trans (first k hk)
    · next notLower =>
      have higher : key y < key x := by
        have := new y (List.mem_cons_self ..)
        have : ¬ key x < key y := fun h => notLower (decide_eq_true h)
        omega
      refine List.pairwise_cons.mpr ⟨fun k hk => ?_, ih rest fun z hz => new z (List.mem_cons_of_mem _ hz)⟩
      rcases mem ys k hk with e | hk
      · exact e ▸ higher
      · exact first k hk

/-- An owner that leaves the tables in order. -/
def KeepsOrder (owner : State → State × Reply) : Prop := ∀ s, s.tablesOrdered → (owner s).1.tablesOrdered

theorem keepsOrder_of_numbers {owner : State → State × Reply} (h : ∀ s, (owner s).1.numbers = s.numbers) : KeepsOrder owner :=
  fun s o => tablesOrdered_of_numbers (h s) o

theorem event_ordered {s : State} (f : State → State) (o : s.tablesOrdered) (h : (f s).tablesOrdered) :
    (s.event f).tablesOrdered := by
  unfold State.event
  split
  · exact o
  · exact tablesOrdered_of_numbers (chooseCommand_numbers _) h

theorem event_ordered_of_numbers {s : State} (f : State → State) (o : s.tablesOrdered) (h : (f s).numbers = s.numbers) :
    (s.event f).tablesOrdered := event_ordered f o (tablesOrdered_of_numbers h o)

theorem takeFrame_ordered {s : State} (kind tag : Byte) (owner : State → State × Reply) (ho : KeepsOrder owner)
    (o : s.tablesOrdered) : (s.takeFrame kind tag owner).tablesOrdered := by
  have begun : s.frameBegin.tablesOrdered := tablesOrdered_of_numbers (frameBegin_numbers s) o
  unfold State.takeFrame
  dsimp only
  split
  · exact begun
  · exact ho _ begun

theorem takeRequest_ordered {α : Type} {s : State} (kind : Nat) (tag : Byte) (body : Option α)
    (owner : α → State → State × Reply) (ho : ∀ b, KeepsOrder (owner b)) (o : s.tablesOrdered) :
    (s.takeRequest kind tag body owner).tablesOrdered := by
  refine event_ordered _ o (takeFrame_ordered _ _ _ ?_ o)
  cases body with
  | none => exact fun _ o => o
  | some b => exact ho b

theorem takeKioskFrame_numbers (s : State) (tag : Byte) (owner : State → State × KioskReply)
    (after : KioskReply → State → State) (ho : ∀ s, (owner s).1.numbers = s.numbers)
    (ha : ∀ r s, (after r s).numbers = s.numbers) : (s.takeKioskFrame tag owner after).numbers = s.numbers := by
  unfold State.takeKioskFrame State.event
  split
  · rfl
  · rw [chooseCommand_numbers]
    dsimp only
    split
    · split
      · rfl
      · simp [ho, ha]
    · rfl

/-! ### The requests that change a table's records -/

theorem not_mem_of_find?_none {α : Type} {key : α → Nat} {l : List α} {k : Nat} (h : (l.find? fun a => key a == k) = none) :
    ∀ y ∈ l, key y ≠ k := fun y hy e => by simpa [e] using List.find?_eq_none.mp h y hy

theorem keyLoad_ordered (r : KeyLoadReq) : KeepsOrder fun s => s.keyLoad r := by
  intro s o
  dsimp only
  rw [keyLoad_eq]
  split
  · show (s.keyLoadEffect r).tablesOrdered
    unfold State.keyLoadEffect
    split
    · next new =>
      refine tablesOrdered_of_numbers (relampAll_numbers _ _) ?_
      exact ⟨insertBy_ascending (·.tag) _ s.directory o.1 (not_mem_of_find?_none (key := KeyEntry.tag) new), o.2⟩
    · exact tablesOrdered_of_numbers ((relampAll_numbers _ _).trans (mapEntry_numbers _ _ _ fun _ => rfl)) o
  · exact o

theorem keyDrop_ordered (t : Nat) : KeepsOrder fun s => s.keyDrop t := by
  intro s o
  dsimp only
  unfold State.keyDrop
  split
  · exact o
  · next e _ =>
    split
    · exact o
    · have withdrawn := tablesOrdered_of_numbers (withdrawAlert_numbers s (.key e.tag) [.keyMissing]) o
      refine tablesOrdered_of_numbers (relampAll_numbers _ _) ⟨?_, withdrawn.2⟩
      exact withdrawn.1.sublist (List.filter_sublist.map _)

theorem bookingLoad_ordered (r : BookingLoadReq) : KeepsOrder fun s => s.bookingLoad r := by
  intro s o
  dsimp only
  rw [bookingLoad_eq]
  split
  · next ok =>
    have new : (s.booking? r.number).isSome = false := by
      rw [booking?_isSome_eq_any]
      unfold State.bookingLoadResult at ok
      by_contra used
      rw [Bool.not_eq_false] at used
      rw [used] at ok
      revert ok
      split_ifs <;> simp_all
    have none : s.booking? r.number = none := by simpa using new
    exact ⟨o.1, insertBy_ascending (·.number) _ s.bookings o.2 (not_mem_of_find?_none (key := Booking.number) none)⟩
  · exact o

theorem bookingRetire_ordered (n : Nat) : KeepsOrder fun s => s.bookingRetire n := by
  intro s o
  have fewer (p : Booking → Bool) : (s.setBookings (s.bookings.filter p)).tablesOrdered :=
    ⟨o.1, o.2.sublist (List.filter_sublist.map _)⟩
  dsimp only
  unfold State.bookingRetire
  split
  · exact fewer _
  · split
    · exact o
    · split
      · exact fewer _
      · exact o

theorem bookingAmend_numbers (s : State) (r : BookingAmendReq) : (s.bookingAmend r).1.numbers = s.numbers := by
  have amended : (s.mapBooking r.number r.apply).numbers = s.numbers := mapBooking_numbers _ _ _ fun _ => rfl
  unfold State.bookingAmend
  split
  · rfl
  · dsimp only
    split
    · rfl
    · split
      · split
        · exact amended
        · rfl
      · split
        · rfl
        · exact (dueAmend_numbers _ _).trans amended
      · rfl

theorem bookingCancel_numbers (s : State) (n : Nat) : (s.bookingCancel n).1.numbers = s.numbers := by
  unfold State.bookingCancel
  split
  · rfl
  · split <;> simp [State.accept, State.refuse]

theorem askRelease_numbers (s : State) (n : Nat) (x : Source) (c : Option Nat) : (s.askRelease n x c).1.numbers = s.numbers := by
  have count (b : Booking) (r : Result) : (s.countCode b r).numbers = s.numbers := by
    simp [State.countCode, mapBooking_numbers]
  unfold State.askRelease
  split
  · rfl
  · split
    · rfl
    · split
      · rfl
      · split
        · rfl
        · split
          · exact count _ _
          · split
            · rfl
            · simp [State.takeIn]

theorem releaseRequest_numbers (s : State) (n : Nat) : (s.releaseRequest n).1.numbers = s.numbers := by
  unfold State.releaseRequest
  split
  · rfl
  · dsimp only
    unfold Admission.after
    split <;> simp [askRelease_numbers]

theorem codeEntry_numbers (s : State) (r : PairReq) : (s.codeEntry r).1.numbers = s.numbers := by
  unfold State.codeEntry
  split
  · rfl
  · exact askRelease_numbers _ _ _ _

theorem timeSet_numbers (s : State) (t : Nat) : (s.timeSet t).1.numbers = s.numbers := by
  unfold State.timeSet
  dsimp only
  split
  · rfl
  · dsimp only
    split
    · rw [advance_numbers]; simp
    · simp

theorem alertAck_numbers (s : State) (r : PairReq) : (s.alertAck r).1.numbers = s.numbers := by
  unfold State.alertAck
  split
  · rfl
  · split
    · next h => exact numbers_of_tables (ackAlert_tables _ _ _ _ h)
    · rfl

theorem policySet_numbers (s : State) (r : PolicySetReq) : (s.policySet r).1.numbers = s.numbers := by
  unfold State.policySet
  split
  · rfl
  · split <;> rfl

theorem paramSet_numbers (s : State) (r : PairReq) : (s.paramSet r).1.numbers = s.numbers := by
  unfold State.paramSet
  split
  · rfl
  · split
    · rfl
    · exact judgeNearFull_numbers _

theorem alertMask_numbers (s : State) (n : Nat) : (s.alertMask n).1.numbers = s.numbers := by
  unfold State.alertMask; split <;> rfl

theorem slotClear_numbers (s : State) (n : Nat) : (s.slotClear n).1.numbers = s.numbers := by
  unfold State.slotClear
  split
  · split
    · simp [State.accept, State.clearSlot]
    · rfl
  · rfl

theorem slotQuarantine_numbers (s : State) (n : Nat) : (s.slotQuarantine n).1.numbers = s.numbers := by
  unfold State.slotQuarantine
  split
  · split
    · rfl
    · show (s.manualQuarantine _).numbers = s.numbers
      unfold State.manualQuarantine
      dsimp only
      split <;> simp [State.reportFault]
  · rfl

theorem moduleRevive_numbers (s : State) (a : Nat) : (s.moduleRevive a).1.numbers = s.numbers := by
  unfold State.moduleRevive
  split
  · rfl
  · split
    · rfl
    · split <;> rfl

theorem binDiscard_numbers (s : State) (d : Nat) : (s.binDiscard d).1.numbers = s.numbers := by
  unfold State.binDiscard
  split
  · rfl
  · split
    · exact binLeave_numbers _ _
    · rfl

theorem serviceBegin_numbers (s : State) : s.serviceBegin.1.numbers = s.numbers := by
  unfold State.serviceBegin
  split
  · rfl
  · split
    · rfl
    · split
      · rfl
      · simp [State.beginSession]

theorem serviceEnd_numbers (s : State) : s.serviceEnd.1.numbers = s.numbers := by
  unfold State.serviceEnd
  split
  · exact endSession_numbers _ _
  · rfl

/-! ### Every command -/

/-- A start-up empties both tables. -/
theorem startUp_ordered (pending : List Instr) (pins : Pins) (cause : StartCause) :
    (startUp pending pins cause).tablesOrdered := by
  have empty : (startUp pending pins cause).numbers = ([], []) := by
    have base : (startBase pending pins cause).numbers = ([], []) := by
      unfold startBase; dsimp only; split <;> rfl
    rw [startUp_eq]
    simp [State.supplyState, base]
  rw [tablesOrdered_iff, empty]
  exact ⟨List.Pairwise.nil, List.Pairwise.nil⟩

theorem restartNow_ordered {s : State} (pins : Pins) (o : s.tablesOrdered) : (s.restartNow pins).tablesOrdered := by
  unfold State.restartNow
  split
  · exact startUp_ordered _ _ _
  · exact o

theorem linkSent_ordered {s : State} (o : s.tablesOrdered) : s.linkSent.tablesOrdered := by
  unfold State.linkSent
  split
  · exact restartNow_ordered _ o
  · split
    · exact o
    · exact o

theorem onPort_numbers (s : State) (p : Port) (f : Receiver → PortCounts → Receiver × PortCounts) :
    (s.onPort p f).numbers = s.numbers := by
  cases p <;> simp [State.onPort]

theorem exec_ordered {s t : State} (i : Instr) (o : s.tablesOrdered) (e : exec i s = .next t) : t.tablesOrdered := by
  have asks {α : Type} (kind : Nat) (tag : Byte) (body : Option α) (f : State → α → Reply) :
      (s.takeRequest kind tag body (asked f)).tablesOrdered := takeRequest_ordered kind tag body _ (fun _ _ o => o) o
  have changes {α : Type} (kind : Nat) (tag : Byte) (body : Option α) (owner : α → State → State × Reply)
      (h : ∀ b s, (owner b s).1.numbers = s.numbers) : (s.takeRequest kind tag body owner).tablesOrdered :=
    takeRequest_ordered kind tag body owner (fun b => keepsOrder_of_numbers (h b)) o
  have replies (addr : Byte) (read : Flight → Option (State → State)) (h : ∀ f d, read f = some d → NumbersKept d) :
      (s.event fun s => s.takeReply addr read).tablesOrdered :=
    event_ordered_of_numbers _ o (takeReply_numbers s addr read h)
  cases i with
  | keyLoad tag body => cases e; exact takeRequest_ordered _ _ _ _ keyLoad_ordered o
  | keyDrop tag body => cases e; exact takeRequest_ordered _ _ _ _ keyDrop_ordered o
  | bookingLoad tag body => cases e; exact takeRequest_ordered _ _ _ _ bookingLoad_ordered o
  | bookingAmend tag body => cases e; exact changes _ _ _ _ fun r s => bookingAmend_numbers s r
  | bookingCancel tag body => cases e; exact changes _ _ _ _ fun n s => bookingCancel_numbers s n
  | bookingRetire tag body => cases e; exact takeRequest_ordered _ _ _ _ bookingRetire_ordered o
  | policySet tag body => cases e; exact changes _ _ _ _ fun r s => policySet_numbers s r
  | paramSet tag body => cases e; exact changes _ _ _ _ fun r s => paramSet_numbers s r
  | timeSet tag body => cases e; exact changes _ _ _ _ fun n s => timeSet_numbers s n
  | release tag body => cases e; exact changes _ _ _ _ fun n s => releaseRequest_numbers s n
  | alertAck tag body => cases e; exact changes _ _ _ _ fun r s => alertAck_numbers s r
  | alertMask tag body => cases e; exact changes _ _ _ _ fun n s => alertMask_numbers s n
  | alertUnmask tag body => cases e; exact changes _ _ _ _ fun _ _ => rfl
  | slotClear tag body => cases e; exact changes _ _ _ _ fun n s => slotClear_numbers s n
  | slotQuarantine tag body => cases e; exact changes _ _ _ _ fun n s => slotQuarantine_numbers s n
  | moduleRevive tag body => cases e; exact changes _ _ _ _ fun n s => moduleRevive_numbers s n
  | binDiscard tag body => cases e; exact changes _ _ _ _ fun n s => binDiscard_numbers s n
  | serviceBegin tag body => cases e; exact changes _ _ _ _ fun _ s => serviceBegin_numbers s
  | serviceEnd tag body => cases e; exact changes _ _ _ _ fun _ s => serviceEnd_numbers s
  | restart tag body => cases e; exact changes _ _ _ _ fun _ _ => rfl
  | statusQuery tag body => cases e; exact asks _ _ _ _
  | statusQueryUnits tag body => cases e; exact asks _ _ _ _
  | slotQuery tag body => cases e; exact asks _ _ _ _
  | bookingQuery tag body => cases e; exact asks _ _ _ _
  | bookingQueryList tag body => cases e; exact asks _ _ _ _
  | keyQuery tag body => cases e; exact asks _ _ _ _
  | alertQuery tag body => cases e; exact asks _ _ _ _
  | alertQuerySubject tag body => cases e; exact asks _ _ _ _
  | heartbeat tag body => cases e; exact asks _ _ _ _
  | unknownKind kind tag body => cases e; exact event_ordered _ o (takeFrame_ordered _ _ _ (fun _ o => o) o)
  | codeEntry tag body =>
    cases e
    refine tablesOrdered_of_numbers (takeKioskFrame_numbers _ _ _ _ (fun s => ?_) fun r s => ?_) o
    · split
      · exact codeEntry_numbers _ _
      · rfl
    · simp [KioskReply.after]
  | kioskUnknownKind kind tag body =>
    cases e
    exact tablesOrdered_of_numbers (takeKioskFrame_numbers _ _ _ _ (fun _ => rfl) fun _ _ => rfl) o
  | frameCrcError port => cases e; exact event_ordered_of_numbers _ o (onPort_numbers _ _ _)
  | frameTimeout port clock => cases e; exact event_ordered_of_numbers _ o (onPort_numbers _ _ _)
  | frameFormatError port => cases e; exact event_ordered_of_numbers _ o (onPort_numbers _ _ _)
  | linkFrameSent => cases e; exact event_ordered _ o (linkSent_ordered o)
  | kioskFrameSent =>
    cases e
    refine event_ordered_of_numbers _ o ?_
    unfold State.kioskSent; split <;> rfl
  | restartRequest pins => cases e; exact event_ordered _ o (restartNow_ordered _ o)
  | powerOn pins resetLow =>
    cases e
    split
    · exact startUp_ordered _ _ _
    · exact startUp_ordered _ _ _
  | resetAsserted => cases e; exact o
  | resetLine pins => cases e; exact startUp_ordered _ _ _
  | supplyChange supb => cases e; exact event_ordered_of_numbers _ o (supplyTo_numbers _ _ _)
  | holdEntry supb => cases e; exact event_ordered_of_numbers _ o (supplyTo_numbers _ _ _)
  | holdExit supb => cases e; exact event_ordered_of_numbers _ o (supplyTo_numbers _ _ _)
  | panelChange isOpen => cases e; exact event_ordered_of_numbers _ o (panelTo_numbers _ _)
  | oneSecondBoundary => cases e; exact event_ordered _ o o
  | deadlineExpiry => cases e; exact event_ordered_of_numbers _ o (takeDeadlines_numbers _)
  | windowExpiry channel => cases e; exact event_ordered_of_numbers _ o (windowExpiry_numbers _ _)
  | recoveryRetry unit =>
    cases e
    refine event_ordered_of_numbers _ o ?_
    split
    · simp [State.retryProbe]
    · rfl
  | unslottedLimitReached => cases e; exact event_ordered_of_numbers _ o (markUnslotted_numbers _)
  | maskExpiry => cases e; exact event_ordered_of_numbers _ o (by simp [State.maskExpiry])
  | supervisionExpiry => cases e; exact event_ordered_of_numbers _ o (by simp [State.supervisionExpiry])
  | serviceLimitExpiry => cases e; exact event_ordered_of_numbers _ o (by simp [State.serviceLimitExpiry])
  | probeReply unit payload => cases e; exact replies _ _ (readProbeReply_numbers payload)
  | pollReply unit payload => cases e; exact replies _ _ (readPollReply_numbers payload)
  | statusReply unit payload => cases e; exact replies _ _ (readStatusReply_numbers payload)
  | latchOpenReply unit payload => cases e; exact replies _ _ (readLatchReply_numbers .openIt payload)
  | latchCloseReply unit payload => cases e; exact replies _ _ (readLatchReply_numbers .closeIt payload)
  | lampsReply unit payload => cases e; exact replies _ _ (readLampsReply_numbers payload)
  | flapReply unit payload => cases e; exact replies _ _ (readFlapFrame_numbers payload)
  | badReply => cases e; exact event_ordered_of_numbers _ o (miss_numbers _)
  | replyDeadline clock => cases e; exact event_ordered_of_numbers _ o (replyDeadline_numbers _ _)
  | frameStartMarker port clock => cases e; exact event_ordered_of_numbers _ o (onPort_numbers _ _ _)
  | commandLastByteSent clock => cases e; exact event_ordered_of_numbers _ o (commandSent_numbers _ _)

/-- Settles O58: only KEY_LOAD, KEY_DROP, BOOKING_LOAD, BOOKING_RETIRE and a start-up change the tags or the numbers. -/
theorem everyStepKeepsTheTablesInOrder : Obligations.EveryStepKeepsTheTablesInOrder := by
  intro s s' o e
  unfold step at e
  split at e
  · cases e; exact o
  · next c rest _ => exact exec_ordered c (show (s.setPending rest).tablesOrdered from o) e

end Sys2Proof.Machine
end

section
/-! The queue of commands, RESET, and the two ports (O1, O4, O7, O8). -/

namespace Sys2Proof.Machine

/-! ### Commands of a running part -/

/-- A command that is an event of a running part gives what its effect makes. -/
theorem gives_event {s u : State} {i : Instr} (f : State → State) (e : exec i s = .next (s.event f))
    (run : s.power.stopped = false) (h : f s = u) : Gives s i u := by
  rw [Gives, e, ← h]
  simp only [State.event, run, Bool.false_eq_true, if_false]

theorem makes_event {s u : State} {i : Instr} (f : State → State) (e : exec i s = .next (s.event f))
    (run : s.power.stopped = false) (h : (f s).tables = u.tables) : Makes s i u :=
  ⟨_, e, (event_tables s f run).trans h⟩

theorem setLink_self (s : State) : s.setLink s.link = s := rfl

theorem setKiosk_self (s : State) : s.setKiosk s.kiosk = s := rfl

/-- Settles O1. -/
theorem stepRunsTheFrontCommand : Obligations.StepRunsTheFrontCommand := by
  refine ⟨fun s c rest h => ?_, fun s h => ?_⟩
  · unfold step; rw [h]
  · unfold step; rw [h]

/-! ### RESET -/

theorem takeKioskFrame_stopped (s : State) (tag : Byte) (owner : State → State × KioskReply)
    (after : KioskReply → State → State) (h : s.power.stopped = true) : s.takeKioskFrame tag owner after = s :=
  event_stopped _ _ h

/-- The commands that a stopped part takes (log 9). -/
def startsPart : Instr → Bool
  | .powerOn _ _ => true
  | .resetAsserted => true
  | .resetLine _ => true
  | _ => false

/-- Every other command is an event, which a stopped part does not take. -/
theorem exec_stopped {s : State} (i : Instr) (stopped : s.power.stopped = true) (other : startsPart i = false) :
    exec i s = .next s := by
  have event (f : State → State) : (.next (s.event f) : Host.Outcome State Fault Refusal) = .next s := by
    rw [event_stopped s f stopped]
  have request {α : Type} (kind : Nat) (tag : Byte) (body : Option α) (owner : α → State → State × Reply) :
      (.next (s.takeRequest kind tag body owner) : Host.Outcome State Fault Refusal) = .next s := event _
  cases i with
  | powerOn | resetAsserted | resetLine => cases other
  | statusQuery | statusQueryUnits | bookingQuery | bookingQueryList | alertQuery | alertQuerySubject => exact request _ _ _ _
  | _ => exact event _

/-- Settles O4. -/
theorem resetStopsThePart : Obligations.ResetStopsThePart := by
  refine ⟨fun s pins => ⟨⟨s.stop, rfl, rfl, rfl, rfl, rfl, rfl, rfl⟩, ?_⟩, fun s i stopped notOn notReset notLine => ?_⟩
  · have pending : (startUp s.pending pins .powerOn).pending = s.pending := by
      rw [startUp_eq, (chooseCommand_calm _).pending, (judgePanel_calm _).pending]
      have base : (startBase s.pending pins .powerOn).pending = s.pending := by
        unfold startBase; dsimp only; split <;> rfl
      split
      · exact base
      · exact (beginCond_calm _ _).pending.trans base
    exact ⟨s.powerOnWaiting pins, rfl, rfl, rfl, rfl, rfl, rfl, pending⟩
  · refine exec_stopped i stopped ?_
    cases i with
    | powerOn p b => exact absurd rfl (notOn p b)
    | resetAsserted => exact absurd rfl notReset
    | resetLine p => exact absurd rfl (notLine p)
    | _ => rfl

/-! ### Receivers -/

theorem onPort_kiosk_on {s : State} (on : s.kiosk.enabled = true) (f : Receiver → PortCounts → Receiver × PortCounts) :
    s.onPort .kiosk f =
      s.setKiosk { s.kiosk with rx := (f s.kiosk.rx s.kiosk.counts).1, counts := (f s.kiosk.rx s.kiosk.counts).2 } :=
  if_pos on

theorem onPort_kiosk_off {s : State} (off : s.kiosk.enabled = false) (f : Receiver → PortCounts → Receiver × PortCounts) :
    s.onPort .kiosk f = s := if_neg (by simp [off])

theorem frameTimeout_branch {s : State} {m : Nat} (clock : Nat) (h : s.link.rx = .receiving m) :
    s.frameTimeout .branch clock =
      if m + 200 ≤ clock then
        s.setLink { s.link with rx := .searching, counts := { s.link.counts with timeout := up s.link.counts.timeout } }
      else s := by
  simp only [State.frameTimeout, State.onPort, h, Config.frameLimit]
  split
  · rfl
  · rw [← h]; rfl

theorem frameTimeout_kiosk {s : State} {m : Nat} (clock : Nat) (on : s.kiosk.enabled = true) (h : s.kiosk.rx = .receiving m) :
    s.frameTimeout .kiosk clock =
      if m + 200 ≤ clock then
        s.setKiosk { s.kiosk with rx := .searching, counts := { s.kiosk.counts with timeout := up s.kiosk.counts.timeout } }
      else s := by
  simp only [State.frameTimeout, onPort_kiosk_on on, h, Config.frameLimit]
  split
  · rfl
  · rw [← h]; rfl

/-- A kiosk frame is taken by an owner. -/
theorem exec_kioskFrame {i : Instr} {kind tag : Byte} {body : List Byte} (s : State)
    (h : i.frame = some (.kiosk, kind, tag, body)) :
    ∃ owner after, exec i s = .next (s.takeKioskFrame tag owner after) := by
  cases i with
  | codeEntry | kioskUnknownKind => cases h; exact ⟨_, _, rfl⟩
  | _ => cases h

/-- Settles O7. -/
theorem receiversCountWhatTheyDiscard : Obligations.ReceiversCountWhatTheyDiscard := by
  intro s clock run
  refine ⟨gives_event _ rfl run rfl, gives_event _ rfl run rfl, fun m receiving => ⟨?_, fun late => ?_, fun early => ?_⟩,
    fun searching => ⟨?_, ?_⟩, fun on => ⟨?_, ?_, fun m receiving => ⟨?_, fun late => ?_, fun early => ?_⟩,
      fun searching => ⟨?_, ?_⟩⟩, fun off => ⟨?_, ?_, ?_, ?_⟩, fun i kind tag body frame => ?_⟩
  · exact gives_event _ rfl run (by simp only [State.marker, State.onPort, receiving]; rw [← receiving]; rfl)
  · exact gives_event _ rfl run ((frameTimeout_branch clock receiving).trans (if_pos late))
  · exact gives_event _ rfl run ((frameTimeout_branch clock receiving).trans (if_neg (by omega)))
  · exact gives_event _ rfl run (by simp only [State.marker, State.onPort, searching]; rfl)
  · exact gives_event _ rfl run (by simp only [State.frameTimeout, State.onPort, searching]; rw [← searching]; rfl)
  · exact gives_event _ rfl run (onPort_kiosk_on on _)
  · exact gives_event _ rfl run (onPort_kiosk_on on _)
  · exact gives_event _ rfl run (by simp only [State.marker, onPort_kiosk_on on, receiving]; rw [← receiving]; rfl)
  · exact gives_event _ rfl run ((frameTimeout_kiosk clock on receiving).trans (if_pos late))
  · exact gives_event _ rfl run ((frameTimeout_kiosk clock on receiving).trans (if_neg (by omega)))
  · exact gives_event _ rfl run (by simp only [State.marker, onPort_kiosk_on on, searching]; rfl)
  · exact gives_event _ rfl run (by simp only [State.frameTimeout, onPort_kiosk_on on, searching]; rw [← searching]; rfl)
  · exact gives_event _ rfl run (onPort_kiosk_off off _)
  · exact gives_event _ rfl run (onPort_kiosk_off off _)
  · exact gives_event _ rfl run (onPort_kiosk_off off _)
  · exact gives_event _ rfl run (onPort_kiosk_off off _)
  · obtain ⟨owner, after, taken⟩ := exec_kioskFrame s frame
    refine ⟨fun on held => gives_event _ taken run ?_, fun off => gives_event _ taken run ?_⟩
    · obtain ⟨a, ha⟩ := Option.ne_none_iff_exists'.mp held
      simp only [on, if_true, ha]
      rw [← ha]; rfl
    · simp [off]

/-! ### Transmitters -/

theorem BranchLink.choose_eq (l : BranchLink) :
    l.choose = match l.answers, l.state, l.reports with
      | a :: rest, _, _ => { l with tx := .sending (.answer a), answers := rest }
      | [], .connected, r :: rest => { l with tx := .sending (.report r), reports := rest }
      | _, _, _ => { l with tx := .idle } := by
  unfold BranchLink.choose
  split
  · next h => rw [h]
  · next h =>
    rw [h]
    split
    · next h1 h2 => rw [h1, h2]
    · next other =>
      split
      · next heq => cases heq
      · next h1 h2 => exact absurd h2 (other _ _ h1)
      · rfl

theorem KioskPort.choose_eq (k : KioskPort) :
    k.choose = match k.answer, k.notices with
      | some a, _ => { k with tx := .sending (.answer a), answer := none }
      | none, n :: rest => { k with tx := .sending (.notice n), notices := rest }
      | none, [] => { k with tx := .idle } := by
  unfold KioskPort.choose
  cases k.answer with
  | some a => rfl
  | none => cases k.notices <;> rfl

/-- A transmitter that is sending is not woken (R151, R162). -/
theorem BranchLink.wake_sending {l : BranchLink} {f : LinkFrame} (h : l.tx = .sending f) : l.wake = l := by
  simp [BranchLink.wake, h]

theorem KioskPort.wake_sending {k : KioskPort} {f : KioskFrame} (h : k.tx = .sending f) : k.wake = k := by
  simp [KioskPort.wake, h]

/-- A report queued while a frame is being sent waits in the queue (R152). -/
theorem queueReport_busy {s : State} (b : ReportBody) (busy : s.linkBusy) :
    s.queueReport b = s.setLink (s.link.enqueue { time := s.time, gap := false, body := b }) := by
  obtain ⟨f, hf⟩ := busy
  unfold State.queueReport
  rw [BranchLink.wake_sending (f := f)]
  rw [(BranchLink.enqueue_kept _ _).2.2.2.2, hf]

/-- A notice placed while a frame is being sent waits in the queue (R162). -/
theorem placeNotice_busy {s : State} (booking : Nat) (event : NoticeEvent) (busy : s.kioskBusy) :
    s.placeNotice booking event = s.setKiosk (s.kiosk.enqueue { booking, event }) := by
  obtain ⟨on, f, hf⟩ := busy
  unfold State.placeNotice
  rw [if_pos on, KioskPort.wake_sending (f := f)]
  rw [(KioskPort.enqueue_tx _ _).1, hf]

/-- Settles O8. -/
theorem transmittersChooseTheNextFrame : Obligations.TransmittersChooseTheNextFrame := by
  intro s run
  refine ⟨fun f sending other => ?_, fun idle => ?_, fun f sending => ?_, fun idle => ?_, fun b busy => ⟨fun room => ?_, ?_⟩,
    fun booking event => ⟨fun off => ?_, fun busy room => ?_, fun o rest busy waiting full => ?_, fun on idle empty none => ?_⟩⟩
  · have plain : s.restarting = false := by
      unfold State.restarting
      rw [sending]
      cases f with
      | report r => rfl
      | answer a => simpa [LinkFrame.restarts] using other a rfl
    refine gives_event _ rfl run ((linkSent_chooses plain f sending s.pins).1.trans ?_)
    rw [BranchLink.choose_eq]
    rfl
  · exact gives_event _ rfl run (linkSent_idle idle s.pins).1
  · refine gives_event _ rfl run ?_
    simp only [State.kioskSent, sending, KioskPort.choose_eq]
    rfl
  · exact gives_event _ rfl run (by simp [State.kioskSent, idle])
  · rw [queueReport_busy b busy]
    unfold BranchLink.enqueue
    rw [if_neg (by simp only [Config.reportCap]; omega)]
    rfl
  · intro o n rest waiting full
    rw [queueReport_busy b busy]
    unfold BranchLink.enqueue
    rw [if_pos (by simp only [Config.reportCap]; omega)]
    simp only [waiting, List.drop_succ_cons, List.drop_zero]
    rfl
  · simp [State.placeNotice, off]
  · rw [placeNotice_busy booking event busy]
    unfold KioskPort.enqueue
    rw [if_neg (by simp only [Config.noticeCap]; omega)]
    rfl
  · rw [placeNotice_busy booking event busy]
    unfold KioskPort.enqueue
    rw [if_pos (by simp only [Config.noticeCap]; omega)]
    simp only [waiting, List.drop_succ_cons, List.drop_zero]
    rfl
  · unfold State.placeNotice KioskPort.wake KioskPort.enqueue
    simp only [on, if_true, none, Config.noticeCap, List.length_nil, idle, KioskPort.choose, empty]
    simp [State.setKiosk]

end Sys2Proof.Machine
end

section
/-! SUPPORT. A request that only answers: what its event makes of a state (`Asked`, `KioskAsked`), and the bodies that no layout fits. -/

namespace Sys2Proof.Machine

/-! ### A frame that is only answered -/

/-- An answer placed while the transmitter is not IDLE waits in the Answer Queue (R150, R151). -/
theorem placeAnswer_held {s : State} (a : Answer) (h : s.link.tx ≠ .idle) :
    s.placeAnswer a = s.setLink { s.link with answers := s.link.answers ++ [a] } := by
  unfold State.placeAnswer
  rw [BranchLink.wake, if_neg h]

/-- The end of the event of a frame that is only answered: the transmitter has taken the oldest answer if it was IDLE. -/
theorem frameEnd_placeAnswer (s : State) (a : Answer) :
    (s.frameBegin.placeAnswer a).frameEnd =
      s.frameBegin.setLink
        { s.frameBegin.link with
          tx := (s.link.given a).1, answers := (s.link.given a).2, supervision := some s.params.supervision } := by
  obtain ⟨tx, answers, -, -⟩ := frameBegin_link s
  rw [placeAnswer_held a (frameBegin_tx s)]
  have moved := deferred_choice_moves (l := { s.link with answers := s.link.answers ++ [a] })
    (m := { s.frameBegin.link with
      answers := s.frameBegin.link.answers ++ [a], supervision := some s.frameBegin.params.supervision })
    tx (by rw [answers]) (by simp)
  have params : s.frameBegin.params = s.params := (frameBegin_kept s).2.2.2.2.1
  rw [params] at moved
  unfold State.frameEnd
  simp only [State.setLink_link, State.setLink_params, params]
  rw [moved]
  rfl

/-- A frame whose owner changes nothing is answered and does nothing else. -/
theorem asked_of_takeFrame {s : State} {i : Instr} {kind tag : Byte} {owner : State → State × Reply} {r : Reply}
    (hears : s.hears) (e : exec i s = .next (s.event fun s => s.takeFrame kind tag owner))
    (quiet : owner s.frameBegin = (s.frameBegin, r)) :
    Asked s i { kind, tag, result := r.result, fields := r.fields } := by
  rw [Asked, e, event_takeFrame s kind tag owner hears, quiet, frameEnd_placeAnswer]

/-- A request whose owner changes nothing. -/
theorem asked_of_takeRequest {α : Type} {s : State} {i : Instr} {kind : Nat} {tag : Byte} {body : Option α} {b : α}
    {owner : α → State → State × Reply} {r : Reply} (hears : s.hears)
    (e : exec i s = .next (s.takeRequest kind tag body owner)) (read : body = some b)
    (quiet : owner b s.frameBegin = (s.frameBegin, r)) :
    Asked s i { kind := BitVec.ofNat 8 (kind + 128), tag, result := r.result, fields := r.fields } := by
  subst read
  exact asked_of_takeFrame (owner := fun s => owner b s) hears e quiet

/-- A body that no layout fits (R148, step 3). -/
theorem asked_badField {α : Type} {s : State} {i : Instr} {kind : Nat} {tag : Byte} {body : Option α}
    {owner : α → State → State × Reply} (hears : s.hears) (e : exec i s = .next (s.takeRequest kind tag body owner))
    (unread : body = none) : Asked s i (plain (BitVec.ofNat 8 (kind + 128)) tag .badField) := by
  subst unread
  exact asked_of_takeFrame (owner := fun s => s.refuse .badField) (r := .of .badField) hears e rfl

/-- A kiosk frame whose owner changes nothing. -/
theorem kioskAsked_of_takeKioskFrame {s : State} {i : Instr} {tag : Byte} {owner : State → State × KioskReply}
    {after : KioskReply → State → State} {r : KioskReply} (hears : s.kioskHears)
    (e : exec i s = .next (s.takeKioskFrame tag owner after)) (quiet : ∀ s, owner s = (s, r)) (last : ∀ s, after r s = s) :
    KioskAsked s i { tag, booking := r.booking, result := r.result, accepted := r.accepted } := by
  obtain ⟨run, on, empty⟩ := hears
  refine gives_event _ e run ?_
  simp only [on, if_true, empty, quiet, last, State.placeKioskAnswer, State.setKiosk_kiosk]
  have wake := KioskPort.given_wake { s.kiosk with rx := .searching }
    { tag, booking := r.booking, result := r.result, accepted := r.accepted } empty
  simp only [on, empty] at wake
  rw [wake]
  by_cases idle : s.kiosk.tx = .idle <;> simp [KioskPort.given, idle, State.setKiosk]

/-! ### Bodies that are read have the length of their layout -/

theorem readNat_length {k : Nat} {bs rest : List Byte} {n : Nat} (h : readNat k bs = some (n, rest)) :
    bs.length = k + rest.length := by
  unfold readNat at h
  split at h
  · cases h
  · cases h; simp only [List.length_drop]; omega

theorem whole_eq_some {α : Type} {r : Option (α × List Byte)} {a : α} (h : whole r = some a) : r = some (a, []) := by
  unfold whole at h
  split at h
  · cases h; rfl
  · cases h

theorem readOne_length {k : Nat} {bs : List Byte} {n : Nat} (h : readOne k bs = some n) : bs.length = k := by
  have := readNat_length (whole_eq_some h)
  simpa using this

theorem readPair_length {j k : Nat} {bs : List Byte} {r : PairReq} (h : readPair j k bs = some r) : bs.length = j + k := by
  simp only [readPair, Option.bind_eq_bind, Option.bind_eq_some_iff, Prod.exists] at h
  obtain ⟨_, rest, first, _, second, -⟩ := h
  rw [readNat_length first, readNat_length (whole_eq_some second)]
  simp

theorem readPolicySet_length {bs : List Byte} {r : PolicySetReq} (h : readPolicySet bs = some r) : bs.length = 4 := by
  simp only [readPolicySet, Option.bind_eq_bind, Option.bind_eq_some_iff, Prod.exists] at h
  obtain ⟨_, _, h1, _, _, h2, _, _, h3, _, h4, -⟩ := h
  rw [readNat_length h1, readNat_length h2, readNat_length h3, readNat_length (whole_eq_some h4)]
  simp

theorem readBookingQuery_length {bs : List Byte} {r : BookingQueryReq} (h : readBookingQuery bs = some r) : bs.length = 5 := by
  simp only [readBookingQuery, Option.bind_eq_bind, Option.bind_eq_some_iff, Prod.exists] at h
  obtain ⟨form, rest, first, h⟩ := h
  have : rest.length = 4 := by
    split at h
    · obtain ⟨_, read, -⟩ := Option.map_eq_some_iff.mp h; exact readOne_length read
    · obtain ⟨_, read, -⟩ := Option.map_eq_some_iff.mp h; exact readOne_length read
    · cases h
  rw [readNat_length first, this]

/-- The form byte of a BOOKING_QUERY that is read is 0 or 1. -/
theorem readNat_head {bs rest : List Byte} {n : Nat} (h : readNat 1 bs = some (n, rest)) :
    ∃ b : Byte, bs = b :: rest ∧ n = b.toNat := by
  unfold readNat at h
  split at h
  · cases h
  · cases bs with
    | nil => next short => exact absurd short (by simp)
    | cons b bs =>
      cases h
      exact ⟨b, by simp, by simp [beNat]⟩

theorem readBookingQuery_form {bs : List Byte} {r : BookingQueryReq} (h : readBookingQuery bs = some r) (p : Byte)
    (hp : bs[0]? = some p) : p.toNat ≤ 1 := by
  simp only [readBookingQuery, Option.bind_eq_bind, Option.bind_eq_some_iff, Prod.exists] at h
  obtain ⟨form, rest, first, h⟩ := h
  obtain ⟨b, rfl, rfl⟩ := readNat_head first
  cases hp
  split at h
  · omega
  · omega
  · cases h

theorem readAlertQuery_shape {bs : List Byte} {r : AlertQueryReq} (h : readAlertQuery bs = some r) :
    (bs.length = 1 ∨ bs.length = 6) ∧ ∀ p : Byte, bs[0]? = some p → p.toNat ≤ 1 := by
  simp only [readAlertQuery, Option.bind_eq_bind, Option.bind_eq_some_iff, Prod.exists] at h
  obtain ⟨form, rest, first, h⟩ := h
  obtain ⟨b, rfl, rfl⟩ := readNat_head first
  split at h
  · obtain ⟨_, read, -⟩ := Option.map_eq_some_iff.mp h
    have empty : rest = [] := by
      unfold readNone at read
      split at read
      · simpa using ‹rest.isEmpty = true›
      · cases read
    exact ⟨Or.inl (by simp [empty]), fun p hp => by cases hp; omega⟩
  · obtain ⟨_, read, -⟩ := Option.map_eq_some_iff.mp h
    exact ⟨Or.inr (by simp [readPair_length read]), fun p hp => by cases hp; omega⟩
  · cases h

theorem readAlertQuery_eq_none {bs : List Byte}
    (h : readAlertQuery bs = none ∨ (bs.length ≠ 1 ∧ bs.length ≠ 6) ∨ ∃ p : Byte, bs[0]? = some p ∧ 1 < p.toNat) :
    readAlertQuery bs = none := by
  refine Option.eq_none_iff_forall_ne_some.mpr fun r read => ?_
  obtain ⟨len, form⟩ := readAlertQuery_shape read
  rcases h with unread | misfit | ⟨p, hp, big⟩
  · rw [unread] at read; cases read
  · omega
  · have := form p hp; omega

theorem readOpt_length {present : Bool} {k : Nat} {bs rest : List Byte} {o : Option Nat}
    (h : readOpt present k bs = some (o, rest)) : bs.length = (if present then k else 0) + rest.length := by
  unfold readOpt at h
  split at h
  · obtain ⟨x, read, e⟩ := Option.map_eq_some_iff.mp h
    cases e; simp_all [readNat_length read]
  · cases h; simp_all

theorem readWindow_length {present : Bool} {bs rest : List Byte} {o : Option (Nat × Nat)}
    (h : readWindow present bs = some (o, rest)) : bs.length = (if present then 8 else 0) + rest.length := by
  unfold readWindow at h
  split at h
  · simp only [Option.bind_eq_bind, Option.bind_eq_some_iff, Prod.exists] at h
    obtain ⟨_, _, h1, _, _, h2, e⟩ := h
    cases e
    rw [readNat_length h1, readNat_length h2]
    simp_all; omega
  · cases h; simp_all

/-- A number of one byte read behind `k` bytes is the byte at place `k`. -/
theorem readNat_getElem {k n p : Nat} {bs rest rest' : List Byte} (h : readNat k bs = some (n, rest))
    (hp : readNat 1 rest = some (p, rest')) : ∃ b : Byte, bs[k]? = some b ∧ b.toNat = p := by
  obtain ⟨b, rfl, rfl⟩ := readNat_head hp
  unfold readNat at h
  split at h
  · cases h
  · simp only [Option.some.injEq, Prod.mk.injEq] at h
    refine ⟨b, ?_, rfl⟩
    have := congrArg (·[0]?) h.2
    simpa using this

theorem readNat_drop {k n : Nat} {bs rest : List Byte} (h : readNat k bs = some (n, rest)) : rest = bs.drop k := by
  unfold readNat at h
  split at h
  · cases h
  · cases h; rfl

theorem readKeyLoad_shape {bs : List Byte} {r : KeyLoadReq} (h : readKeyLoad bs = some r) :
    (bs.length = 7 ∨ bs.length = 9) ∧ ∀ p : Byte, bs[6]? = some p → p.toNat ≤ 1 := by
  simp only [readKeyLoad, Option.bind_eq_bind, Option.bind_eq_some_iff, Prod.exists] at h
  obtain ⟨_, b1, h1, _, b2, h2, p, b3, h3, h⟩ := h
  split at h
  · cases h
  · next small =>
    obtain ⟨home, h4, -⟩ := Option.bind_eq_some_iff.mp h
    have len := readOpt_length (whole_eq_some h4)
    obtain ⟨b, hb, e⟩ := readNat_head h3
    refine ⟨?_, fun q hq => ?_⟩
    · rw [readNat_length h1, readNat_length h2, readNat_length h3, len]
      split <;> simp
    · have at6 : bs[6]? = b2[0]? := by rw [readNat_drop h2, readNat_drop h1]; simp
      rw [hq, hb] at at6
      cases at6; omega

theorem readBookingLoad_shape {bs : List Byte} {r : BookingLoadReq} (h : readBookingLoad bs = some r) :
    (17 ≤ bs.length ∧ bs.length ≤ 28) ∧ ∀ p : Byte, bs[9]? = some p → p.toNat ≤ 3 := by
  simp only [readBookingLoad, Option.bind_eq_bind, Option.bind_eq_some_iff, Prod.exists] at h
  obtain ⟨_, b1, h1, _, b2, h2, _, b3, h3, p, b4, h4, _, b5, h5, _, b6, h6, _, b7, h7, h⟩ := h
  split at h
  · cases h
  · next small =>
    simp only [Option.bind_eq_some_iff, Prod.exists] at h
    obtain ⟨_, b8, h8, _, h9, -⟩ := h
    have code := readOpt_length h8
    have window := readWindow_length (whole_eq_some h9)
    obtain ⟨b, hb, e⟩ := readNat_head h4
    refine ⟨?_, fun q hq => ?_⟩
    · rw [readNat_length h1, readNat_length h2, readNat_length h3, readNat_length h4, readNat_length h5, readNat_length h6,
        readNat_length h7, code, window]
      simp only [List.length_nil]
      split <;> split <;> omega
    · have at9 : bs[9]? = b3[0]? := by rw [readNat_drop h3, readNat_drop h2, readNat_drop h1]; simp
      rw [hq, hb] at at9
      cases at9; omega

theorem readAmendCode_length {flagged : Bool} {bs rest : List Byte} {o : Option (Option Nat)}
    (h : readAmendCode flagged bs = some (o, rest)) : rest.length ≤ bs.length ∧ bs.length ≤ 4 + rest.length := by
  unfold readAmendCode at h
  split at h
  · simp only [Option.bind_eq_bind, Option.bind_eq_some_iff, Prod.exists] at h
    obtain ⟨m, b1, h1, h⟩ := h
    split at h
    · cases h
    · obtain ⟨x, read, e⟩ := Option.map_eq_some_iff.mp h
      cases e
      rw [readNat_length h1, readOpt_length read]
      split <;> omega
  · cases h; omega

theorem readAmendWindow_length {flagged : Bool} {bs rest : List Byte} {o : Option (Option (Nat × Nat))}
    (h : readAmendWindow flagged bs = some (o, rest)) : rest.length ≤ bs.length ∧ bs.length ≤ 9 + rest.length := by
  unfold readAmendWindow at h
  split at h
  · simp only [Option.bind_eq_bind, Option.bind_eq_some_iff, Prod.exists] at h
    obtain ⟨m, b1, h1, h⟩ := h
    split at h
    · cases h
    · obtain ⟨x, read, e⟩ := Option.map_eq_some_iff.mp h
      cases e
      rw [readNat_length h1, readWindow_length read]
      split <;> omega
  · cases h; omega

theorem readBookingAmend_shape {bs : List Byte} {r : BookingAmendReq} (h : readBookingAmend bs = some r) :
    (5 ≤ bs.length ∧ bs.length ≤ 25) ∧ ∀ p : Byte, bs[4]? = some p → p.toNat ≤ 31 := by
  simp only [readBookingAmend, Option.bind_eq_bind, Option.bind_eq_some_iff, Prod.exists] at h
  obtain ⟨_, b1, h1, p, b2, h2, h⟩ := h
  split at h
  · cases h
  · next small =>
    simp only [Option.bind_eq_some_iff, Prod.exists] at h
    obtain ⟨_, b3, h3, _, b4, h4, _, b5, h5, _, b6, h6, _, h7, -⟩ := h
    have code := readAmendCode_length h6
    have window := readAmendWindow_length (whole_eq_some h7)
    have due := readOpt_length h3
    have grace := readOpt_length h4
    have escalation := readOpt_length h5
    obtain ⟨b, hb, e⟩ := readNat_getElem h1 h2
    refine ⟨?_, fun q hq => ?_⟩
    · rw [readNat_length h1, readNat_length h2]
      simp only [List.length_nil] at window
      split at due <;> split at grace <;> split at escalation <;> omega
    · rw [hq] at hb
      cases hb; omega

theorem readNone_eq_none {bs : List Byte} (h : bs ≠ []) : readNone bs = none := if_neg (by simpa using h)

/-- Settles O6: a body that is read has the length and the presence byte of its layout. -/
theorem aMisshapenFrameIsRefused : Obligations.AMisshapenFrameIsRefused := by
  intro s tag body
  have one {k : Nat} (h : body.length ≠ k) : readOne k body = none :=
    Option.eq_none_iff_forall_ne_some.mpr fun _ read => h (readOne_length read)
  have pair {j k : Nat} (h : body.length ≠ j + k) : readPair j k body = none :=
    Option.eq_none_iff_forall_ne_some.mpr fun _ read => h (readPair_length read)
  refine ⟨fun hears => ?_, fun hears => ⟨fun kind => ?_, fun len => ?_⟩⟩
  · have bad {α : Type} {i : Instr} {kind : Nat} {read : Option α} {owner : α → State → State × Reply}
        (unread : read = none) (e : exec i s = .next (s.takeRequest kind tag read owner)) :
        Asked s i (plain (BitVec.ofNat 8 (kind + 128)) tag .badField) := asked_badField hears e unread
    refine ⟨fun kind => ?_, fun len => ⟨?_, ?_, ?_, ?_⟩, fun len => ⟨?_, ?_, ?_⟩, fun len => ⟨?_, ?_⟩,
      fun len => ⟨?_, ?_, ?_, ?_, ?_, ?_, ?_⟩, fun len => ⟨?_, ?_, ?_⟩, fun h => ?_, fun h => ?_, fun h => ?_,
      fun h => ⟨?_, ?_⟩, fun h => ⟨?_, ?_⟩, fun h => ⟨?_, ?_, ?_, ?_, ?_⟩⟩
    · exact asked_of_takeFrame (r := { result := .unknownKind, fields := .kindByte kind }) hears rfl rfl
    · exact bad (one len) rfl
    · exact bad (one len) rfl
    · exact bad (one len) rfl
    · exact bad (one len) rfl
    · exact bad (one len) rfl
    · exact bad (one len) rfl
    · exact bad (one len) rfl
    · exact bad (pair len) rfl
    · exact bad (pair len) rfl
    · exact bad (one len) rfl
    · exact bad (one len) rfl
    · exact bad (one len) rfl
    · exact bad (Option.eq_none_iff_forall_ne_some.mpr fun _ read => len (readPolicySet_length read)) rfl
    · exact bad (one len) rfl
    · exact bad (one len) rfl
    · exact bad (one len) rfl
    · exact bad (pair len) rfl
    · exact bad (Option.eq_none_iff_forall_ne_some.mpr fun _ read => len (readBookingQuery_length read)) rfl
    · exact bad (Option.eq_none_iff_forall_ne_some.mpr fun _ read => len (readBookingQuery_length read)) rfl
    · refine bad (Option.eq_none_iff_forall_ne_some.mpr fun r read => ?_) rfl
      obtain ⟨len, presence⟩ := readKeyLoad_shape read
      rcases h with unread | misfit | ⟨p, hp, big⟩
      · rw [unread] at read; cases read
      · omega
      · have := presence p hp; omega
    · refine bad (Option.eq_none_iff_forall_ne_some.mpr fun r read => ?_) rfl
      obtain ⟨len, presence⟩ := readBookingLoad_shape read
      rcases h with unread | short | long | ⟨p, hp, big⟩
      · rw [unread] at read; cases read
      · omega
      · omega
      · have := presence p hp; omega
    · refine bad (Option.eq_none_iff_forall_ne_some.mpr fun r read => ?_) rfl
      obtain ⟨len, flags⟩ := readBookingAmend_shape read
      rcases h with unread | short | long | ⟨p, hp, big⟩
      · rw [unread] at read; cases read
      · omega
      · omega
      · have := flags p hp; omega
    · obtain ⟨p, hp, big⟩ := h
      exact bad (Option.eq_none_iff_forall_ne_some.mpr fun r read => by have := readBookingQuery_form read p hp; omega) rfl
    · obtain ⟨p, hp, big⟩ := h
      exact bad (Option.eq_none_iff_forall_ne_some.mpr fun r read => by have := readBookingQuery_form read p hp; omega) rfl
    · exact bad (readAlertQuery_eq_none h) rfl
    · exact bad (readAlertQuery_eq_none h) rfl
    · exact bad (readNone_eq_none h) rfl
    · exact bad (readNone_eq_none h) rfl
    · exact bad (readNone_eq_none h) rfl
    · exact bad (readNone_eq_none h) rfl
    · exact bad (readNone_eq_none h) rfl
  · exact kioskAsked_of_takeKioskFrame (r := .of .unknownKind) hears rfl (fun _ => rfl) fun _ => rfl
  · refine kioskAsked_of_takeKioskFrame (r := .of .badField) hears rfl (fun s => ?_) fun _ => rfl
    rw [pair len]

end Sys2Proof.Machine
end

section
/-! SUPPORT. States with equal tables: what is read of them is equal, and the changes claims are stated with keep them equal.
Step 1 of R148 is the first such pair: `frameBegin` and `heard`. -/

namespace Sys2Proof.Machine

/-! ### Lists with equal bare forms -/

theorem countP_eq_of_map_eq {α : Type} (f : α → α) (p : α → Bool) {l m : List α} (h : l.map f = m.map f)
    (hp : ∀ a, p (f a) = p a) : l.countP p = m.countP p := by
  have through (k : List α) : k.countP p = (k.map f).countP p := by simp [List.countP_map, Function.comp_def, hp]
  rw [through l, h, ← through m]

theorem map_filter_eq_of_map_eq {α : Type} (f : α → α) (p : α → Bool) {l m : List α} (h : l.map f = m.map f)
    (hp : ∀ a, p (f a) = p a) : (l.filter p).map f = (m.filter p).map f := by
  have through (k : List α) : (k.filter p).map f = (k.map f).filter p := by simp [List.filter_map, Function.comp_def, hp]
  rw [through l, h, ← through m]

theorem map_map_eq_of_map_eq {α : Type} (f g : α → α) {l m : List α} (h : l.map f = m.map f)
    (hg : ∀ a, f (g a) = g (f a)) : (l.map g).map f = (m.map g).map f := by
  have through (k : List α) : (k.map g).map f = (k.map f).map g := by simp [Function.comp_def, hg]
  rw [through l, h, ← through m]

/-! ### Reading records -/

theorem find?_any_congr {s t : State} (h : s.tables = t.tables) (n : Nat) (p : Booking → Bool) (hp : ∀ b, p b.bare = p b) :
    (s.booking? n).any p = (t.booking? n).any p := by
  have through (o : Option Booking) : o.any p = (o.map Booking.bare).any p := by cases o <;> simp [hp]
  rw [through, booking?_bare h, ← through]

theorem booking?_eq_none_congr {s t : State} (h : s.tables = t.tables) (n : Nat) :
    s.booking? n = none ↔ t.booking? n = none := by
  rw [← Option.map_eq_none_iff (f := Booking.bare), booking?_bare h, Option.map_eq_none_iff]

/-- A booking found in one state is found in the other, up to its alert fields. -/
theorem booking?_some_congr {s t : State} (h : s.tables = t.tables) {n : Nat} {b : Booking} (found : t.booking? n = some b) :
    ∃ c : Booking, s.booking? n = some c ∧ c.bare = b.bare := by
  have bare := booking?_bare h n
  rw [found, Option.map_some] at bare
  exact Option.map_eq_some_iff.mp bare

theorem drop?_eq_none_congr {s t : State} (h : s.tables = t.tables) (n : Nat) : s.drop? n = none ↔ t.drop? n = none := by
  rw [← Option.map_eq_none_iff (f := DropEntry.bare), drop?_bare h, Option.map_eq_none_iff]

theorem drop?_some_congr {s t : State} (h : s.tables = t.tables) {n : Nat} {e : DropEntry} (found : t.drop? n = some e) :
    ∃ c : DropEntry, s.drop? n = some c ∧ c.bare = e.bare := by
  have bare := drop?_bare h n
  rw [found, Option.map_some] at bare
  exact Option.map_eq_some_iff.mp bare

theorem entries_bare {s t : State} (h : s.tables = t.tables) :
    s.bin.entries.map DropEntry.bare = t.bin.entries.map DropEntry.bare := congrArg (fun u : State => u.bin.entries) h

theorem nextDrop_congr {s t : State} (h : s.tables = t.tables) : s.bin.nextDrop = t.bin.nextDrop :=
  show s.tables.bin.nextDrop = t.tables.bin.nextDrop from congrArg (·.bin.nextDrop) h

theorem entries_length_congr {s t : State} (h : s.tables = t.tables) : s.bin.entries.length = t.bin.entries.length := by
  simpa using congrArg List.length (entries_bare h)

theorem inBinCount_eq_countP (s : State) : s.inBinCount = s.bin.entries.countP fun e => e.state == .inBin :=
  List.countP_eq_length_filter.symm

theorem inBinCount_congr {s t : State} (h : s.tables = t.tables) : s.inBinCount = t.inBinCount := by
  simp only [inBinCount_eq_countP]
  exact countP_eq_of_map_eq DropEntry.bare _ (entries_bare h) fun _ => rfl

theorem slotOnline_congr {s t : State} (h : s.tables = t.tables) (n : SlotNo) : s.slotOnline n = t.slotOnline n :=
  online_congr h _

theorem unit_state_congr {s t : State} (h : s.tables = t.tables) (u : UnitIx) : (s.unit u).state = (t.unit u).state :=
  show (s.unit u).bare.state = (t.unit u).bare.state from congrArg UnitRec.state (unit_bare h u)

/-! ### Step 1 of R148 -/

/-- The state that hears a frame has the conditions changed at most. -/
theorem heard_eq (s : State) : s.heard = { s with conds := s.heard.conds } := by
  unfold State.heard
  split <;> rfl

end Sys2Proof.Machine
end

section
/-! SUPPORT. What the model's operations do to the tables, in the terms claims are stated in. Every law has the shape
`(op s).tables = change s.tables`: both sides of a claim about tables come down to changes of one `s.tables`. -/

namespace Sys2Proof.Machine

/-! ### Reading through the tables -/

@[simp] theorem tables_idem (s : State) : s.tables.tables = s.tables := by
  have once {α : Type} (f : α → α) (h : ∀ a, f (f a) = f a) (l : List α) : (l.map f).map f = l.map f := by simp [h]
  have onceV {α : Type} {n : Nat} (f : α → α) (h : ∀ a, f (f a) = f a) (v : Vector α n) : (v.map f).map f = v.map f := by
    simp [h]
  simp only [State.tables, once KeyEntry.bare fun _ => rfl, once Booking.bare fun _ => rfl, once DropEntry.bare fun _ => rfl,
    onceV CondRec.bare fun _ => rfl, onceV SlotRec.bare fun _ => rfl, onceV UnitRec.bare fun _ => rfl]
  rfl

@[simp] theorem tables_slot (s : State) (n : SlotNo) : s.tables.slot n = (s.slot n).bare := by
  simp [State.slot, State.tables]

@[simp] theorem tables_unit (s : State) (u : UnitIx) : s.tables.unit u = (s.unit u).bare := by
  simp [State.unit, State.tables]

@[simp] theorem tables_cond_active (s : State) (c : Condition) : (s.tables.cond c).active = (s.cond c).active :=
  cond_active (tables_idem s) c

@[simp] theorem tables_inBinCount (s : State) : s.tables.inBinCount = s.inBinCount := inBinCount_congr (tables_idem s)

@[simp] theorem tables_entries_length (s : State) : s.tables.bin.entries.length = s.bin.entries.length :=
  entries_length_congr (tables_idem s)

@[simp] theorem tables_slotOfKey (s : State) (k : Nat) : s.tables.slotOfKey k = s.slotOfKey k := slotOfKey_congr (tables_idem s) k

theorem tables_booking? (s : State) (n : Nat) : s.tables.booking? n = (s.booking? n).map Booking.bare :=
  find_map_bare Booking.bare (fun b => b.number == n) (fun b => b.number == n) s.bookings fun _ => rfl

/-! ### The bare form of a record, field by field

Proved by unfolding and not by `rfl`: `simp` takes a side condition for proved only when its proof's type is the condition itself. -/

@[simp] theorem SlotRec.bare_mk (occ : Occupancy) (tag : Option Nat) (since : Option Nat) (channel : Option ChanNo) (queued : Bool) (lastRelease : Option Nat) (service : Service) (faults : FaultSet) (slow : Nat) (chatter : Nat) (chatterStart : Option Nat) (lamp : Lamp) (alert : AlertFields) :
    SlotRec.bare ⟨occ, tag, since, channel, queued, lastRelease, service, faults, slow, chatter, chatterStart, lamp, alert⟩ = ⟨occ, tag, since, channel, queued, lastRelease, service, faults, slow, chatter, chatterStart, .off, .clear⟩ := by simp only [SlotRec.bare]

@[simp] theorem SlotRec.bare_occ (r : SlotRec) : r.bare.occ = r.occ := by simp only [SlotRec.bare]
@[simp] theorem SlotRec.bare_tag (r : SlotRec) : r.bare.tag = r.tag := by simp only [SlotRec.bare]
@[simp] theorem SlotRec.bare_since (r : SlotRec) : r.bare.since = r.since := by simp only [SlotRec.bare]
@[simp] theorem SlotRec.bare_channel (r : SlotRec) : r.bare.channel = r.channel := by simp only [SlotRec.bare]
@[simp] theorem SlotRec.bare_queued (r : SlotRec) : r.bare.queued = r.queued := by simp only [SlotRec.bare]
@[simp] theorem SlotRec.bare_lastRelease (r : SlotRec) : r.bare.lastRelease = r.lastRelease := by simp only [SlotRec.bare]
@[simp] theorem SlotRec.bare_service (r : SlotRec) : r.bare.service = r.service := by simp only [SlotRec.bare]
@[simp] theorem SlotRec.bare_faults (r : SlotRec) : r.bare.faults = r.faults := by simp only [SlotRec.bare]
@[simp] theorem SlotRec.bare_slow (r : SlotRec) : r.bare.slow = r.slow := by simp only [SlotRec.bare]
@[simp] theorem SlotRec.bare_chatter (r : SlotRec) : r.bare.chatter = r.chatter := by simp only [SlotRec.bare]
@[simp] theorem SlotRec.bare_chatterStart (r : SlotRec) : r.bare.chatterStart = r.chatterStart := by simp only [SlotRec.bare]
@[simp] theorem SlotRec.bare_lamp (r : SlotRec) : r.bare.lamp = .off := by simp only [SlotRec.bare]
@[simp] theorem SlotRec.bare_alert (r : SlotRec) : r.bare.alert = .clear := by simp only [SlotRec.bare]

@[simp] theorem UnitRec.bare_mk (state : UnitState) (cause : Option ProbeCause) (misses : Nat) (attempts : Nat) (retry : Option Nat) (resync : Bool) (quarantined : Nat) (retireMark : Bool) (lampsWanted : Bool) (alert : AlertFields) :
    UnitRec.bare ⟨state, cause, misses, attempts, retry, resync, quarantined, retireMark, lampsWanted, alert⟩ = ⟨state, cause, misses, attempts, retry, resync, quarantined, retireMark, false, .clear⟩ := by simp only [UnitRec.bare]

@[simp] theorem UnitRec.bare_state (r : UnitRec) : r.bare.state = r.state := by simp only [UnitRec.bare]
@[simp] theorem UnitRec.bare_cause (r : UnitRec) : r.bare.cause = r.cause := by simp only [UnitRec.bare]
@[simp] theorem UnitRec.bare_misses (r : UnitRec) : r.bare.misses = r.misses := by simp only [UnitRec.bare]
@[simp] theorem UnitRec.bare_attempts (r : UnitRec) : r.bare.attempts = r.attempts := by simp only [UnitRec.bare]
@[simp] theorem UnitRec.bare_retry (r : UnitRec) : r.bare.retry = r.retry := by simp only [UnitRec.bare]
@[simp] theorem UnitRec.bare_resync (r : UnitRec) : r.bare.resync = r.resync := by simp only [UnitRec.bare]
@[simp] theorem UnitRec.bare_quarantined (r : UnitRec) : r.bare.quarantined = r.quarantined := by simp only [UnitRec.bare]
@[simp] theorem UnitRec.bare_retireMark (r : UnitRec) : r.bare.retireMark = r.retireMark := by simp only [UnitRec.bare]
@[simp] theorem UnitRec.bare_lampsWanted (r : UnitRec) : r.bare.lampsWanted = false := by simp only [UnitRec.bare]
@[simp] theorem UnitRec.bare_alert (r : UnitRec) : r.bare.alert = .clear := by simp only [UnitRec.bare]

@[simp] theorem Booking.bare_mk (number : Nat) (kind : BookingKind) (key : Nat) (code : Option Nat) (window : Option (Nat × Nat)) (due : Nat) (grace : Nat) (escalation : Nat) (state : BookingState) (source : Option Source) (stage : Option Stage) (taken : Option Nat) (returned : Option Returned) (lateness : Option Nat) (failures : Nat) (alert : AlertFields) :
    Booking.bare ⟨number, kind, key, code, window, due, grace, escalation, state, source, stage, taken, returned, lateness, failures, alert⟩ = ⟨number, kind, key, code, window, due, grace, escalation, state, source, stage, taken, returned, lateness, failures, .clear⟩ := by simp only [Booking.bare]

@[simp] theorem Booking.bare_number (r : Booking) : r.bare.number = r.number := by simp only [Booking.bare]
@[simp] theorem Booking.bare_kind (r : Booking) : r.bare.kind = r.kind := by simp only [Booking.bare]
@[simp] theorem Booking.bare_key (r : Booking) : r.bare.key = r.key := by simp only [Booking.bare]
@[simp] theorem Booking.bare_code (r : Booking) : r.bare.code = r.code := by simp only [Booking.bare]
@[simp] theorem Booking.bare_window (r : Booking) : r.bare.window = r.window := by simp only [Booking.bare]
@[simp] theorem Booking.bare_due (r : Booking) : r.bare.due = r.due := by simp only [Booking.bare]
@[simp] theorem Booking.bare_grace (r : Booking) : r.bare.grace = r.grace := by simp only [Booking.bare]
@[simp] theorem Booking.bare_escalation (r : Booking) : r.bare.escalation = r.escalation := by simp only [Booking.bare]
@[simp] theorem Booking.bare_state (r : Booking) : r.bare.state = r.state := by simp only [Booking.bare]
@[simp] theorem Booking.bare_source (r : Booking) : r.bare.source = r.source := by simp only [Booking.bare]
@[simp] theorem Booking.bare_stage (r : Booking) : r.bare.stage = r.stage := by simp only [Booking.bare]
@[simp] theorem Booking.bare_taken (r : Booking) : r.bare.taken = r.taken := by simp only [Booking.bare]
@[simp] theorem Booking.bare_returned (r : Booking) : r.bare.returned = r.returned := by simp only [Booking.bare]
@[simp] theorem Booking.bare_lateness (r : Booking) : r.bare.lateness = r.lateness := by simp only [Booking.bare]
@[simp] theorem Booking.bare_failures (r : Booking) : r.bare.failures = r.failures := by simp only [Booking.bare]
@[simp] theorem Booking.bare_alert (r : Booking) : r.bare.alert = .clear := by simp only [Booking.bare]

/-! ### Changes of one record -/

@[simp] theorem withSlot_form (s : State) (n : SlotNo) (f : SlotRec → SlotRec) (hf : ∀ r, (f r).bare = f r.bare) :
    (s.withSlot n f).tables = s.tables.withSlot n f := by
  simp only [State.withSlot, State.tables, Vector.map_set, hf, Fin.getElem_fin, Vector.getElem_map]

@[simp] theorem withUnit_form (s : State) (u : UnitIx) (f : UnitRec → UnitRec) (hf : ∀ r, (f r).bare = f r.bare) :
    (s.withUnit u f).tables = s.tables.withUnit u f := by
  simp only [State.withUnit, State.tables, Vector.map_set, hf, Fin.getElem_fin, Vector.getElem_map]

@[simp] theorem withBooking_form (s : State) (n : Nat) (f : Booking → Booking) (hf : ∀ b, (f b).bare = f b.bare) :
    (s.withBooking n f).tables = s.tables.withBooking n f := by
  have each (b : Booking) : (if b.number = n then f b else b).bare = if b.bare.number = n then f b.bare else b.bare := by
    by_cases same : b.number = n
    · rw [if_pos same, if_pos (show b.bare.number = n from same), hf]
    · rw [if_neg same, if_neg (show ¬ b.bare.number = n from same)]
  simp only [State.withBooking, State.tables, List.map_map, Function.comp_def, each]

@[simp] theorem withMissing_form (s : State) (tag : Nat) (b : Bool) : (s.withMissing tag b).tables = s.tables.withMissing tag b := by
  have each (e : KeyEntry) :
      (if e.tag = tag then { e with missing := b } else e).bare =
        if e.bare.tag = tag then { e.bare with missing := b } else e.bare := by
    by_cases same : e.tag = tag <;> simp [same, KeyEntry.bare]
  simp only [State.withMissing, State.tables, List.map_map, Function.comp_def, each]

@[simp] theorem withChan_form (s : State) (c : ChanNo) (x : Channel) : (s.withChan c x).tables = s.tables.withChan c x := rfl

@[simp] theorem putChan_form (s : State) (c : ChanNo) (x : Channel) : (s.putChan c x).tables = s.tables.withChan c x := rfl

@[simp] theorem setPhase_form (s : State) (c : ChanNo) (x : Channel) : (s.setPhase c x).tables = s.tables.withChan c x := by
  unfold State.setPhase
  split
  · rw [relamp_tables, putChan_form]
  · rfl

@[simp] theorem modSlot_form (s : State) (n : SlotNo) (f : SlotRec → SlotRec) (hf : ∀ r, (f r).bare = f r.bare) :
    (s.modSlot n f).tables = s.tables.withSlot n f := withSlot_form s n f hf

@[simp] theorem modSlotLamp_form (s : State) (n : SlotNo) (f : SlotRec → SlotRec) (hf : ∀ r, (f r).bare = f r.bare) :
    (s.modSlotLamp n f).tables = s.tables.withSlot n f := (relamp_tables _ _).trans (modSlot_form s n f hf)

@[simp] theorem mapBooking_form (s : State) (n : Nat) (f : Booking → Booking) (hf : ∀ b, (f b).bare = f b.bare) :
    (s.mapBooking n f).tables = s.tables.withBooking n f := withBooking_form s n f hf

/-! ### Conditions (R131) -/

theorem vector_set_self {α : Type} {n : Nat} (v : Vector α n) (i : Fin n) : v.set i v[i] = v := by
  ext j hj
  rw [Vector.getElem_set]
  split
  · next same => subst same; rfl
  · rfl

@[simp] theorem condTo_form (s : State) (c : Condition) (b : Bool) : (s.condTo c b).tables = s.tables.condTo c b := by
  simp only [State.condTo, State.putCond, State.setConds, State.cond, State.tables, Vector.map_set, Fin.getElem_fin,
    Vector.getElem_map]
  rfl

/-- A condition set to what it is. -/
theorem condTo_of_active {s : State} {c : Condition} {b : Bool} (h : b = (s.cond c).active) : s.condTo c b = s := by
  subst h
  exact congrArg s.setConds (vector_set_self s.conds c.ix)

@[simp] theorem beginCond_form (s : State) (c : Condition) : (s.beginCond c).tables = s.tables.condTo c true :=
  (raiseAlert_tables _ _ _).trans (condTo_form s c true)

@[simp] theorem endCond_form (s : State) (c : Condition) : (s.endCond c).tables = s.tables.condTo c false :=
  (withdrawAlert_tables _ _ _).trans (condTo_form s c false)

@[simp] theorem judgeCond_form (s : State) (c : Condition) (want : Bool) : (s.judgeCond c want).tables = s.tables.condTo c want := by
  unfold State.judgeCond
  split
  · next same => exact (condTo_of_active (same.trans (tables_cond_active s c).symm)).symm
  · cases want
    · exact endCond_form s c
    · exact beginCond_form s c

@[simp] theorem panelJudged_form (s : State) : s.panelJudged.tables = s.tables.panelJudged := by
  simp only [State.panelJudged, condTo_form, tables_cond_active]; rfl

@[simp] theorem judgePanel_form (s : State) : s.judgePanel.tables = s.tables.panelJudged := by
  unfold State.judgePanel State.inSession
  rw [judgeCond_form]
  simp only [State.panelJudged, tables_cond_active]
  cases h : s.session.remaining <;> simp [State.tables, h]

@[simp] theorem nearFullJudged_form (s : State) : s.nearFullJudged.tables = s.tables.nearFullJudged := by
  simp only [State.nearFullJudged, condTo_form, tables_inBinCount]; rfl

@[simp] theorem judgeNearFull_form (s : State) : s.judgeNearFull.tables = s.tables.nearFullJudged := by
  unfold State.judgeNearFull
  rw [judgeCond_form]
  simp only [State.nearFullJudged, tables_inBinCount]; rfl

/-! ### The flap (R107, R108) -/

/-- The position R107 wants. -/
def State.flapWanted (s : State) : FlapPos := if 48 ≤ s.inBinCount ∨ 64 ≤ s.bin.entries.length then .locked else .unlocked

/-- Flap wanted is set to a position, and what rests on it where it changes (R108). -/
def State.flapTo (s : State) (want : FlapPos) : State :=
  let refused := s.chute.refused && want == .unlocked
  if want = s.chute.wanted then s
  else { s with chute := { s.chute with wanted := want, refused } }.condTo .chuteLocked (want == FlapPos.locked || refused)

theorem flapJudged_eq (s : State) : s.flapJudged = s.flapTo s.flapWanted := rfl

@[simp] theorem tables_flapWanted (s : State) : s.tables.flapWanted = s.flapWanted := by
  simp only [State.flapWanted, tables_inBinCount, tables_entries_length]

theorem flapTo_form (s : State) (want : FlapPos) : (s.flapTo want).tables = s.tables.flapTo want := by
  unfold State.flapTo
  by_cases same : want = s.chute.wanted
  · exact (congrArg State.tables (if_pos same)).trans (if_pos (show want = s.tables.chute.wanted from same)).symm
  · exact ((congrArg State.tables (if_neg same)).trans (condTo_form _ _ _)).trans
      (if_neg (show ¬ want = s.tables.chute.wanted from same)).symm

@[simp] theorem flapJudged_form (s : State) : s.flapJudged.tables = s.tables.flapJudged := by
  rw [flapJudged_eq, flapJudged_eq, flapTo_form, tables_flapWanted]

/-- Becoming LOCKED clears the flap refused mark. -/
theorem flapTo_refused (s : State) (want : FlapPos) :
    (if want = .locked then false else s.chute.refused) = (s.chute.refused && want == .unlocked) := by
  cases want <;> simp

@[simp] theorem judgeFlap_form (s : State) : s.judgeFlap.tables = s.tables.flapJudged := by
  rw [← flapJudged_form, flapJudged_eq]
  change (if s.flapWanted = s.chute.wanted then s
    else (s.setChute { s.chute with
      wanted := s.flapWanted
      refused := if s.flapWanted = .locked then false else s.chute.refused }).judgeChuteLocked).tables = _
  rw [flapTo_refused]
  by_cases same : s.flapWanted = s.chute.wanted
  · rw [if_pos same, State.flapTo, if_pos same]
  · rw [if_neg same, State.judgeChuteLocked, judgeCond_form, State.flapTo, if_neg same, condTo_form]
    rfl

/-! ### Slots changed one after the other -/

theorem allSlots_eq_finRange : allSlots = List.finRange 384 := by decide +kernel

/-- The slots with their records, by slot number. -/
theorem slotList_eq (s : State) : s.slotList = (List.finRange 384).map fun n => (n, s.slot n) := by
  rw [State.slotList, allSlots_eq_finRange]
  refine List.ext_getElem (by simp) fun i h1 h2 => ?_
  simp [State.slot]

theorem mem_slotList_filter {s : State} {p : SlotNo × SlotRec → Bool} {n : SlotNo} :
    n ∈ (s.slotList.filter p).map (·.1) ↔ p (n, s.slot n) = true := by
  simp [slotList_eq, List.filter_map]

/-- The slots `l`, changed. -/
def State.withSlots (s : State) (l : List SlotNo) (f : SlotRec → SlotRec) : State :=
  { s with slots := Vector.ofFn fun k : SlotNo => if k ∈ l then f (s.slot k) else s.slot k }

theorem withSlots_nil (s : State) (f : SlotRec → SlotRec) : s.withSlots [] f = s := by
  have same : (Vector.ofFn fun k : SlotNo => s.slot k) = s.slots := by ext k hk; simp [State.slot]
  simp [State.withSlots, same]

/-- A change that is idempotent may be made at a slot once more. -/
theorem withSlots_withSlot (s : State) (l : List SlotNo) (n : SlotNo) (f : SlotRec → SlotRec) (hf : ∀ r, f (f r) = f r) :
    (s.withSlot n f).withSlots l f = s.withSlots (n :: l) f := by
  simp only [State.withSlots, State.withSlot, State.slot, State.mk.injEq, true_and, and_true]
  ext k hk
  by_cases here : n.val = k
  · subst here
    by_cases again : n ∈ l <;> simp [again, hf]
  · have there : n ≠ ⟨k, hk⟩ := fun e => here (congrArg Fin.val e)
    simp [Vector.getElem_set, here, there.symm]

theorem foldl_modSlotLamp_form (l : List SlotNo) (f : SlotRec → SlotRec) (hf : ∀ r, (f r).bare = f r.bare) (twice : ∀ r, f (f r) = f r)
    (s : State) : (l.foldl (fun s n => s.modSlotLamp n f) s).tables = s.tables.withSlots l f := by
  induction l generalizing s with
  | nil => exact (withSlots_nil _ f).symm
  | cons n l ih => rw [List.foldl_cons, ih, modSlotLamp_form s n f hf, withSlots_withSlot _ _ _ _ twice]

theorem foldl_modSlot_form (l : List SlotNo) (f : SlotRec → SlotRec) (hf : ∀ r, (f r).bare = f r.bare) (twice : ∀ r, f (f r) = f r)
    (s : State) : (l.foldl (fun s n => s.modSlot n f) s).tables = s.tables.withSlots l f := by
  induction l generalizing s with
  | nil => exact (withSlots_nil _ f).symm
  | cons n l ih => rw [List.foldl_cons, ih, modSlot_form s n f hf, withSlots_withSlot _ _ _ _ twice]

/-! ### Bookings (R60, R70 to R72) -/

@[simp] theorem lastReleaseCleared_form (s : State) (n : Nat) : (s.lastReleaseCleared n).tables = s.tables.lastReleaseCleared n := by
  have each (r : SlotRec) :
      (if r.lastRelease = some n then { r with lastRelease := none } else r).bare =
        if r.bare.lastRelease = some n then { r.bare with lastRelease := none } else r.bare := by
    by_cases same : r.lastRelease = some n <;> simp [same, SlotRec.bare]
  simp only [State.lastReleaseCleared, State.tables, Vector.map_map, Function.comp_def, each]

@[simp] theorem clearLastRelease_form (s : State) (n : Nat) : (s.clearLastRelease n).tables = s.tables.lastReleaseCleared n := by
  have fold := foldl_modSlot_form ((s.slotList.filter fun p => p.2.lastRelease == some n).map (·.1))
    (fun r => { r with lastRelease := none }) (fun _ => rfl) (fun _ => rfl) s
  rw [List.foldl_map] at fold
  refine fold.trans ?_
  simp only [State.withSlots, State.lastReleaseCleared, State.mk.injEq, true_and, and_true]
  ext k hk
  simp only [Vector.getElem_ofFn, Vector.getElem_map, mem_slotList_filter, beq_iff_eq, tables_slot]
  simp only [State.tables, Vector.getElem_map, State.slot, Fin.getElem_fin]
  rfl

@[simp] theorem leftLoaded_form (s : State) (n : Nat) : (s.leftLoaded n).tables = s.tables.lastReleaseCleared n :=
  (withdrawAlert_tables _ _ _).trans (clearLastRelease_form s n)

@[simp] theorem toLoaded_form (s : State) (n : Nat) :
    (s.toLoaded n).tables = s.tables.withBooking n fun b => { b with state := .loaded } := mapBooking_form _ _ _ fun _ => rfl

@[simp] theorem toReleasing_form (s : State) (n : Nat) (src : Source) :
    (s.toReleasing n src).tables =
      (s.tables.withBooking n fun b => { b with state := .releasing, source := some src }).lastReleaseCleared n :=
  (leftLoaded_form _ _).trans (congrArg (·.lastReleaseCleared n) (mapBooking_form _ _ _ (by intro _; rfl)))

@[simp] theorem toCancelled_form (s : State) (n : Nat) :
    (s.toCancelled n).tables = (s.tables.withBooking n fun b => { b with state := .cancelled }).lastReleaseCleared n :=
  (leftLoaded_form _ _).trans (congrArg (·.lastReleaseCleared n) (mapBooking_form _ _ _ (by intro _; rfl)))

@[simp] theorem toReturned_form (s : State) (n : Nat) (place : Place) :
    (s.toReturned n place).tables =
      s.tables.withBooking n fun b =>
        { b with
          state := .returned, returned := some { time := s.time, place }
          lateness := s.time.map fun t => min ((t - b.due + 59) / 60) 65535 } := mapBooking_form _ _ _ fun _ => rfl

@[simp] theorem setStage_form (s : State) (n : Nat) (st : Stage) :
    (s.setStage n st).tables = s.tables.withBooking n fun b => { b with stage := some st } := mapBooking_form _ _ _ fun _ => rfl

@[simp] theorem raiseStage_tables (s : State) (n : Nat) (st : Stage) : (s.raiseStage n st).tables = s.tables := by
  unfold State.raiseStage
  split
  · exact raiseAlert_tables _ _ _
  · rfl

/-! ### The Due List (R122) -/

/-- The Due List once a booking has been placed anew, or left out. -/
def dueAfter (n : Nat) (deadline : Option Nat) (l : List DueEntry) : List DueEntry :=
  match deadline with
  | some d => insertBy DueEntry.before { deadline := d, booking := n } (l.filter fun e => e.booking != n)
  | none => l.filter fun e => e.booking != n

theorem duePlace_eq (s : State) (n : Nat) (deadline : Option Nat) :
    s.duePlace n deadline = s.setDueList (dueAfter n deadline s.dueList) := by
  cases deadline <;> rfl

@[simp] theorem duePlace_form (s : State) (n : Nat) (deadline : Option Nat) :
    (s.duePlace n deadline).tables = s.tables.setDueList (dueAfter n deadline s.dueList) := by
  rw [duePlace_eq]; rfl

@[simp] theorem dueRemove_form (s : State) (n : Nat) :
    (s.dueRemove n).tables = s.tables.setDueList (s.dueList.filter fun e => e.booking != n) := rfl

theorem dueList_congr {s t : State} (h : s.tables = t.tables) : s.dueList = t.dueList :=
  show s.tables.dueList = t.tables.dueList from congrArg State.dueList h

@[simp] theorem toStage_form (s : State) (b : Booking) (st : Stage) :
    (s.toStage b st).tables =
      (s.tables.withBooking b.number fun x => { x with stage := some st }).setDueList
        (dueAfter b.number (b.nextDeadline st) s.dueList) := by
  have staged := raiseStage_tables (s.setStage b.number st) b.number st
  have due : ((s.setStage b.number st).raiseStage b.number st).dueList = s.dueList := dueList_congr (t := s.setStage b.number st) staged
  rw [State.toStage, duePlace_form, staged, due, setStage_form]

/-! ### Missing keys and the Service Removal List (R5, R173) -/

/-- The missing flag of a tag without an entry is no one's. -/
theorem withMissing_of_no_entry {s : State} {tag : Nat} (h : s.entry? tag = none) (b : Bool) : s.withMissing tag b = s := by
  have keep : (s.directory.map fun e => if e.tag = tag then { e with missing := b } else e) = s.directory := by
    refine (List.map_congr_left fun e mem => if_neg fun same => ?_).trans (List.map_id' _)
    exact List.find?_eq_none.mp h e mem (beq_iff_eq.mpr same)
  simp [State.withMissing, keep]

theorem entry?_eq_none_tables (s : State) (k : Nat) : s.tables.entry? k = none ↔ s.entry? k = none :=
  entry?_eq_none_congr (tables_idem s) k

@[simp] theorem setMissing_form (s : State) (tag : Nat) : (s.setMissing tag).tables = s.tables.withMissing tag true := by
  unfold State.setMissing
  split
  · exact (raiseAlert_tables _ _ _).trans (withMissing_form s tag true)
  · next keyless =>
    rw [Option.not_isSome_iff_eq_none] at keyless
    rw [withMissing_of_no_entry ((entry?_eq_none_tables s tag).mpr keyless)]

@[simp] theorem clearMissing_form (s : State) (tag : Nat) : (s.clearMissing tag).tables = s.tables.withMissing tag false := by
  unfold State.clearMissing
  split
  · exact (withdrawAlert_tables _ _ _).trans (withMissing_form s tag false)
  · next keyless =>
    rw [Option.not_isSome_iff_eq_none] at keyless
    rw [withMissing_of_no_entry ((entry?_eq_none_tables s tag).mpr keyless)]

/-- The Service Removal List once a tagged key has come back: struck during a session only. -/
def State.struck (s : State) (tag : Nat) : State :=
  { s with
    session := { s.session with
      removals :=
        if s.session.remaining.isSome then s.session.removals.filter fun r => r.tag != some tag else s.session.removals } }

theorem strikeRemoval_eq (s : State) (tag : Nat) : s.strikeRemoval tag = s.struck tag := by
  unfold State.strikeRemoval State.struck State.inSession
  split <;> rfl

@[simp] theorem strikeRemoval_form (s : State) (tag : Nat) : (s.strikeRemoval tag).tables = s.tables.struck tag := by
  rw [strikeRemoval_eq]; rfl

/-! ### Slots out of service (R44) -/

theorem withUnit_id (s : State) (u : UnitIx) : (s.withUnit u fun r => r) = s :=
  congrArg s.setUnits (vector_set_self s.units u)

/-- A slot's fault set with a kind joined, if there is one. -/
def joinFault (k : Option FaultKind) (f : FaultSet) : FaultSet :=
  match k with
  | some k => f.add k
  | none => f

@[simp] theorem outOfService_form (s : State) (n : SlotNo) (f : FaultSet → FaultSet) :
    (s.outOfService n f).tables = s.tables.outOfService n f := by
  simp [State.outOfService]

@[simp] theorem quarantine_form (s : State) (n : SlotNo) (k : Option FaultKind) :
    (s.quarantine n k).tables = s.tables.outOfService n (joinFault k) := by
  have slots := modSlotLamp_form s n (fun r => { r with service := .quarantined, faults := joinFault k r.faults }) fun _ => rfl
  have raised (t : State) (u : UnitIx) :
      (t.putUnit u { t.unit u with quarantined := (t.unit u).quarantined + 1 }).tables =
        t.tables.withUnit u fun x => { x with quarantined := x.quarantined + 1 } :=
    withUnit_form t u (fun x => { x with quarantined := x.quarantined + 1 }) fun _ => rfl
  unfold State.outOfService
  rw [← slots]
  by_cases was : (s.slot n).service = .quarantined
  · cases k <;> simp [State.quarantine, was, withUnit_id, joinFault]
  · cases k <;> simp only [State.quarantine, was, joinFault, if_false, raised, tables_slot, SlotRec.bare_service]

/-! ### Channels and the Release Queue (R79, R80, R91) -/

/-- A channel is FREE and its slot has none; a QUARANTINE_PENDING slot goes out of service with it (R91, R49). -/
def State.freed (s : State) (c : ChanNo) (n : SlotNo) : State :=
  let u := (s.withChan c .free).withSlot n fun r => { r with channel := none }
  if (s.slot n).service = .quarantinePending then u.outOfService n id else u

@[simp] theorem freed_form (s : State) (c : ChanNo) (n : SlotNo) : (s.freed c n).tables = s.tables.freed c n := by
  unfold State.freed
  by_cases pending : (s.slot n).service = .quarantinePending <;> simp [pending]

theorem freeChannel_form {s : State} {c : ChanNo} {n : SlotNo} (h : (s.chan c).slot? = some n) :
    (s.freeChannel c).tables = s.tables.freed c n := by
  unfold State.freeChannel State.freed
  by_cases pending : (s.slot n).service = .quarantinePending
  · simp [h, pending]; rfl
  · simp [h, pending]

/-- An entry leaves the queue, and its slot is queued no more (R79). -/
def State.dequeued (s : State) (e : QueueEntry) : State :=
  { s with release := { s.release with queue := s.release.queue.erase e } }.withSlot e.slot fun r => { r with queued := false }

@[simp] theorem dequeue_form (s : State) (e : QueueEntry) : (s.dequeue e).tables = s.tables.dequeued e :=
  modSlot_form _ _ _ fun _ => rfl

@[simp] theorem abortEntry_form (s : State) (e : QueueEntry) (cause : AbortCause) :
    (s.abortEntry e cause).tables = (s.tables.dequeued e).withBooking e.booking fun b => { b with state := .loaded } := by
  unfold State.abortEntry
  rw [noticeFor_tables, queueReport_tables, toLoaded_form, dequeue_form]

end Sys2Proof.Machine
end

section
/-! SUPPORT. The queries (R21, R22, R74, R75, R130, R143, R144, R156, R158): each is answered from the state that step 1 of
R148 leaves, most of which stands as it stood before. -/

namespace Sys2Proof.Machine

/-! ### What step 1 of R148 leaves as it was -/

/-- Step 1 as seen by the blocks that it does not touch. -/
theorem frameBegin_blocks (s : State) :
    s.frameBegin.mode = s.mode ∧ s.frameBegin.session = s.session ∧ s.frameBegin.dueList = s.dueList
      ∧ s.frameBegin.release = s.release ∧ s.frameBegin.chute = s.chute := by
  have heard : s.frameBegin.tables = { s with conds := s.heard.conds }.tables := by rw [frameBegin_tables, ← heard_eq]
  obtain ⟨-, -, -, mode, session, -, -, -, due, release, chute, -, -⟩ := tables_kept heard
  exact ⟨mode, session, due, release, chute⟩

theorem heard_active {s : State} {c : Condition} (h : c ≠ .linkLost) : (s.heard.cond c).active = (s.cond c).active := by
  have apart : c.ix ≠ Condition.linkLost.ix := by
    cases c with
    | linkLost => exact absurd rfl h
    | _ => decide
  unfold State.heard
  split
  · simp [State.putCond, State.setConds, State.cond, Fin.val_ne_of_ne apart.symm]
  · rfl

theorem usedChannels_eq_countP (s : State) : s.usedChannels = allChannels.countP fun c => s.chan c != .free :=
  List.countP_eq_length_filter.symm

/-- The summary of STATUS_QUERY, with the blocks that step 1 does not touch read off the state before it (R158). -/
theorem summary_frameBegin (s : State) :
    let u := s.frameBegin
    u.summary =
      { cause := s.mode.cause, rate := s.mode.rate, kioskOn := s.kiosk.enabled, strapFault := s.mode.strapFault
        hold := s.mode.level == .lost, level := s.mode.level, panelOpen := s.mode.panelOpen
        session := s.session.remaining.map fun r => (r, s.session.removals.length)
        time := s.time, dueCount := s.dueList.length, nextDue := s.dueList.head?.map (·.deadline)
        outStages := [Stage.onTime, .due, .overdue, .escalated].map fun st =>
          s.bookings.countP fun b => b.state == .out && b.stage == some st
        dirCount := s.directory.length
        bookings := [BookingState.loaded, .releasing, .out, .returned, .cancelled].map fun st =>
          s.bookings.countP fun b => b.state == st
        budget := s.release.budget, used := allChannels.countP fun c => s.chan c != .free
        queueLen := s.release.queue.length, channels := s.release.channels.toList
        online := allUnits.countP fun x => (s.unit x).state == .online
        inBin := s.bin.entries.countP fun e => e.state == .inBin
        binCount := s.bin.entries.length, nextDrop := s.bin.nextDrop, wanted := s.chute.wanted
        nearFull := (s.cond .chuteNearFull).active, chuteLocked := (s.cond .chuteLocked).active
        listLen := u.alerts.list.length, waitLen := u.waiters.length, mask := s.alerts.mask, lines := u.alerts.lines
        link := .connected, supervision := s.link.supervision, reports := u.link.reports.length
        answers := s.link.answers.length, linkCounts := u.link.counts
        answerHeld := s.kiosk.answer.isSome, notices := s.kiosk.notices.length, kioskCounts := s.kiosk.counts
        params := s.params } := by
  dsimp only
  have same := frameBegin_tables s
  have heard := heard_eq s
  obtain ⟨mode, session, due, release, chute⟩ := frameBegin_blocks s
  obtain ⟨-, -, -, -, params, policy, time, mask⟩ := frameBegin_kept s
  obtain ⟨-, answers, -, connected⟩ := frameBegin_link s
  have supervision : s.frameBegin.link.supervision = s.link.supervision := (frameBegin_calm s).supervision
  have kiosk : s.frameBegin.kiosk = s.kiosk := (frameBegin_portsQuiet s).kiosk
  have booked (p : Booking → Bool) (hp : ∀ b, p b.bare = p b) :
      (s.frameBegin.bookings.filter p).length = s.bookings.countP p := by
    rw [← List.countP_eq_length_filter, countP_eq_of_map_eq Booking.bare p (bookings_bare same) hp, heard]
  have stages : s.frameBegin.countStage = fun st => s.bookings.countP fun b => b.state == .out && b.stage == some st :=
    funext fun st => booked _ fun _ => rfl
  have states : s.frameBegin.countBookings = fun st => s.bookings.countP fun b => b.state == st :=
    funext fun st => booked _ fun _ => rfl
  have directory : s.frameBegin.directory.length = s.directory.length := by rw [directory_length_congr same, heard]
  have online : s.frameBegin.online = fun x => (s.unit x).state == .online := by
    funext x; rw [online_congr same, heard]; rfl
  have inBin : s.frameBegin.inBinCount = s.inBinCount := by rw [inBinCount_congr same, heard]; rfl
  have entries : s.frameBegin.bin.entries.length = s.bin.entries.length := by rw [entries_length_congr same, heard]
  have nextDrop : s.frameBegin.bin.nextDrop = s.bin.nextDrop := by rw [nextDrop_congr same, heard]
  have nearFull : (s.frameBegin.cond .chuteNearFull).active = (s.cond .chuteNearFull).active := by
    rw [cond_active same, heard_active (by decide)]
  have locked : (s.frameBegin.cond .chuteLocked).active = (s.cond .chuteLocked).active := by
    rw [cond_active same, heard_active (by decide)]
  simp only [State.summary, State.hold, usedChannels_eq_countP, State.chan, mode, session, due, release, chute, params, time, mask,
    answers, connected, supervision, kiosk, directory, inBin, entries, nextDrop, nearFull, locked, stages, states, online,
    ← List.countP_eq_length_filter, inBinCount_eq_countP]

/-! ### KEY_QUERY (R21) -/

/-- "The answer is OK if the tag has a Directory entry, or a place other than NONE, or a custody booking." -/
theorem KeyAnswer.known_eq_false_iff (a : KeyAnswer) :
    a.known = false ↔ a.entry = none ∧ a.place = .nowhere ∧ a.custody = none := by
  simp [KeyAnswer.known, and_assoc]

theorem keyQuery_eq (s : State) (k : Nat) :
    s.keyQuery k =
      if k = 0 then .of .badField
      else if (s.keyAnswer k).entry = none ∧ (s.keyAnswer k).place = .nowhere ∧ (s.keyAnswer k).custody = none then .of .notFound
      else .ok (.key (s.keyAnswer k)) := by
  unfold State.keyQuery
  simp only [← KeyAnswer.known_eq_false_iff]
  cases (s.keyAnswer k).known <;> rfl

/-- The place of a key by its slot, and by its drop where it has none. -/
theorem keyPlace_eq (s : State) (k : Nat) :
    s.keyPlace k =
      match s.slotOfKey k, s.dropOfKey k with
      | some n, _ => if (s.slot n).occ = .held then .inSlot n (s.misplaced n) else .lastSeen n
      | none, some e => if e.state = .inBin then .inBin e.number else .inHand e.number e.age e.handed e.unslotted
      | none, none => .nowhere := by
  unfold State.keyPlace
  cases s.slotOfKey k with
  | some n => rfl
  | none =>
    cases s.dropOfKey k with
    | none => rfl
    | some e => cases hs : e.state <;> simp [hs]

/-! ### SLOT_QUERY (R22) -/

/-- The slots asked for, counted from the first. -/
theorem allSlots_segment {first count : Nat} (h : first + count ≤ 384) :
    (allSlots.drop first).take count = (List.range count).map fun i => Fin.ofNat 384 (first + i) := by
  rw [allSlots_eq_finRange]
  refine List.ext_getElem (by simp; omega) fun i h1 h2 => ?_
  have lt : first + i < 384 := by simp at h2; omega
  simp [Fin.ext_iff, Nat.mod_eq_of_lt lt]

theorem slotsAsked_eq_none {first count : Nat} (h : count = 0 ∨ 16 < count ∨ 384 < first + count) :
    slotsAsked first count = none := if_pos (by omega)

theorem slotsAsked_eq_some {first count : Nat} (least : 1 ≤ count) (most : count ≤ 16) (last : first + count ≤ 384) :
    slotsAsked first count = some ((List.range count).map fun i => Fin.ofNat 384 (first + i)) := by
  rw [slotsAsked, if_neg (by omega), allSlots_segment last]

theorem cutEntries_prefix (room : Nat) (es : List SlotEntry) : cutEntries room es <+: es := by
  induction es generalizing room with
  | nil => exact List.nil_prefix
  | cons e es ih =>
    unfold cutEntries
    split
    · exact (List.prefix_cons_inj e).mpr (ih _)
    · exact List.nil_prefix

theorem cutEntries_fits (room : Nat) (es : List SlotEntry) : ((cutEntries room es).map (·.bytes.length)).sum ≤ room := by
  induction es generalizing room with
  | nil => exact Nat.zero_le _
  | cons e es ih =>
    unfold cutEntries
    split
    · have := ih (room - e.bytes.length)
      simp only [List.map_cons, List.sum_cons]
      omega
    · exact Nat.zero_le _

/-- Where the answer is cut, the next whole entry does not fit. -/
theorem cutEntries_full (room : Nat) (es : List SlotEntry) (h : (cutEntries room es).length < es.length) :
    room < ((cutEntries room es).map (·.bytes.length)).sum + (es[(cutEntries room es).length]).bytes.length := by
  induction es generalizing room with
  | nil => exact absurd h (Nat.not_lt_zero _)
  | cons e es ih =>
    by_cases fits : e.bytes.length ≤ room
    · have cut : cutEntries room (e :: es) = e :: cutEntries (room - e.bytes.length) es := if_pos fits
      simp only [cut, List.length_cons, Nat.add_lt_add_iff_right] at h
      have := ih (room - e.bytes.length) h
      simp only [cut, List.map_cons, List.sum_cons, List.length_cons, List.getElem_cons_succ]
      omega
    · have cut : cutEntries room (e :: es) = [] := if_neg fits
      simp only [cut, List.map_nil, List.sum_nil, List.length_nil, List.getElem_cons_zero]
      omega

/-- The entries given are as many of those asked for as fit, from the first. -/
theorem cutEntries_range (room count : Nat) (entry : Nat → SlotEntry) :
    let es := cutEntries room ((List.range count).map entry)
    es = (List.range es.length).map entry ∧ es.length ≤ count := by
  dsimp only
  have first := cutEntries_prefix room ((List.range count).map entry)
  have le : (cutEntries room ((List.range count).map entry)).length ≤ count := by simpa using first.length_le
  refine ⟨?_, le⟩
  conv_lhs => rw [List.prefix_iff_eq_take.mp first, ← List.map_take, List.take_range, Nat.min_eq_left le]

/-- The entries SLOT_QUERY gives, of those asked for: behind the result code and the more flag, 244 bytes are left. -/
def State.slotEntries (s : State) (first count : Nat) : List SlotEntry :=
  cutEntries 244 ((List.range count).map fun i => s.slotEntry (Fin.ofNat 384 (first + i)))

theorem slotQuery_eq (s : State) {first count : Nat} (least : 1 ≤ count) (most : count ≤ 16) (last : first + count ≤ 384) :
    s.slotQuery first count =
      .ok (.slots (s.slotEntries first count) (decide ((s.slotEntries first count).length < count))) := by
  rw [State.slotQuery, slotsAsked_eq_some least most last]
  simp only [List.map_map, List.length_map, List.length_range]
  rfl

/-! ### The queries are answered -/

theorem asked_restart {s : State} (tag : Byte) (hears : s.hears) : Asked s (.restart tag []) (plain 0x94 tag .ok) :=
  asked_of_takeRequest (kind := 0x14) (body := readNone []) (owner := fun _ s => s.accept) (r := .of .ok) hears rfl rfl rfl

theorem asked_heartbeat {s : State} (tag : Byte) (hears : s.hears) :
    Asked s (.heartbeat tag [])
      { kind := 0x9A, tag, result := .ok
        fields := .heartbeat s.link.state s.frameBegin.time s.frameBegin.link.reports.length s.frameBegin.link.counts.dropped } :=
  asked_of_takeRequest (kind := 0x1A) (body := readNone []) (owner := asked fun t _ => t.heartbeat s.link.state)
    (r := s.frameBegin.heartbeat s.link.state) hears rfl rfl rfl

/-- A part byte is read as it is. -/
theorem readOne_byte (b : Byte) : readOne 1 [b] = some b.toNat := by
  simp [readOne, readNat, whole, beNat]

theorem asked_statusQuery {s : State} (tag part : Byte) (hears : s.hears) :
    let r := s.frameBegin.statusQuery part.toNat
    Asked s (.statusQuery tag [part]) { kind := 0x95, tag, result := r.result, fields := r.fields }
      ∧ Asked s (.statusQueryUnits tag [part]) { kind := 0x95, tag, result := r.result, fields := r.fields } :=
  ⟨asked_of_takeRequest (kind := 0x15) (body := readOne 1 [part]) (owner := asked State.statusQuery) hears rfl (readOne_byte part) rfl,
    asked_of_takeRequest (kind := 0x15) (body := readOne 1 [part]) (owner := asked State.statusQuery) hears rfl (readOne_byte part) rfl⟩

theorem asked_keyQuery {s : State} {tag : Byte} {body : List Byte} {k : Nat} (hears : s.hears) (read : readOne 4 body = some k) :
    let r := s.frameBegin.keyQuery k
    Asked s (.keyQuery tag body) { kind := 0x98, tag, result := r.result, fields := r.fields } :=
  asked_of_takeRequest (kind := 0x18) (body := readOne 4 body) (owner := asked State.keyQuery) hears rfl read rfl

theorem asked_slotQuery {s : State} {tag : Byte} {body : List Byte} {p : PairReq} (hears : s.hears)
    (read : readPair 2 1 body = some p) :
    let r := s.frameBegin.slotQuery p.first p.second
    Asked s (.slotQuery tag body) { kind := 0x96, tag, result := r.result, fields := r.fields } :=
  asked_of_takeRequest (kind := 0x16) (body := readPair 2 1 body) (owner := asked fun s r => s.slotQuery r.first r.second) hears rfl
    read rfl

/-- A part number above 1 is refused (R158). -/
theorem statusQuery_badField (s : State) {part : Nat} (h : 1 < part) : s.statusQuery part = .of .badField := by
  match part with
  | 0 | 1 => omega
  | n + 2 => rfl

/-- Settles O28: each owner only gathers (`asked_of_takeRequest`); what STATUS_QUERY gathers is `summary_frameBegin`, and the cut of
SLOT_QUERY is `cutEntries`. -/
theorem statusKeyAndSlotQueriesOnlyAnswer : Obligations.StatusKeyAndSlotQueriesOnlyAnswer := by
  intro s tag body hears
  refine ⟨asked_restart tag hears, asked_heartbeat tag hears, ?_, (asked_statusQuery tag 1 hears).2, fun part zero one => ?_,
    fun k read => ?_, fun r read => ⟨fun bad => ?_, fun least most last => ?_⟩⟩
  · have answer := (asked_statusQuery tag 0 hears).1
    exact (congrArg (fun f => Asked s (.statusQuery tag [0]) { kind := 0x95, tag, result := .ok, fields := .status f })
      (summary_frameBegin s)).mp answer
  · have answer := (asked_statusQuery tag part hears).1
    rw [statusQuery_badField _ (by bv_omega)] at answer
    exact answer
  · intro a
    have whole : a = s.frameBegin.keyAnswer k :=
      congrArg (fun place => { entry := _, place, custody := _ : KeyAnswer }) (keyPlace_eq s.frameBegin k).symm
    clear_value a
    subst whole
    have answer := asked_keyQuery (tag := tag) hears read
    rw [keyQuery_eq] at answer
    by_cases zero : k = 0
    · rw [if_pos zero] at answer ⊢
      exact answer
    · rw [if_neg zero] at answer ⊢
      split
      · next unknown => rw [if_pos unknown] at answer; exact answer
      · next known => rw [if_neg known] at answer; exact answer
  · have answer := asked_slotQuery (tag := tag) hears read
    rw [State.slotQuery, slotsAsked_eq_none bad] at answer
    exact answer
  · have answer := asked_slotQuery (tag := tag) hears read
    rw [slotQuery_eq _ least most last] at answer
    obtain ⟨range, le⟩ := cutEntries_range 244 r.second fun i => s.frameBegin.slotEntry (Fin.ofNat 384 (r.first + i))
    refine ⟨_, _, answer, range, le, ?_, cutEntries_fits _ _, fun more => ?_⟩
    · rw [decide_eq_false_iff_not]
      exact ⟨fun h => Nat.le_antisymm le (Nat.le_of_not_lt h), fun h => by rw [h]; exact Nat.lt_irrefl _⟩
    · have short : (s.frameBegin.slotEntries r.first r.second).length < r.second := of_decide_eq_true more
      have next := cutEntries_full 244 ((List.range r.second).map fun i => s.frameBegin.slotEntry (Fin.ofNat 384 (r.first + i)))
        (by rw [List.length_map, List.length_range]; exact short)
      rw [List.getElem_map, List.getElem_range] at next
      exact next

/-! ### BOOKING_QUERY and ALERT_QUERY -/

theorem booking?_number {s : State} {n : Nat} {b : Booking} (h : s.booking? n = some b) : b.number = n := by
  have := List.find?_some h
  simpa using this

/-- The release position of R74, by the booking's place in the queue, and by its channel where it has none. -/
theorem releasePos_eq (s : State) (b : Booking) :
    s.releasePos b =
      if b.state ≠ .releasing then none
      else
        match s.release.queue.findIdx? (fun e => e.booking == b.number), s.chanOfBooking b.number with
        | some place, _ => some (.queued (place + 1))
        | none, some c =>
          match s.chan c with
          | .opened _ _ d => some (.opened c (s.secondsTo d))
          | _ => some (.opening c)
        | none, none => none := by
  unfold State.releasePos State.queuePlace
  by_cases releasing : b.state = .releasing
  · rw [if_pos releasing, if_neg (not_not.mpr releasing)]
    cases s.release.queue.findIdx? fun e => e.booking == b.number with
    | some place => rfl
    | none => cases s.chanOfBooking b.number <;> rfl
  · rw [if_neg releasing, if_pos releasing]

/-- The remaining time of R130, by the stage. -/
theorem remaining_eq (s : State) (b : Booking) :
    s.remaining b =
      if b.state ≠ .out then none
      else
        match b.stage with
        | some .onTime => some (s.secondsTo b.due)
        | some .due => some (s.secondsTo b.overdueAt)
        | some .overdue => b.escalationAt.map s.secondsTo
        | _ => none := by
  unfold State.remaining
  by_cases out : b.state = .out
  · rw [if_pos out, if_neg (not_not.mpr out)]
    cases b.stage with
    | none => rfl
    | some st => cases st <;> rfl
  · rw [if_neg out, if_pos out]

theorem asked_bookingQuery {s : State} {tag : Byte} {body : List Byte} {n : Nat} (hears : s.hears)
    (read : readBookingQuery body = some (.single n)) :
    let r := s.frameBegin.bookingQuery n
    Asked s (.bookingQuery tag body) { kind := 0x97, tag, result := r.result, fields := r.fields } :=
  asked_of_takeRequest (kind := 0x17) (body := readBookingQuery body)
    (owner := asked fun s r => match r with
      | .single n => s.bookingQuery n
      | .list n => s.bookingList n) hears rfl read rfl

theorem asked_bookingList {s : State} {tag : Byte} {body : List Byte} {n : Nat} (hears : s.hears)
    (read : readBookingQuery body = some (.list n)) :
    let r := s.frameBegin.bookingList n
    Asked s (.bookingQueryList tag body) { kind := 0x97, tag, result := r.result, fields := r.fields } :=
  asked_of_takeRequest (kind := 0x17) (body := readBookingQuery body)
    (owner := asked fun s r => match r with
      | .single n => s.bookingQuery n
      | .list n => s.bookingList n) hears rfl read rfl

theorem asked_alertList {s : State} {tag : Byte} {body : List Byte} (hears : s.hears) (read : readAlertQuery body = some .list) :
    Asked s (.alertQuery tag body) { kind := 0x99, tag, result := .ok, fields := .alerts s.frameBegin.alertListAnswer } :=
  asked_of_takeRequest (kind := 0x19) (body := readAlertQuery body)
    (owner := asked fun s r => match r with
      | .list => .ok (.alerts s.alertListAnswer)
      | .subject k i => s.subjectQuery k i) (r := .ok (.alerts s.frameBegin.alertListAnswer)) hears rfl read rfl

theorem asked_subjectQuery {s : State} {tag : Byte} {body : List Byte} {k i : Nat} (hears : s.hears)
    (read : readAlertQuery body = some (.subject k i)) :
    let r := s.frameBegin.subjectQuery k i
    Asked s (.alertQuerySubject tag body) { kind := 0x99, tag, result := r.result, fields := r.fields } :=
  asked_of_takeRequest (kind := 0x19) (body := readAlertQuery body)
    (owner := asked fun s r => match r with
      | .list => .ok (.alerts s.alertListAnswer)
      | .subject k i => s.subjectQuery k i) hears rfl read rfl

/-- Settles O29: each owner only gathers (`asked_of_takeRequest`); the position and the remaining time of a booking are
`releasePos_eq` and `remaining_eq`. -/
theorem bookingAndAlertQueriesOnlyAnswer : Obligations.BookingAndAlertQueriesOnlyAnswer := by
  intro s tag body n k hears
  dsimp only
  refine ⟨fun read => ?_, fun read => asked_bookingList hears read, fun read => asked_alertList hears read, fun read => ?_⟩
  · have answer := asked_bookingQuery (tag := tag) hears read
    cases found : s.frameBegin.booking? n with
    | none =>
      rw [State.bookingQuery, found] at answer
      exact answer
    | some b =>
      have number := booking?_number found
      subst number
      rw [State.bookingQuery, found] at answer
      dsimp only at answer ⊢
      rw [releasePos_eq, remaining_eq] at answer
      exact answer
  · have answer := asked_subjectQuery (tag := tag) hears read
    refine ⟨fun unknown => ?_, fun x known => ⟨fun bare => ?_, fun f fields => ?_⟩⟩
    · rw [State.subjectQuery, unknown] at answer
      exact answer
    · rw [State.subjectQuery, known] at answer
      dsimp only at answer
      rw [bare] at answer
      exact answer
    · rw [State.subjectQuery, known] at answer
      dsimp only at answer
      rw [fields] at answer
      exact answer

end Sys2Proof.Machine
end

section
/-! SUPPORT. Layouts of bytes read back (R145, R177 to R179, R181): one lemma for each kind of field, then one for each body, and
the two envelopes. -/

namespace Sys2Proof.Machine

/-! ### Fields that may be left out (R178) -/

@[simp] theorem whole_end {α : Type} (a : α) : whole (some (a, [])) = some a := rfl

theorem packFlags_lt (flags : List Bool) : packFlags flags < 2 ^ flags.length := by
  induction flags with
  | nil => exact Nat.one_pos
  | cons b bs ih =>
    have := b.toNat_lt
    rw [packFlags, List.length_cons, pow_succ]
    omega

/-- The flags stand in the bits of their number, the first in bit 0. -/
theorem testBit_packFlags (flags : List Bool) (i : Nat) (h : i < flags.length) : (packFlags flags).testBit i = flags[i] := by
  induction flags generalizing i with
  | nil => exact absurd h (Nat.not_lt_zero _)
  | cons b bs ih =>
    cases i with
    | zero => cases b <;> simp [packFlags, Nat.testBit_zero]
    | succ i =>
      have half : packFlags (b :: bs) / 2 = packFlags bs := by
        have := b.toNat_lt
        rw [packFlags]; omega
      rw [Nat.testBit_succ, half]
      exact ih i (Nat.lt_of_succ_lt_succ h)

theorem readOpt_optBytes {k : Nat} {o : Option Nat} (rest : List Byte) (h : ∀ n, o = some n → n < 256 ^ k) :
    readOpt o.isSome k (optBytes k o ++ rest) = some (o, rest) := by
  cases o with
  | none => rfl
  | some n => simp [readOpt, optBytes, readNat_beBytes k n rest (h n rfl)]

theorem readWindow_windowBytes {w : Option (Nat × Nat)} (rest : List Byte)
    (h : ∀ a b, w = some (a, b) → a < 256 ^ 4 ∧ b < 256 ^ 4) :
    readWindow w.isSome (windowBytes w ++ rest) = some (w, rest) := by
  match w with
  | none => rfl
  | some (a, b) =>
    obtain ⟨ha, hb⟩ := h a b rfl
    simp [readWindow, windowBytes, readNat_beBytes 4 a _ ha, readNat_beBytes 4 b _ hb]

/-- A flagged code is a new value or "none" (R179). -/
theorem readAmendCode_bytes {c : Option (Option Nat)} (rest : List Byte) (h : ∀ n, c = some (some n) → n < 256 ^ 3) :
    readAmendCode c.isSome (amendCodeBytes c ++ rest) = some (c, rest) := by
  match c with
  | none => rfl
  | some v =>
    have bit : v.isSome.toNat < 2 := Bool.toNat_lt _
    have mark : v.isSome.toNat < 256 ^ 1 := by omega
    have small : ¬ 2 ≤ v.isSome.toNat := by omega
    have flag : (v.isSome.toNat == 1) = v.isSome := by cases v <;> rfl
    have value := readOpt_optBytes (k := 3) (o := v) rest fun n hn => h n (by rw [hn])
    simp [readAmendCode, amendCodeBytes, readNat_beBytes 1 _ _ mark, small, flag, value]

theorem readAmendWindow_bytes {w : Option (Option (Nat × Nat))} (rest : List Byte)
    (h : ∀ a b, w = some (some (a, b)) → a < 256 ^ 4 ∧ b < 256 ^ 4) :
    readAmendWindow w.isSome (amendWindowBytes w ++ rest) = some (w, rest) := by
  match w with
  | none => rfl
  | some v =>
    have bit : v.isSome.toNat < 2 := Bool.toNat_lt _
    have mark : v.isSome.toNat < 256 ^ 1 := by omega
    have small : ¬ 2 ≤ v.isSome.toNat := by omega
    have flag : (v.isSome.toNat == 1) = v.isSome := by cases v <;> rfl
    have value := readWindow_windowBytes (w := v) rest fun a b hn => h a b (by rw [hn])
    simp [readAmendWindow, amendWindowBytes, readNat_beBytes 1 _ _ mark, small, flag, value]

/-! ### Request bodies (R179) -/

theorem readOne_beBytes {k n : Nat} (h : n < 256 ^ k) : readOne k (beBytes k n) = some n := by
  rw [readOne, readNat_beBytes_end k n h, whole_end]

theorem readPair_bytes {j k : Nat} {r : PairReq} (first : r.first < 256 ^ j) (second : r.second < 256 ^ k) :
    readPair j k (r.bytes j k) = some r := by
  simp [readPair, PairReq.bytes, readNat_beBytes j _ _ first, readNat_beBytes_end k _ second]

theorem readPolicySet_bytes {r : PolicySetReq} (cls : r.cls < 256) (priority : r.priority < 256) (lines : r.lines < 256)
    (enabled : r.enabled < 256) : readPolicySet r.bytes = some r := by
  simp [readPolicySet, PolicySetReq.bytes, List.append_assoc, readNat_beBytes 1 _ _ cls, readNat_beBytes 1 _ _ priority,
    readNat_beBytes 1 _ _ lines, readNat_beBytes_end 1 _ enabled]

theorem readBookingQuery_bytes {n : Nat} (h : n < 256 ^ 4) :
    readBookingQuery (BookingQueryReq.single n).bytes = some (.single n)
      ∧ readBookingQuery (BookingQueryReq.list n).bytes = some (.list n) := by
  constructor
  · simp [readBookingQuery, BookingQueryReq.bytes, readNat_beBytes 1 0 _ (by decide), readOne_beBytes h]
  · simp [readBookingQuery, BookingQueryReq.bytes, readNat_beBytes 1 1 _ (by decide), readOne_beBytes h]

theorem readAlertQuery_bytes {k n : Nat} (kind : k < 256 ^ 1) (id : n < 256 ^ 4) :
    readAlertQuery (AlertQueryReq.subject k n).bytes = some (.subject k n) := by
  have pair := readPair_bytes (j := 1) (k := 4) (r := { first := k, second := n }) kind id
  simp only [PairReq.bytes] at pair
  simp [readAlertQuery, AlertQueryReq.bytes, List.append_assoc, readNat_beBytes 1 1 _ (by decide), pair]

theorem readKeyLoad_bytes {r : KeyLoadReq} (tag : r.tag < 256 ^ 4) (unit : r.unit < 256 ^ 2)
    (home : ∀ h, r.home = some h → h < 256 ^ 2) : readKeyLoad r.bytes = some r := by
  have flags := packFlags_lt [r.home.isSome]
  have bit : (packFlags [r.home.isSome]).testBit 0 = r.home.isSome := testBit_packFlags _ 0 (by simp)
  have small : ¬ 2 ≤ packFlags [r.home.isSome] := by simpa using flags
  have optional := readOpt_optBytes (k := 2) [] home
  rw [List.append_nil] at optional
  simp [-Nat.testBit_zero, readKeyLoad, KeyLoadReq.bytes, List.append_assoc, readNat_beBytes 4 _ _ tag, readNat_beBytes 2 _ _ unit,
    readNat_beBytes 1 _ _ (Nat.lt_trans flags (by decide : 2 ^ 1 < 256 ^ 1)), small, bit, optional]

theorem readBookingLoad_bytes {r : BookingLoadReq} (number : r.number < 256 ^ 4) (kind : r.kind < 256 ^ 1) (key : r.key < 256 ^ 4)
    (due : r.due < 256 ^ 4) (grace : r.grace < 256 ^ 1) (escalation : r.escalation < 256 ^ 2)
    (code : ∀ c, r.code = some c → c < 256 ^ 3) (window : ∀ a b, r.window = some (a, b) → a < 256 ^ 4 ∧ b < 256 ^ 4) :
    readBookingLoad r.bytes = some r := by
  have flags := packFlags_lt [r.window.isSome, r.code.isSome]
  have windowBit : (packFlags [r.window.isSome, r.code.isSome]).testBit 0 = r.window.isSome := testBit_packFlags _ 0 (by simp)
  have codeBit : (packFlags [r.window.isSome, r.code.isSome]).testBit 1 = r.code.isSome := testBit_packFlags _ 1 (by simp)
  have small : ¬ 4 ≤ packFlags [r.window.isSome, r.code.isSome] := by simpa using flags
  have last := readWindow_windowBytes [] window
  rw [List.append_nil] at last
  simp [-Nat.testBit_zero, readBookingLoad, BookingLoadReq.bytes, List.append_assoc, readNat_beBytes 4 _ _ number, readNat_beBytes 1 _ _ kind,
    readNat_beBytes 4 _ _ key, readNat_beBytes 1 _ _ (Nat.lt_trans flags (by decide : 2 ^ 2 < 256 ^ 1)),
    readNat_beBytes 4 _ _ due, readNat_beBytes 1 _ _ grace, readNat_beBytes 2 _ _ escalation, small, windowBit, codeBit,
    readOpt_optBytes _ code, last]

theorem readBookingAmend_bytes {r : BookingAmendReq} (number : r.number < 256 ^ 4) (due : ∀ d, r.due = some d → d < 256 ^ 4)
    (grace : ∀ g, r.grace = some g → g < 256 ^ 1) (escalation : ∀ e, r.escalation = some e → e < 256 ^ 2)
    (code : ∀ c, r.code = some (some c) → c < 256 ^ 3)
    (window : ∀ a b, r.window = some (some (a, b)) → a < 256 ^ 4 ∧ b < 256 ^ 4) : readBookingAmend r.bytes = some r := by
  let flags := [r.escalation.isSome, r.grace.isSome, r.due.isSome, r.window.isSome, r.code.isSome]
  have lt : packFlags flags < 2 ^ 5 := packFlags_lt flags
  have bit (i : Nat) (h : i < 5) : (packFlags flags).testBit i = flags[i] := testBit_packFlags flags i h
  have small : ¬ 32 ≤ packFlags flags := by omega
  have last := readAmendWindow_bytes [] window
  rw [List.append_nil] at last
  have bytes : r.bytes = beBytes 4 r.number ++ (beBytes 1 (packFlags flags) ++ (optBytes 4 r.due ++ (optBytes 1 r.grace
      ++ (optBytes 2 r.escalation ++ (amendCodeBytes r.code ++ amendWindowBytes r.window))))) := by
    simp only [BookingAmendReq.bytes, List.append_assoc]; rfl
  rw [bytes]
  simp only [readBookingAmend, readNat_beBytes 4 _ _ number, readNat_beBytes 1 _ _ (Nat.lt_trans lt (by decide : 2 ^ 5 < 256 ^ 1)),
    Option.bind_eq_bind, Option.bind_some, if_neg small, bit 0 (by decide), bit 1 (by decide), bit 2 (by decide), bit 3 (by decide),
    bit 4 (by decide)]
  simp [flags, readOpt_optBytes _ due, readOpt_optBytes _ grace, readOpt_optBytes _ escalation, readAmendCode_bytes _ code, last]

/-! ### Slot Bus payloads (R181) -/

/-- Records written one behind the other are read one behind the other. -/
theorem readMany_flatMap {α : Type} {rd : List Byte → Option (α × List Byte)} {wr : α → List Byte} {l : List α} (rest : List Byte)
    (h : ∀ a ∈ l, ∀ bs, rd (wr a ++ bs) = some (a, bs)) : readMany rd l.length (l.flatMap wr ++ rest) = some (l, rest) := by
  induction l with
  | nil => rfl
  | cons a l ih =>
    have head := h a (by simp) (l.flatMap wr ++ rest)
    have tail := ih fun b mem => h b (by simp [mem])
    simp [readMany, List.append_assoc, head, tail]

theorem readMany_flatMap_end {α : Type} {rd : List Byte → Option (α × List Byte)} {wr : α → List Byte} {l : List α}
    (h : ∀ a ∈ l, ∀ bs, rd (wr a ++ bs) = some (a, bs)) : readMany rd l.length (l.flatMap wr) = some (l, []) := by
  have := readMany_flatMap (rd := rd) [] h
  rwa [List.append_nil] at this

theorem readSlotStatus_bytes {x : SlotStatus} (rest : List Byte) (h : ∀ t, x.seen = .tagged t → 0 < t ∧ t < 256 ^ 4) :
    readSlotStatus (x.bytes ++ rest) = some (x, rest) := by
  obtain ⟨seen, latch⟩ := x
  have head {k : Nat} (hk : k + 1 < 256) : k + latch.toNat < 256 ^ 1 := by have := latch.toNat_lt; omega
  cases seen with
  | empty =>
    have byte : latch.toNat < 256 ^ 1 := by simpa using head (k := 0) (by decide)
    have bits : latch.toNat.testBit 7 = false ∧ latch.toNat.testBit 0 = latch := by cases latch <;> decide
    simp [-Nat.testBit_zero, readSlotStatus, SlotStatus.bytes, readNat_beBytes 1 _ _ byte, readNat_beBytes 4 0 _ (by decide), bits]
  | unread =>
    have bits : (128 + latch.toNat).testBit 7 = true ∧ (128 + latch.toNat).testBit 6 = false
        ∧ (128 + latch.toNat).testBit 0 = latch := by cases latch <;> decide
    simp [-Nat.testBit_zero, readSlotStatus, SlotStatus.bytes, readNat_beBytes 1 _ _ (head (k := 128) (by decide)),
      readNat_beBytes 4 0 _ (by decide), bits]
  | tagged t =>
    obtain ⟨pos, lt⟩ := h t rfl
    have bits : (192 + latch.toNat).testBit 7 = true ∧ (192 + latch.toNat).testBit 6 = true
        ∧ (192 + latch.toNat).testBit 0 = latch := by cases latch <;> decide
    simp [-Nat.testBit_zero, readSlotStatus, SlotStatus.bytes, readNat_beBytes 1 _ _ (head (k := 192) (by decide)),
      readNat_beBytes 4 t _ lt, bits, Nat.ne_of_gt pos]

theorem modUnit_ne_chute (m : ModIx) : modUnit m ≠ chuteIx := by
  have := m.isLt
  simp only [modUnit, chuteIx, ne_eq, Fin.ext_iff]
  simp; omega

theorem readStatus_slots {m : ModIx} {st : List SlotStatus} (len : st.length = 16)
    (h : ∀ x ∈ st, ∀ t, x.seen = .tagged t → 0 < t ∧ t < 256 ^ 4) :
    readStatus (modUnit m) (UnitStatus.slots st).bytes = some (.slots st) := by
  have all := readMany_flatMap_end (l := st) fun x mem bs => readSlotStatus_bytes bs (h x mem)
  rw [len] at all
  rw [readStatus, if_neg (modUnit_ne_chute m)]
  simp [UnitStatus.bytes, all]

theorem readProbe_slots {m : ModIx} {st : List SlotStatus} (len : st.length = 16)
    (h : ∀ x ∈ st, ∀ t, x.seen = .tagged t → 0 < t ∧ t < 256 ^ 4) :
    readProbe (modUnit m) (UnitStatus.slots st).probeBytes = some (.slots st) := by
  simp [readProbe, UnitStatus.probeBytes, readNat_beBytes 1 0 _ (by decide), modUnit_ne_chute, readStatus_slots len h]

theorem readModuleEntry_bytes {e : ModuleEntry} (rest : List Byte) (h : ∀ t, e.change = .inserted t → 0 < t ∧ t < 256 ^ 4) :
    readModuleEntry (e.bytes ++ rest) = some (e, rest) := by
  obtain ⟨pos, change, latch⟩ := e
  have bit := latch.toNat_lt
  have isLt := pos.isLt
  have head {k : Nat} (hk : k < 8) :
      let b := 16 * pos.val + 2 * k + latch.toNat
      b < 256 ^ 1 ∧ Fin.ofNat 16 (b / 16) = pos ∧ b / 2 % 8 = k ∧ b.testBit 0 = latch := by
    refine ⟨by omega, ?_, by omega, ?_⟩
    · refine Fin.ext ?_
      simp only [Fin.ofNat]
      omega
    · rw [Nat.testBit_zero]
      cases latch <;> simp <;> omega
  cases change with
  | inserted t =>
    obtain ⟨byte, position, kind, latched⟩ := head (k := 1) (by decide)
    obtain ⟨nonzero, lt⟩ := h t rfl
    simp only [readModuleEntry, ModuleEntry.bytes, List.append_assoc, readNat_beBytes 1 _ _ byte, readNat_beBytes 4 t _ lt,
      Option.bind_eq_bind, Option.bind_some, position, kind, latched]
    rw [if_neg (Nat.ne_of_gt nonzero)]
  | insertedUnread =>
    obtain ⟨byte, position, kind, latched⟩ := head (k := 2) (by decide)
    simp only [readModuleEntry, ModuleEntry.bytes, List.append_assoc, readNat_beBytes 1 _ _ byte,
      readNat_beBytes 4 0 _ (by decide), Option.bind_eq_bind, Option.bind_some, position, kind, latched]
    rfl
  | removed =>
    obtain ⟨byte, position, kind, latched⟩ := head (k := 3) (by decide)
    simp only [readModuleEntry, ModuleEntry.bytes, List.append_assoc, readNat_beBytes 1 _ _ byte,
      readNat_beBytes 4 0 _ (by decide), Option.bind_eq_bind, Option.bind_some, position, kind, latched]
    rfl

theorem readChuteEntry_bytes {e : ChuteEntry} (rest : List Byte) (h : ∀ t, e = .drop t → 0 < t ∧ t < 256 ^ 4) :
    readChuteEntry (e.bytes ++ rest) = some (e, rest) := by
  cases e with
  | drop t =>
    obtain ⟨nonzero, lt⟩ := h t rfl
    simp [readChuteEntry, ChuteEntry.bytes, List.append_assoc, readNat_beBytes 1 8 _ (by decide), readNat_beBytes 4 t _ lt,
      Nat.ne_of_gt nonzero]
  | dropUnread =>
    simp [readChuteEntry, ChuteEntry.bytes, List.append_assoc, readNat_beBytes 1 10 _ (by decide), readNat_beBytes 4 0 _ (by decide)]
  | hatchOpened =>
    simp [readChuteEntry, ChuteEntry.bytes, List.append_assoc, readNat_beBytes 1 12 _ (by decide), readNat_beBytes 4 0 _ (by decide)]
  | hatchClosed =>
    simp [readChuteEntry, ChuteEntry.bytes, List.append_assoc, readNat_beBytes 1 14 _ (by decide), readNat_beBytes 4 0 _ (by decide)]

/-- A POLL reply of either kind of unit, given that its entries are read back. -/
theorem readPoll_bytes {α : Type} {rd : List Byte → Option (α × List Byte)} {wr : α → List Byte} {p : Poll α}
    (len : p.entries.length ≤ 16) (h : ∀ a ∈ p.entries, ∀ bs, rd (wr a ++ bs) = some (a, bs)) :
    readPoll rd (p.bytes wr) = some p := by
  obtain ⟨overflow, entries⟩ := p
  replace len : entries.length ≤ 16 := len
  have bit := overflow.toNat_lt
  have count : (128 * overflow.toNat + entries.length) % 32 = entries.length := by omega
  have flag : (128 * overflow.toNat + entries.length).testBit 7 = overflow := by
    have low : entries.length < 2 ^ 7 := by omega
    rw [show 128 * overflow.toNat + entries.length = 2 ^ 7 * overflow.toNat + entries.length from rfl,
      Nat.testBit_two_pow_mul_add _ low]
    cases overflow <;> simp
  have all := readMany_flatMap_end (l := entries) h
  simp [readPoll, Poll.bytes, readNat_beBytes 1 _ _ (show 128 * overflow.toNat + entries.length < 256 ^ 1 by omega), count, flag, all,
    Config.pollMax, Nat.not_lt.mpr len]

theorem readLatch_bytes {r : LatchReply} (travel : r.travel < 256 ^ 1) : readLatch r.bytes = some r := by
  obtain ⟨coil, n⟩ := r
  have coil_lt : coil.code < 256 ^ 1 := by cases coil <;> decide
  simp only [readLatch, LatchReply.bytes, readNat_beBytes 1 _ _ coil_lt, readNat_beBytes_end 1 n travel, whole_end,
    Option.bind_eq_bind, Option.bind_some]
  cases coil <;> rfl

/-- Settles O56: one lemma for each layout, each field read back where it stands. -/
theorem bodiesAndPayloadsAreReadBack : Obligations.BodiesAndPayloadsAreReadBack :=
  ⟨fun _ _ _ tag unit home => readKeyLoad_bytes tag unit home,
    fun _ number kind key due grace escalation code window => readBookingLoad_bytes number kind key due grace escalation code window,
    fun _ number due grace escalation code window => readBookingAmend_bytes number due grace escalation code window,
    fun _ cls priority lines enabled => readPolicySet_bytes cls priority lines enabled,
    fun _ _ _ first second => readPair_bytes first second,
    fun _ _ h => readOne_beBytes h,
    fun _ h => readBookingQuery_bytes h,
    fun _ _ kind id => readAlertQuery_bytes kind id,
    fun _ _ len h => ⟨readProbe_slots len h, readStatus_slots len h⟩,
    fun _ len h => readPoll_bytes len fun e mem bs => readModuleEntry_bytes bs (h e mem),
    fun _ len h => readPoll_bytes len fun e mem bs => readChuteEntry_bytes bs (h e mem),
    fun _ travel => readLatch_bytes travel⟩

/-! ### The envelopes (R177, R181) -/

/-- What a frame carries stands for its command, whichever command it is. -/
theorem frame_layout : ∀ i : Instr, Laws.FrameLayout.Statement i
  | .keyLoad tag body => Laws.FrameLayout.keyLoad tag body
  | .keyDrop tag body => Laws.FrameLayout.keyDrop tag body
  | .bookingLoad tag body => Laws.FrameLayout.bookingLoad tag body
  | .bookingAmend tag body => Laws.FrameLayout.bookingAmend tag body
  | .bookingCancel tag body => Laws.FrameLayout.bookingCancel tag body
  | .bookingRetire tag body => Laws.FrameLayout.bookingRetire tag body
  | .policySet tag body => Laws.FrameLayout.policySet tag body
  | .paramSet tag body => Laws.FrameLayout.paramSet tag body
  | .timeSet tag body => Laws.FrameLayout.timeSet tag body
  | .release tag body => Laws.FrameLayout.release tag body
  | .alertAck tag body => Laws.FrameLayout.alertAck tag body
  | .alertMask tag body => Laws.FrameLayout.alertMask tag body
  | .alertUnmask tag body => Laws.FrameLayout.alertUnmask tag body
  | .slotClear tag body => Laws.FrameLayout.slotClear tag body
  | .slotQuarantine tag body => Laws.FrameLayout.slotQuarantine tag body
  | .moduleRevive tag body => Laws.FrameLayout.moduleRevive tag body
  | .binDiscard tag body => Laws.FrameLayout.binDiscard tag body
  | .serviceBegin tag body => Laws.FrameLayout.serviceBegin tag body
  | .serviceEnd tag body => Laws.FrameLayout.serviceEnd tag body
  | .restart tag body => Laws.FrameLayout.restart tag body
  | .statusQuery tag body => Laws.FrameLayout.statusQuery tag body
  | .statusQueryUnits tag body => Laws.FrameLayout.statusQueryUnits tag body
  | .slotQuery tag body => Laws.FrameLayout.slotQuery tag body
  | .bookingQuery tag body => Laws.FrameLayout.bookingQuery tag body
  | .bookingQueryList tag body => Laws.FrameLayout.bookingQueryList tag body
  | .keyQuery tag body => Laws.FrameLayout.keyQuery tag body
  | .alertQuery tag body => Laws.FrameLayout.alertQuery tag body
  | .alertQuerySubject tag body => Laws.FrameLayout.alertQuerySubject tag body
  | .heartbeat tag body => Laws.FrameLayout.heartbeat tag body
  | .unknownKind kind tag body => Laws.FrameLayout.unknownKind kind tag body
  | .codeEntry tag body => Laws.FrameLayout.codeEntry tag body
  | .kioskUnknownKind kind tag body => Laws.FrameLayout.kioskUnknownKind kind tag body
  | .frameCrcError port => Laws.FrameLayout.frameCrcError port
  | .frameTimeout port clock => Laws.FrameLayout.frameTimeout port clock
  | .frameFormatError port => Laws.FrameLayout.frameFormatError port
  | .linkFrameSent => Laws.FrameLayout.linkFrameSent
  | .kioskFrameSent => Laws.FrameLayout.kioskFrameSent
  | .restartRequest pins => Laws.FrameLayout.restartRequest pins
  | .powerOn pins resetLow => Laws.FrameLayout.powerOn pins resetLow
  | .resetAsserted => Laws.FrameLayout.resetAsserted
  | .resetLine pins => Laws.FrameLayout.resetLine pins
  | .supplyChange supb => Laws.FrameLayout.supplyChange supb
  | .holdEntry supb => Laws.FrameLayout.holdEntry supb
  | .holdExit supb => Laws.FrameLayout.holdExit supb
  | .panelChange isOpen => Laws.FrameLayout.panelChange isOpen
  | .oneSecondBoundary => Laws.FrameLayout.oneSecondBoundary
  | .deadlineExpiry => Laws.FrameLayout.deadlineExpiry
  | .windowExpiry channel => Laws.FrameLayout.windowExpiry channel
  | .recoveryRetry unit => Laws.FrameLayout.recoveryRetry unit
  | .unslottedLimitReached => Laws.FrameLayout.unslottedLimitReached
  | .maskExpiry => Laws.FrameLayout.maskExpiry
  | .supervisionExpiry => Laws.FrameLayout.supervisionExpiry
  | .serviceLimitExpiry => Laws.FrameLayout.serviceLimitExpiry
  | .probeReply unit payload => Laws.FrameLayout.probeReply unit payload
  | .pollReply unit payload => Laws.FrameLayout.pollReply unit payload
  | .statusReply unit payload => Laws.FrameLayout.statusReply unit payload
  | .latchOpenReply unit payload => Laws.FrameLayout.latchOpenReply unit payload
  | .latchCloseReply unit payload => Laws.FrameLayout.latchCloseReply unit payload
  | .lampsReply unit payload => Laws.FrameLayout.lampsReply unit payload
  | .flapReply unit payload => Laws.FrameLayout.flapReply unit payload
  | .badReply => Laws.FrameLayout.badReply
  | .replyDeadline clock => Laws.FrameLayout.replyDeadline clock
  | .frameStartMarker port clock => Laws.FrameLayout.frameStartMarker port clock
  | .commandLastByteSent clock => Laws.FrameLayout.commandLastByteSent clock

/-- The CRC of two bytes behind the bytes it covers is read back. -/
theorem beNat_crc (c : Crc) : beNat (beBytes 2 c.toNat) = c.toNat := beNat_beBytes 2 _ c.isLt

/-- The command a valid frame on a port stands for. -/
def portInstr (port : Port) (kind tag : Byte) (body : List Byte) : Instr :=
  match port with
  | .branch => linkInstr kind tag body
  | .kiosk => kioskInstr kind tag body

/-- The command a Slot Bus frame stands for, by its code. -/
def busInstr (closing : Bool) (addr code : Byte) (payload : List Byte) : Instr :=
  match code.toNat with
  | 0x81 => .probeReply addr payload
  | 0x82 => .pollReply addr payload
  | 0x83 => .statusReply addr payload
  | 0x84 => if closing then .latchCloseReply addr payload else .latchOpenReply addr payload
  | 0x85 => .lampsReply addr payload
  | 0x86 => .flapReply addr payload
  | _ => .badReply

/-- A frame laid out with its length and its CRC is taken as the command that its kind, tag and body stand for. -/
theorem readFrame_linkEnvelope (port : Port) (kind tag : Byte) {body : List Byte} (len : body.length ≤ Config.bodyMax) :
    readFrame port (linkEnvelope kind tag body) = some (portInstr port kind tag body) := by
  have size : (BitVec.ofNat 8 (body.length + 2)).toNat = body.length + 2 := by
    rw [BitVec.toNat_ofNat]; simp only [Config.bodyMax] at len; omega
  have front (crc : List Byte) : (kind :: tag :: (body ++ crc)).take (body.length + 2) = kind :: tag :: body := by simp
  have back (crc : List Byte) : (kind :: tag :: (body ++ crc)).drop (body.length + 2) = crc := by simp
  simp only [readFrame, linkEnvelope, List.cons_append, size]
  rw [if_neg (by simp only [Config.bodyMax] at len ⊢; omega), if_neg (by simp), front, back, if_neg (not_not.mpr (beNat_crc _))]
  rfl

theorem readBusFrame_busEnvelope (closing : Bool) (addr code : Byte) {payload : List Byte} (len : payload.length ≤ 119) :
    readBusFrame closing (busEnvelope addr code payload) = some (busInstr closing addr code payload) := by
  have size : (BitVec.ofNat 8 (payload.length + 1)).toNat = payload.length + 1 := by
    rw [BitVec.toNat_ofNat]; omega
  have front (crc : List Byte) : (code :: (payload ++ crc)).take (payload.length + 1) = code :: payload := by simp
  have back (crc : List Byte) : (code :: (payload ++ crc)).drop (payload.length + 1) = crc := by simp
  simp only [readBusFrame, busEnvelope, List.cons_append, size]
  rw [if_neg (by simp only [Config.payloadMax]; omega), if_neg (by simp), front, back, if_neg (not_not.mpr (beNat_crc _))]
  rfl

/-- Settles O55: the envelopes are opened (`readFrame_linkEnvelope`, `readBusFrame_busEnvelope`), and what a frame carries stands for
its command (`frame_layout`). -/
theorem framesAreReadBackAsTheCommandsTheyCarry : Obligations.FramesAreReadBackAsTheCommandsTheyCarry := by
  refine ⟨fun i port kind tag body wf frame => ?_, fun addr payload len => ?_⟩
  · obtain ⟨len, stands⟩ := frame_layout i wf port kind tag body frame
    rw [readFrame_linkEnvelope port kind tag len]
    exact congrArg some stands
  · exact ⟨readBusFrame_busEnvelope false addr 0x81 len, readBusFrame_busEnvelope false addr 0x82 len,
      readBusFrame_busEnvelope false addr 0x83 len, readBusFrame_busEnvelope false addr 0x84 len,
      readBusFrame_busEnvelope true addr 0x84 len, readBusFrame_busEnvelope false addr 0x85 len,
      readBusFrame_busEnvelope false addr 0x86 len⟩

end Sys2Proof.Machine
end

section
/-! SUPPORT. The end of an event: what placing the answer, the transmitter's choice (R151) and the bus's choice (R31) leave of
the state the owner of a request has made, and where a report or a LATCH command queued on the way is found afterwards. -/

namespace Sys2Proof.Machine

/-! ### The bus's choice -/

theorem send_policy (s : State) (u : UnitIx) (c : BusCmd) : (s.send u c).policy = s.policy := by
  cases c <;> rfl

theorem chooseCommand_policy (s : State) : s.chooseCommand.policy = s.policy := by
  unfold State.chooseCommand
  split
  · rfl
  · split
    · exact send_policy _ _ _
    · rfl

theorem unit_alert_chooseCommand (s : State) (u : UnitIx) : (s.chooseCommand.unit u).alert = (s.unit u).alert := by
  have kept := (chooseCommand_kept s).2.2 (.module u)
  exact Option.some.inj kept

theorem send_records (s : State) (u : UnitIx) (c : BusCmd) :
    (s.send u c).conds = s.conds ∧ (s.send u c).slots = s.slots ∧ (s.send u c).directory = s.directory
      ∧ (s.send u c).bookings = s.bookings ∧ (s.send u c).bin = s.bin ∧ (s.send u c).link = s.link := by
  cases c <;> exact ⟨rfl, rfl, rfl, rfl, rfl, rfl⟩

theorem chooseCommand_records (s : State) :
    s.chooseCommand.conds = s.conds ∧ s.chooseCommand.slots = s.slots ∧ s.chooseCommand.directory = s.directory
      ∧ s.chooseCommand.bookings = s.bookings ∧ s.chooseCommand.bin = s.bin ∧ s.chooseCommand.link = s.link := by
  unfold State.chooseCommand
  split
  · exact ⟨rfl, rfl, rfl, rfl, rfl, rfl⟩
  · split
    · exact send_records _ _ _
    · exact ⟨rfl, rfl, rfl, rfl, rfl, rfl⟩

/-- Who waits depends on the alert fields of the records only (R131). -/
theorem waiters_congr {s t : State} (conds : t.conds = s.conds) (slots : t.slots = s.slots) (directory : t.directory = s.directory)
    (bookings : t.bookings = s.bookings) (bin : t.bin = s.bin) (units : ∀ u, (t.unit u).alert = (s.unit u).alert) :
    t.waiters = s.waiters := by
  simp only [State.waiters, State.cond, State.slotList, conds, slots, directory, bookings, bin, units]

theorem chooseCommand_waiters (s : State) : s.chooseCommand.waiters = s.waiters := by
  obtain ⟨conds, slots, directory, bookings, bin, -⟩ := chooseCommand_records s
  exact waiters_congr conds slots directory bookings bin (unit_alert_chooseCommand s)

theorem chooseCommand_judgedLines (s : State) : s.chooseCommand.judgedLines = s.judgedLines :=
  judgedLines_congr (chooseCommand_kept s).2.1 (chooseCommand_policy s)

/-- A LATCH command that waits or is in flight still does when the bus has taken its next command. -/
theorem latch_chooseCommand {s : State} {l : LatchCmd}
    (there : l ∈ s.bus.latches ∨ ∃ f : Flight, s.bus.flight = some f ∧ f.cmd = .latch l) :
    l ∈ s.chooseCommand.bus.latches ∨ ∃ f : Flight, s.chooseCommand.bus.flight = some f ∧ f.cmd = .latch l := by
  unfold State.chooseCommand
  split
  · exact there
  · next free =>
    have none : s.bus.flight = none := by
      simp only [Bool.or_eq_true, not_or, Bool.not_eq_true, Option.isSome_eq_false_iff, Option.isNone_iff_eq_none] at free
      exact free.1
    have waits : l ∈ s.bus.latches := by
      rcases there with waits | ⟨f, flight, -⟩
      · exact waits
      · rw [none] at flight; cases flight
    split
    · next u cmd _ =>
      cases cmd with
      | latch k =>
        by_cases same : l = k
        · exact Or.inr ⟨_, rfl, congrArg BusCmd.latch same.symm⟩
        · exact Or.inl ((List.mem_erase_of_ne same).mpr waits)
      | _ => exact Or.inl waits
    · exact Or.inl waits

theorem latchAsked_chooseCommand {s : State} {n : SlotNo} {dir : LatchDir} {c : Option ChanNo} (h : s.latchAsked n dir c) :
    s.chooseCommand.latchAsked n dir c := by
  obtain ⟨l, slot, dir, chan, there⟩ := h
  exact ⟨l, slot, dir, chan, latch_chooseCommand there⟩

/-- The bus adds no LATCH command of its own. -/
theorem chooseCommand_latches (s : State) : ∀ l ∈ s.chooseCommand.bus.latches, l ∈ s.bus.latches := by
  unfold State.chooseCommand
  split
  · exact fun _ h => h
  · split
    · next u cmd _ =>
      cases cmd with
      | latch k => exact fun _ h => List.mem_of_mem_erase h
      | _ => exact fun _ h => h
    · exact fun _ h => h

/-! ### The end of a request's event -/

/-- What the event of a request makes of its owner's state. -/
def State.finish (s : State) (a : Answer) : State := ((s.placeAnswer a).frameEnd).chooseCommand

theorem exec_takeRequest {α : Type} {s : State} {i : Instr} {kind : Nat} {tag : Byte} {body : Option α} {b : α}
    {owner : α → State → State × Reply} (hears : s.hears) (e : exec i s = .next (s.takeRequest kind tag body owner))
    (read : body = some b) :
    exec i s = .next ((owner b s.frameBegin).1.finish
      { kind := BitVec.ofNat 8 (kind + 128), tag, result := (owner b s.frameBegin).2.result
        fields := (owner b s.frameBegin).2.fields }) := by
  subst read
  rw [e]
  exact congrArg _ (event_takeFrame s _ tag (owner b) hears)

section
variable (s : State) (a : Answer)

theorem finish_alerts : (s.finish a).alerts = s.alerts := (chooseCommand_kept _).2.1
theorem finish_kiosk : (s.finish a).kiosk = s.kiosk := (chooseCommand_kept _).1
theorem finish_alertOf (x : Subject) : (s.finish a).alertOf x = s.alertOf x := (chooseCommand_kept _).2.2 x
theorem finish_policy : (s.finish a).policy = s.policy := chooseCommand_policy _
theorem finish_waiters : (s.finish a).waiters = s.waiters := chooseCommand_waiters _
theorem finish_judgedLines : (s.finish a).judgedLines = s.judgedLines :=
  judgedLines_congr (finish_alerts s a) (finish_policy s a)

theorem finish_listed (x : Subject) : (s.finish a).listed x = s.listed x := by
  rw [State.listed, finish_alerts]; rfl

end

theorem BranchLink.choose_reports_of_answer {l : BranchLink} (h : l.answers ≠ []) : l.choose.reports = l.reports := by
  unfold BranchLink.choose
  split
  · rfl
  · next empty => exact absurd empty h

/-- The transmitter's choice takes an answer, so that the reports that wait stay. -/
theorem frameEnd_reports {s : State} (h : s.link.answers ≠ []) : s.frameEnd.link.reports = s.link.reports := by
  have chosen (p : Prop) [Decidable p] (l : BranchLink) (h : l.answers ≠ []) :
      (if p then l.choose else l).reports = l.reports := by
    split
    · exact BranchLink.choose_reports_of_answer h
    · rfl
  exact chosen _ { s.link with supervision := some s.params.supervision } h

theorem finish_reports {s : State} (a : Answer) (h : s.link.tx ≠ .idle) : (s.finish a).link.reports = s.link.reports := by
  rw [State.finish, (chooseCommand_records _).2.2.2.2.2, placeAnswer_held a h, frameEnd_reports (by simp)]
  rfl

theorem finish_lastReport {s : State} (a : Answer) (h : s.link.tx ≠ .idle) : (s.finish a).lastReport = s.lastReport := by
  rw [State.lastReport, finish_reports a h]; rfl

theorem latchAsked_finish {s : State} (a : Answer) {n : SlotNo} {dir : LatchDir} {c : Option ChanNo} (h : s.latchAsked n dir c) :
    (s.finish a).latchAsked n dir c := latchAsked_chooseCommand h

/-- What a request is served with is read off its owner's reply and tables after step 1 of R148. -/
theorem served_of_owner {α : Type} {s u : State} {i : Instr} {kind : Nat} {tag : Byte} {body : Option α} {b : α}
    {owner : α → State → State × Reply} {r : Reply} (hears : s.hears) (e : exec i s = .next (s.takeRequest kind tag body owner))
    (read : body = some b) (kept : LinkKept s.frameBegin (owner b s.frameBegin).1) (reply : (owner b s.frameBegin).2 = r)
    (tables : (owner b s.frameBegin).1.tables = u.tables) :
    Served s i { kind := BitVec.ofNat 8 (kind + 128), tag, result := r.result, fields := r.fields } u := by
  have served := takeRequest_served s i kind tag body b owner hears read e kept
  rw [reply] at served
  exact served.congr tables

/-- Beside what it is served with, the final state of a request is the owner's, finished. -/
theorem answered_of_owner {α : Type} {s u : State} {i : Instr} {kind : Nat} {tag : Byte} {body : Option α} {b : α}
    {owner : α → State → State × Reply} {r : Reply} (hears : s.hears) (e : exec i s = .next (s.takeRequest kind tag body owner))
    (read : body = some b) (kept : LinkKept s.frameBegin (owner b s.frameBegin).1) (reply : (owner b s.frameBegin).2 = r)
    (tables : (owner b s.frameBegin).1.tables = u.tables) :
    let a : Answer := { kind := BitVec.ofNat 8 (kind + 128), tag, result := r.result, fields := r.fields }
    exec i s = .next ((owner b s.frameBegin).1.finish a) ∧ Answered s ((owner b s.frameBegin).1.finish a) a u := by
  have final := exec_takeRequest hears e read
  rw [reply] at final
  obtain ⟨t, reached, answered⟩ := served_of_owner hears e read kept reply tables
  rw [final] at reached
  cases reached
  exact ⟨final, answered⟩

/-! ### Reports -/

/-- While the transmitter does not choose, a report queued is the last that waits (R152). -/
theorem queueReport_lastReport {s : State} (b : ReportBody) (h : s.link.tx ≠ .idle) : (s.queueReport b).lastReport = some b := by
  unfold State.queueReport State.lastReport BranchLink.wake
  have held : (s.link.enqueue { time := s.time, gap := false, body := b }).tx = s.link.tx := by
    unfold BranchLink.enqueue
    split
    · split <;> rfl
    · rfl
  rw [held, if_neg h]
  simp only [State.setLink, BranchLink.enqueue]
  split
  · split
    · rfl
    · rw [List.getLast?_concat]; rfl
  · rw [List.getLast?_concat]; rfl

end Sys2Proof.Machine
end

section
/-! SUPPORT. The requests that change the Directory and the Booking Table: KEY_DROP (R4), BOOKING_RETIRE (R69), BOOKING_AMEND (R64 to
R66) and BOOKING_CANCEL (R67, R68, R95). -/

namespace Sys2Proof.Machine

/-! ### KEY_DROP (R4) -/

/-- The result of KEY_DROP: the first check of R4 that fails. -/
def State.keyDropResult (s : State) (k : Nat) : Result :=
  if s.entry? k = none then .notFound
  else if s.placed k ∨ (s.bookings.any fun b =>
      b.key == k && (b.state == .loaded || b.state == .releasing || b.state == .out)) = true then .keyInUse
  else .ok

theorem keyBooked_eq_any (s : State) (k : Nat) :
    s.keyBooked k = s.bookings.any fun b => b.key == k && (b.state == .loaded || b.state == .releasing || b.state == .out) := by
  simp only [State.keyBooked, Booking.inCustody, Bool.or_assoc]

theorem entry?_tag {s : State} {k : Nat} {e : KeyEntry} (h : s.entry? k = some e) : e.tag = k := by
  have := List.find?_some h
  simpa using this

theorem removeKey_tables (s : State) (e : KeyEntry) :
    (s.removeKey e).tables = (s.setDirectory (s.directory.filter fun x => x.tag != e.tag)).tables := by
  have same := withdrawAlert_tables s (.key e.tag) [.keyMissing]
  refine (relampAll_tables _ _).trans (setDirectory_tables_congr same ?_)
  exact map_filter_eq_of_map_eq KeyEntry.bare _ (directory_bare same) fun _ => rfl

/-- KEY_DROP answers its result, and the entry goes when every check passes. -/
theorem keyDrop_eq (s : State) (k : Nat) :
    (s.keyDrop k).2 = .of (s.keyDropResult k)
      ∧ (s.keyDrop k).1.tables =
        (if s.keyDropResult k = .ok then s.setDirectory (s.directory.filter fun e => e.tag != k) else s).tables := by
  unfold State.keyDrop State.keyDropResult
  cases entry : s.entry? k with
  | none => exact ⟨rfl, rfl⟩
  | some e =>
    have tag := entry?_tag entry
    subst tag
    by_cases used : (s.placed e.tag || s.keyBooked e.tag) = true
    · have either := used
      rw [Bool.or_eq_true, keyBooked_eq_any] at either
      simp only [used, either, if_true, reduceCtorEq, if_false]
      exact ⟨rfl, rfl⟩
    · have neither := used
      rw [Bool.or_eq_true, keyBooked_eq_any] at neither
      simp only [used, neither, if_true, reduceCtorEq, if_false]
      exact ⟨rfl, removeKey_tables s e⟩

theorem keyDropResult_congr {s t : State} (h : s.tables = t.tables) (k : Nat) : s.keyDropResult k = t.keyDropResult k := by
  have booked := any_eq_of_map_eq Booking.bare
    (fun b => b.key == k && (b.state == .loaded || b.state == .releasing || b.state == .out)) (bookings_bare h) fun _ => rfl
  simp only [State.keyDropResult, entry?_eq_none_congr h, placed_congr h, booked]

/-- Settles O10: `keyDrop_eq` after step 1 of R148, which touches nothing that KEY_DROP reads. -/
theorem keyDropChecksThenDrops : Obligations.KeyDropChecksThenDrops := by
  intro s tag body k hears read
  have same := frameBegin_tables s
  have result : s.frameBegin.keyDropResult k = s.keyDropResult k := by rw [keyDropResult_congr same, heard_eq]; rfl
  obtain ⟨reply, tables⟩ := keyDrop_eq s.frameBegin k
  refine served_of_owner (kind := 0x02) (owner := fun n s => s.keyDrop n) hears rfl read ((keyDrop_calm _ _).linkKept (frameBegin_tx s)) (reply.trans (congrArg _ result)) (tables.trans ?_)
  rw [result]
  change _ = State.tables (if s.keyDropResult k = .ok then s.heard.setDirectory (s.directory.filter fun e => e.tag != k) else s.heard)
  split
  · refine setDirectory_tables_congr same ?_
    rw [map_filter_eq_of_map_eq KeyEntry.bare _ (directory_bare same) fun _ => rfl, heard_eq]
  · exact same

/-! ### BOOKING_RETIRE (R69) -/

theorem Booking.final_bare (b : Booking) : b.bare.final = b.final := rfl

/-- The Booking Table filtered after step 1 of R148, which leaves the bookings as they are up to their alert fields. -/
theorem setBookings_filter_frameBegin (s : State) (p : Booking → Bool) (hp : ∀ b, p b.bare = p b) :
    (s.frameBegin.setBookings (s.frameBegin.bookings.filter p)).tables = (s.heard.setBookings (s.bookings.filter p)).tables := by
  have same := frameBegin_tables s
  refine setBookings_tables_congr same ?_
  rw [map_filter_eq_of_map_eq Booking.bare p (bookings_bare same) hp, heard_eq]

theorem booking?_frameBegin_eq_none {s : State} {n : Nat} (h : s.booking? n = none) : s.frameBegin.booking? n = none :=
  (booking?_eq_none_congr (frameBegin_tables s) n).mpr (by rw [heard_eq]; exact h)

theorem booking?_frameBegin_eq_some {s : State} {n : Nat} {b : Booking} (h : s.booking? n = some b) :
    ∃ c : Booking, s.frameBegin.booking? n = some c ∧ c.bare = b.bare :=
  booking?_some_congr (frameBegin_tables s) (by rw [heard_eq]; exact h)

/-- BOOKING_RETIRE of every final booking, and of one booking by its number. -/
theorem bookingRetire_zero (s : State) :
    s.bookingRetire 0 = (s.setBookings (s.bookings.filter fun b => !b.final), .ok (.retired (s.bookings.countP Booking.final))) := by
  rw [List.countP_eq_length_filter]; rfl

theorem bookingRetire_none {s : State} {n : Nat} (nonzero : n ≠ 0) (h : s.booking? n = none) :
    s.bookingRetire n = s.refuse .notFound := by
  rw [State.bookingRetire, if_neg nonzero, h]

theorem bookingRetire_some {s : State} {n : Nat} {b : Booking} (nonzero : n ≠ 0) (h : s.booking? n = some b) :
    s.bookingRetire n =
      if b.final then (s.setBookings (s.bookings.filter fun x => x.number != n), .ok (.retired 1)) else s.refuse .wrongState := by
  rw [State.bookingRetire, if_neg nonzero, h]

/-- Settles O14: each case is one filter of the Booking Table, or a refusal. -/
theorem bookingRetireRemovesFinalBookings : Obligations.BookingRetireRemovesFinalBookings := by
  intro s tag body n hears read
  have same := frameBegin_tables s
  have served {r : Reply} {u : State} (reply : (s.frameBegin.bookingRetire n).2 = r)
      (tables : (s.frameBegin.bookingRetire n).1.tables = u.tables) :
      Served s (.bookingRetire tag body) { kind := 0x86, tag, result := r.result, fields := r.fields } u :=
    served_of_owner (kind := 0x06) (owner := fun n s => s.bookingRetire n) hears rfl read
      ((bookingRetire_calm _ _).linkKept (frameBegin_tx s)) reply tables
  refine ⟨fun zero => ?_, fun nonzero missing => ?_, fun b nonzero found => ?_⟩
  · subst zero
    have count : s.frameBegin.bookings.countP Booking.final = s.bookings.countP Booking.final := by
      rw [countP_eq_of_map_eq Booking.bare _ (bookings_bare same) Booking.final_bare, heard_eq]
    refine served (r := .ok (.retired (s.bookings.countP Booking.final))) ?_ ?_
    · rw [bookingRetire_zero, count]
    · rw [bookingRetire_zero]
      exact setBookings_filter_frameBegin s _ fun _ => rfl
  · have none := bookingRetire_none nonzero (booking?_frameBegin_eq_none missing)
    exact served (r := .of .notFound) (congrArg Prod.snd none) ((congrArg (·.1.tables) none).trans same)
  · obtain ⟨c, found, bare⟩ := booking?_frameBegin_eq_some found
    have some := bookingRetire_some nonzero found
    have final : c.final = b.final := (Booking.final_bare c).symm.trans ((congrArg Booking.final bare).trans (Booking.final_bare b))
    rw [final] at some
    refine ⟨fun open_ => ?_, fun final => ?_⟩
    · rw [show b.final = false from open_] at some
      exact served (r := .of .wrongState) (congrArg Prod.snd some) ((congrArg (·.1.tables) some).trans same)
    · rw [show b.final = true from final] at some
      exact served (r := .ok (.retired 1)) (congrArg Prod.snd some)
        ((congrArg (·.1.tables) some).trans (setBookings_filter_frameBegin s _ fun _ => rfl))

end Sys2Proof.Machine
end

section
/-! SUPPORT. POLICY_SET and PARAM_SET (R133, R157), and the mask (R140, R141). -/

namespace Sys2Proof.Machine

/-! ### POLICY_SET (R133) -/

theorem AlertClass.ofNumber_eq_some : ∀ n < 16, ∃ c : AlertClass, AlertClass.ofNumber (n + 1) = some c ∧ c.ix = Fin.ofNat 16 n := by
  decide

theorem AlertClass.ofNumber_eq_none {n : Nat} (h : n = 0 ∨ 16 < n) : AlertClass.ofNumber n = none := by
  obtain rfl | beyond := h
  · rfl
  · obtain ⟨k, rfl⟩ := Nat.exists_eq_add_of_lt beyond
    rw [show 16 + k + 1 = k + 17 by omega]
    rfl

/-- The entry a POLICY_SET writes. -/
def PolicySetReq.entry (r : PolicySetReq) : PolicyEntry :=
  { priority := r.priority, enabled := r.enabled == 1
    lines := { beacon := r.lines.testBit 0, buzzer := r.lines.testBit 1, attn := r.lines.testBit 2 } }

theorem policySet_badField (s : State) {r : PolicySetReq} (h : r.cls = 0 ∨ 16 < r.cls ∨ 7 < r.priority ∨ 7 < r.lines ∨ 1 < r.enabled) :
    s.policySet r = s.refuse .badField := by
  unfold State.policySet
  cases cls : AlertClass.ofNumber r.cls with
  | none => rfl
  | some c =>
    have known : ¬ (r.cls = 0 ∨ 16 < r.cls) := fun h => by rw [AlertClass.ofNumber_eq_none h] at cls; cases cls
    exact if_pos (by omega)

/-- An accepted POLICY_SET writes its entry, and the lines are judged again. -/
theorem policySet_ok (s : State) {r : PolicySetReq} (least : 1 ≤ r.cls) (most : r.cls ≤ 16) (priority : r.priority ≤ 7)
    (lines : r.lines ≤ 7) (enabled : r.enabled ≤ 1) :
    s.policySet r = ((s.setPolicy (s.policy.set (Fin.ofNat 16 (r.cls - 1)) r.entry)).judgeLines).accept := by
  obtain ⟨c, cls, ix⟩ := AlertClass.ofNumber_eq_some (r.cls - 1) (by omega)
  rw [Nat.sub_add_cancel least] at cls
  have written : s.putPolicy c r.entry = s.setPolicy (s.policy.set (Fin.ofNat 16 (r.cls - 1)) r.entry) := by
    simp only [State.putPolicy, ix]
  rw [← written, State.policySet, cls]
  exact if_neg (by omega)

/-- The lines judged are as R139 has them. -/
theorem judgeLines_right (s : State) : s.judgeLines.alerts.lines = s.judgeLines.judgedLines := rfl

/-! ### PARAM_SET (R157) -/

/-- The six parameters with one of them written. -/
def Params.with (p : Params) (n v : Nat) : Params :=
  { window := if n = 1 then v else p.window, slowLatch := if n = 2 then v else p.slowLatch
    supervision := if n = 3 then v else p.supervision, unslotted := if n = 4 then v else p.unslotted
    service := if n = 5 then v else p.service, nearFull := if n = 6 then v else p.nearFull }

def paramRange (n : Nat) : Nat × Nat := [(5, 60), (40, 250), (5, 300), (5, 120), (1, 60), (8, 47)].getD (n - 1) (0, 0)

def Params.number (p : Params) (n : Nat) : Nat :=
  [p.window, p.slowLatch, p.supervision, p.unslotted, p.service, p.nearFull].getD (n - 1) 0

/-- A parameter by its number: its range, its value, and what writing it does. -/
theorem ParamName.ofNumber_eq_some {n : Nat} (least : 1 ≤ n) (most : n ≤ 6) :
    ∃ name : ParamName, ParamName.ofNumber n = some name ∧ name.range = paramRange n
      ∧ ∀ p : Params, name.get p = p.number n ∧ ∀ v, name.set v p = p.with n v := by
  match n with
  | 1 => exact ⟨.window, rfl, rfl, fun _ => ⟨rfl, fun _ => rfl⟩⟩
  | 2 => exact ⟨.slowLatch, rfl, rfl, fun _ => ⟨rfl, fun _ => rfl⟩⟩
  | 3 => exact ⟨.supervision, rfl, rfl, fun _ => ⟨rfl, fun _ => rfl⟩⟩
  | 4 => exact ⟨.unslotted, rfl, rfl, fun _ => ⟨rfl, fun _ => rfl⟩⟩
  | 5 => exact ⟨.service, rfl, rfl, fun _ => ⟨rfl, fun _ => rfl⟩⟩
  | 6 => exact ⟨.nearFull, rfl, rfl, fun _ => ⟨rfl, fun _ => rfl⟩⟩
  | 0 | _ + 7 => omega

theorem ParamName.ofNumber_eq_none {n : Nat} (h : n = 0 ∨ 6 < n) : ParamName.ofNumber n = none := by
  match n with
  | 0 => rfl
  | 1 | 2 | 3 | 4 | 5 | 6 => omega
  | _ + 7 => rfl

theorem paramSet_badField (s : State) {r : PairReq}
    (h : r.first = 0 ∨ 6 < r.first ∨ r.second < (paramRange r.first).1 ∨ (paramRange r.first).2 < r.second) :
    s.paramSet r = s.refuse .badField := by
  unfold State.paramSet
  by_cases known : r.first = 0 ∨ 6 < r.first
  · rw [ParamName.ofNumber_eq_none known]
  · obtain ⟨name, number, range, -⟩ := ParamName.ofNumber_eq_some (n := r.first) (by omega) (by omega)
    rw [number]
    exact if_pos (by rw [range]; omega)

theorem paramSet_ok (s : State) {r : PairReq} (least : 1 ≤ r.first) (most : r.first ≤ 6) (low : (paramRange r.first).1 ≤ r.second)
    (high : r.second ≤ (paramRange r.first).2) :
    s.paramSet r =
      ((s.setParams (s.params.with r.first r.second)).judgeNearFull, .ok (.oldParam (s.params.number r.first))) := by
  obtain ⟨name, number, range, values⟩ := ParamName.ofNumber_eq_some least most
  obtain ⟨get, set⟩ := values s.params
  unfold State.paramSet
  rw [number]
  dsimp only
  rw [if_neg (by rw [range]; omega), get, set]

/-- Settles O15: the ranges decide; an accepted POLICY_SET judges the lines, an accepted PARAM_SET the near-full level. -/
theorem settingsRequestsKeepTheirRanges : Obligations.SettingsRequestsKeepTheirRanges := by
  refine ⟨fun s tag body r hears read => ⟨fun bad => ?_, fun least most priority lines enabled => ?_⟩,
    fun s tag body r hears read => ⟨fun bad => ?_, fun least most low high => ?_⟩⟩
  · have refused := policySet_badField s.frameBegin bad
    exact served_of_owner (kind := 0x07) (owner := fun r s => s.policySet r) (r := .of .badField) hears rfl read
      (by rw [refused]; exact ⟨rfl, rfl, rfl, rfl⟩) (congrArg Prod.snd refused)
      ((congrArg (·.1.tables) refused).trans (frameBegin_tables s))
  · have done := policySet_ok s.frameBegin least most priority lines enabled
    obtain ⟨reached, answered⟩ := answered_of_owner (i := .policySet tag body) (kind := 0x07) (tag := tag) (owner := fun r s => s.policySet r) (r := .of .ok)
      (u := s.heard.setPolicy (s.policy.set (Fin.ofNat 16 (r.cls - 1)) r.entry)) hears rfl read
      (by rw [done]; exact ⟨rfl, rfl, rfl, rfl⟩) (congrArg Prod.snd done) (by
        rw [done]
        refine (judgeLines_tables _).trans ?_
        rw [(frameBegin_kept s).2.2.2.2.2.1]
        exact congrArg (fun u => State.setPolicy u (s.policy.set (Fin.ofNat 16 (r.cls - 1)) r.entry)) (frameBegin_tables s))
    refine ⟨_, reached, ?_, answered⟩
    rw [finish_alerts, finish_judgedLines, done]
    exact judgeLines_right _
  · have refused := paramSet_badField s.frameBegin bad
    exact served_of_owner (kind := 0x08) (owner := fun r s => s.paramSet r) (r := .of .badField) hears rfl read
      (by rw [refused]; exact ⟨rfl, rfl, rfl, rfl⟩) (congrArg Prod.snd refused)
      ((congrArg (·.1.tables) refused).trans (frameBegin_tables s))
  · have done := paramSet_ok s.frameBegin least most low high
    rw [(frameBegin_kept s).2.2.2.2.1] at done
    refine served_of_owner (kind := 0x08) (owner := fun r s => s.paramSet r) (r := .ok (.oldParam (s.params.number r.first))) hears
      rfl read ?_ (congrArg Prod.snd done) ?_
    · rw [done]
      exact (judgeNearFull_calm (s.frameBegin.setParams (s.params.with r.first r.second))).linkKept (frameBegin_tx s)
    · rw [done, judgeNearFull_form, nearFullJudged_form]
      exact congrArg (fun u => (State.setParams u (s.params.with r.first r.second)).nearFullJudged) (frameBegin_tables s)

/-! ### The mask (R140, R141) -/

/-- The mask set to a value, and the lines judged again. -/
def State.masked (s : State) (m : Option Nat) : State := (s.setAlerts { s.alerts with mask := m }).judgeLines

theorem masked_tables (s : State) (m : Option Nat) :
    (s.masked m).tables = s.tables.setAlerts { s.tables.alerts with mask := m } := judgeLines_tables _

/-- Under a mask no line is driven (R139). -/
theorem masked_some_lines (s : State) (m : Nat) : (s.masked (some m)).alerts.lines = .none := by
  simp [State.masked, State.judgeLines, State.judgedLines, State.setAlerts, LineSet.none]

/-- What an accepted ALERT_MASK or ALERT_UNMASK comes to after step 1 of R148. -/
theorem masked_frameBegin (s : State) (m : Option Nat) :
    (s.frameBegin.masked m).tables = State.tables { s.heard with alerts := { s.alerts with mask := m } } := by
  rw [masked_tables, frameBegin_tables, heard_eq]
  rfl

/-- Settles O21: the mask is set or cleared and the lines judged again; under the mask no line is driven. -/
theorem theMaskIsSetClearedAndExpires : Obligations.TheMaskIsSetClearedAndExpires := by
  intro s tag body
  refine ⟨fun hears => ⟨fun m read bad => ?_, fun m read least most => ?_, fun empty => ?_⟩, fun run => ⟨fun out => ?_, fun left => ?_⟩⟩
  · have refused : s.frameBegin.alertMask m = s.frameBegin.refuse .badField := if_pos bad
    exact served_of_owner (kind := 0x0C) (owner := fun n s => s.alertMask n) (r := .of .badField) hears rfl read
      (by rw [refused]; exact ⟨rfl, rfl, rfl, rfl⟩) (congrArg Prod.snd refused)
      ((congrArg (·.1.tables) refused).trans (frameBegin_tables s))
  · have done : s.frameBegin.alertMask m = (s.frameBegin.masked (some (60 * m))).accept := if_neg (by omega)
    obtain ⟨reached, answered⟩ := answered_of_owner (i := .alertMask tag body) (kind := 0x0C) (tag := tag)
      (owner := fun n s => s.alertMask n) (r := .of .ok) hears rfl read (by rw [done]; exact ⟨rfl, rfl, rfl, rfl⟩)
      (congrArg Prod.snd done) ((congrArg (·.1.tables) done).trans (masked_frameBegin s (some (60 * m))))
    refine ⟨_, reached, ?_, answered⟩
    rw [finish_alerts, done]
    exact masked_some_lines _ _
  · subst empty
    obtain ⟨reached, answered⟩ := answered_of_owner (i := .alertUnmask tag []) (kind := 0x0D) (tag := tag) (body := readNone [])
      (owner := fun _ s => s.alertUnmask) (r := .of .ok) hears rfl rfl ⟨rfl, rfl, rfl, rfl⟩ rfl (masked_frameBegin s none)
    refine ⟨_, reached, ?_, answered⟩
    rw [finish_alerts, finish_judgedLines]
    exact judgeLines_right _
  · refine gives_event _ rfl run ?_
    exact if_pos out
  · exact gives_event _ rfl run (if_neg left)

end Sys2Proof.Machine
end

section
/-! SUPPORT. Service sessions and the panel: SERVICE_BEGIN (R172), the end of a session (R174, R175), PANEL_CHANGE (R171). -/

namespace Sys2Proof.Machine

/-! ### SERVICE_BEGIN (R172) -/

theorem usedChannels_ne_zero_iff (s : State) : s.usedChannels ≠ 0 ↔ ∃ c : ChanNo, s.chan c ≠ .free := by
  have all (c : ChanNo) : c ∈ allChannels := by revert c; decide
  simp [State.usedChannels, all]

/-- The result of SERVICE_BEGIN: the first check of R172 that fails. -/
def State.serviceBeginResult (s : State) : Result :=
  if s.mode.level = .lost then .supplyHold
  else if s.session.remaining ≠ none then .wrongState
  else if s.usedChannels ≠ 0 ∨ s.release.queue ≠ [] then .wrongState
  else .ok

theorem serviceBegin_eq (s : State) :
    s.serviceBegin =
      if s.serviceBeginResult = .ok then (s.beginSession, .ok (.limit (60 * s.params.service)))
      else s.refuse s.serviceBeginResult := by
  unfold State.serviceBegin State.serviceBeginResult State.hold State.inSession
  by_cases lost : s.mode.level = .lost
  · simp [lost]
  · by_cases session : s.session.remaining = none
    · by_cases used : s.usedChannels ≠ 0 ∨ s.release.queue ≠ []
      · simp only [beq_iff_eq, lost, session, used, if_true, if_false, ne_eq, not_true, Option.isSome_none, Bool.false_eq_true,
          reduceCtorEq]
      · simp only [beq_iff_eq, lost, session, used, if_true, if_false, ne_eq, not_true, Option.isSome_none, Bool.false_eq_true]
    · have active : s.session.remaining.isSome = true := Option.isSome_iff_ne_none.mpr session
      simp only [beq_iff_eq, lost, session, active, if_true, if_false, ne_eq, not_false_eq_true, reduceCtorEq]

@[simp] theorem beginSession_form (s : State) :
    s.beginSession.tables = (s.tables.setSession { remaining := some (60 * s.params.service), removals := [] }).panelJudged := by
  unfold State.beginSession
  rw [queueReport_tables, judgePanel_form]
  rfl

theorem judgePanel_mode (s : State) : s.judgePanel.mode = s.mode := by
  have kept := judgePanel_form s
  exact (congrArg State.mode kept).trans rfl

/-- SERVICE_STATE with reason BEGUN is the last report of a session's beginning. -/
theorem beginSession_lastReport {s : State} (h : s.link.tx ≠ .idle) :
    s.beginSession.lastReport = some (.serviceState .begun (some (60 * s.params.service)) none s.mode.panelOpen) := by
  let begun := s.setSession { remaining := some (60 * s.params.service), removals := [] }
  have held : begun.judgePanel.link.tx ≠ .idle := by rw [((judgePanel_calm begun).held h).1]; exact h
  have mode : begun.judgePanel.mode = s.mode := judgePanel_mode begun
  have last := queueReport_lastReport
    (.serviceState .begun (some (60 * s.params.service)) none begun.judgePanel.mode.panelOpen) held
  exact last.trans (by rw [mode])

/-- Settles O26: the checks read nothing that step 1 of R148 touches, and a session begun is reported last. -/
theorem serviceBeginStartsASession : Obligations.ServiceBeginStartsASession := by
  intro s tag hears limit res
  obtain ⟨mode, session, -, release, -⟩ := frameBegin_blocks s
  have params : s.frameBegin.params = s.params := (frameBegin_kept s).2.2.2.2.1
  have used : s.frameBegin.usedChannels = s.usedChannels := by simp only [State.usedChannels, State.chan, release]
  have result : s.frameBegin.serviceBeginResult = res := by
    simp only [State.serviceBeginResult, mode, session, release, used, usedChannels_ne_zero_iff]
    rfl
  have whole := serviceBegin_eq s.frameBegin
  rw [result] at whole
  refine ⟨fun bad => ?_, fun ok => ?_⟩
  · rw [if_neg bad] at whole
    exact served_of_owner (kind := 0x12) (body := readNone []) (owner := fun _ s => s.serviceBegin) (r := .of res) hears rfl rfl
      (by rw [whole]; exact ⟨rfl, rfl, rfl, rfl⟩) (congrArg Prod.snd whole)
      ((congrArg (·.1.tables) whole).trans (frameBegin_tables s))
  · rw [if_pos ok, params] at whole
    obtain ⟨reached, answered⟩ := answered_of_owner (i := .serviceBegin tag []) (kind := 0x12) (tag := tag) (body := readNone [])
      (owner := fun _ s => s.serviceBegin) (r := .ok (.limit limit))
      (u := State.panelJudged { s.heard with session := { remaining := some limit, removals := [] } }) hears rfl rfl
      ((serviceBegin_calm _).linkKept (frameBegin_tx s)) (congrArg Prod.snd whole) (by
        rw [whole, beginSession_form, panelJudged_form, params]
        exact congrArg (fun u => (State.setSession u { remaining := some limit, removals := [] }).panelJudged) (frameBegin_tables s))
    refine ⟨_, reached, answered, ?_⟩
    have kept := (beginSession_calm s.frameBegin).held (frameBegin_tx s)
    rw [whole, finish_lastReport _ (by rw [kept.1]; exact frameBegin_tx s), beginSession_lastReport (frameBegin_tx s), params, mode]

/-! ### The end of a session (R175) -/

/-- The keys of a Service Removal List, missing. -/
def State.leftMissing (s : State) (l : List Removal) : State :=
  { s with directory := s.directory.map fun e => if l.any fun r => r.tag == some e.tag then { e with missing := true } else e }

theorem leftMissing_nil (s : State) : s.leftMissing [] = s := by
  simp [State.leftMissing]

theorem leftMissing_cons_none (s : State) {r : Removal} (l : List Removal) (h : r.tag = none) :
    s.leftMissing (r :: l) = s.leftMissing l := by
  simp [State.leftMissing, h]

theorem leftMissing_cons_some (s : State) {r : Removal} (l : List Removal) {t : Nat} (h : r.tag = some t) :
    s.leftMissing (r :: l) = (s.withMissing t true).leftMissing l := by
  have each (e : KeyEntry) :
      (if (r :: l).any fun r => r.tag == some e.tag then { e with missing := true } else e) =
        let x : KeyEntry := if e.tag = t then { e with missing := true } else e
        if l.any fun r => r.tag == some x.tag then { x with missing := true } else x := by
    by_cases same : e.tag = t
    · subst same; simp [h]
    · have other : ¬ t = e.tag := fun same' => same same'.symm
      simp [h, same, other]
  simp only [State.leftMissing, State.withMissing, List.map_map, each, Function.comp_def]

theorem leftMissing_form (s : State) (l : List Removal) : (s.leftMissing l).tables = s.tables.leftMissing l := by
  have each (e : KeyEntry) :
      (if l.any fun r => r.tag == some e.tag then { e with missing := true } else e).bare =
        if l.any fun r => r.tag == some e.bare.tag then { e.bare with missing := true } else e.bare := by
    change _ = if l.any fun r => r.tag == some e.tag then _ else _
    split <;> rfl
  simp only [State.leftMissing, State.tables, List.map_map, Function.comp_def, each]

/-- One entry left behind makes its key missing, where the Directory has it. -/
theorem leftBehind_form (s : State) (r : Removal) (l : List Removal) :
    (s.leftBehind r).tables.leftMissing l = s.tables.leftMissing (r :: l) := by
  unfold State.leftBehind
  cases tag : r.tag with
  | none => rw [leftMissing_cons_none _ _ tag]; rfl
  | some t =>
    rw [leftMissing_cons_some _ _ tag]
    by_cases known : (s.entry? t).isSome
    · simp only [Option.filter, known, if_true]
      rw [setMissing_form, queueReport_tables]
    · rw [withMissing_of_no_entry ((entry?_eq_none_tables s t).mpr (Option.not_isSome_iff_eq_none.mp known))]
      simp only [Option.filter, known, Bool.false_eq_true, if_false]
      rfl

theorem foldl_leftBehind_form (l : List Removal) (s : State) : (l.foldl State.leftBehind s).tables = s.tables.leftMissing l := by
  induction l generalizing s with
  | nil => exact (leftMissing_nil _).symm
  | cons r l ih => rw [List.foldl_cons, ih, leftBehind_form]

/-- The session over, and the keys it leaves behind missing (R175). -/
def State.sessionEnded (s : State) : State :=
  { s.leftMissing s.session.removals with session := { remaining := none, removals := [] } }

theorem sessionEnded_form (s : State) : s.sessionEnded.tables = s.tables.sessionEnded := by
  have keys := leftMissing_form s s.session.removals
  exact congrArg (fun u => State.setSession u { remaining := none, removals := [] }) keys

/-- What the end of a session makes active: SERVICE_OVERRUN where the limit ended it with the panel OPEN, and PANEL_OPEN judged. -/
def State.overrunJudged (s : State) (reason : SessionReason) : State :=
  if reason = .limit ∧ s.mode.panelOpen then (s.condTo .serviceOverrun true).panelJudged else s.panelJudged

theorem overrunJudged_form (s : State) (reason : SessionReason) :
    (s.overrunJudged reason).tables = s.tables.overrunJudged reason := by
  unfold State.overrunJudged
  by_cases overrun : reason = .limit ∧ s.mode.panelOpen = true
  · rw [if_pos overrun, if_pos (show reason = .limit ∧ s.tables.mode.panelOpen = true from overrun), panelJudged_form, condTo_form]
  · rw [if_neg overrun, if_neg (show ¬ (reason = .limit ∧ s.tables.mode.panelOpen = true) from overrun), panelJudged_form]

/-- The state in which `endSession` lets each removal leave its key behind. -/
def State.sessionLeft (s : State) (reason : SessionReason) : State :=
  s.session.removals.foldl State.leftBehind
    ((s.setSession { remaining := none, removals := s.session.removals }).queueReport
      (.serviceState reason none (some s.session.removals.length) s.mode.panelOpen))

theorem sessionLeft_cleared (s : State) (reason : SessionReason) :
    ((s.sessionLeft reason).setSession { (s.sessionLeft reason).session with removals := [] }).tables = s.tables.sessionEnded := by
  have keys : (s.sessionLeft reason).tables =
      (s.setSession { remaining := none, removals := s.session.removals }).tables.leftMissing s.session.removals := by
    rw [State.sessionLeft, foldl_leftBehind_form, queueReport_tables]
  have session : (s.sessionLeft reason).session = { remaining := none, removals := s.session.removals } := congrArg State.session keys
  rw [session]
  exact congrArg (fun u => State.setSession u { remaining := none, removals := [] }) keys

theorem endSession_form (s : State) (reason : SessionReason) :
    (s.endSession reason).tables = s.tables.sessionEnded.overrunJudged reason := by
  have unfolded : s.endSession reason =
      let u := (s.sessionLeft reason).setSession { (s.sessionLeft reason).session with removals := [] }
      (if reason = .limit ∧ u.mode.panelOpen then u.beginCond .serviceOverrun else u).judgePanel := rfl
  rw [unfolded, ← sessionLeft_cleared s reason, ← overrunJudged_form, State.overrunJudged]
  dsimp only
  rw [judgePanel_form]
  split
  · rw [beginCond_form, panelJudged_form, condTo_form]
  · rw [panelJudged_form]

theorem sessionEnded_heard (s : State) :
    s.frameBegin.tables.sessionEnded =
      (State.sessionEnded s.heard).tables := by
  rw [frameBegin_tables, ← sessionEnded_form]

/-- The limit's expiry, as R174 states it. -/
theorem overrunJudged_limit (s : State) :
    s.overrunJudged .limit = if s.mode.panelOpen then (s.condTo .serviceOverrun true).panelJudged else s.panelJudged := by
  simp [State.overrunJudged]

/-- Settles O27: the keys the removals name are walked once, and both ends of a session are `endSession`. -/
theorem aSessionEndsByRequestOrLimit : Obligations.ASessionEndsByRequestOrLimit := by
  intro s tag ended
  obtain ⟨-, session, -, -, -⟩ := frameBegin_blocks s
  refine ⟨fun hears => ⟨fun none => ?_, fun some => ?_⟩, fun running => ⟨fun expired => ?_, fun left => ?_⟩⟩
  · have whole : s.frameBegin.serviceEnd = s.frameBegin.refuse .wrongState := by
      simp [State.serviceEnd, State.inSession, session, none]
    exact served_of_owner (kind := 0x13) (body := readNone []) (owner := fun _ s => s.serviceEnd) (r := .of .wrongState) hears rfl rfl
      (by rw [whole]; exact ⟨rfl, rfl, rfl, rfl⟩) (congrArg Prod.snd whole)
      ((congrArg (·.1.tables) whole).trans (frameBegin_tables s))
  · have whole : s.frameBegin.serviceEnd = (s.frameBegin.endSession .ended, .ok (.left s.session.removals.length)) := by
      simp [State.serviceEnd, State.inSession, session, Option.isSome_iff_ne_none.mpr some]
    refine served_of_owner (kind := 0x13) (body := readNone []) (owner := fun _ s => s.serviceEnd)
      (r := .ok (.left s.session.removals.length)) hears rfl rfl
      ((serviceEnd_calm _).linkKept (frameBegin_tx s)) (congrArg Prod.snd whole) ?_
    have ends : ended s.heard = State.sessionEnded s.heard := by rw [heard_eq s]; rfl
    rw [whole, endSession_form, sessionEnded_heard, ends, panelJudged_form]
    rfl
  · refine makes_event _ rfl running ?_
    rw [State.serviceLimitExpiry, if_pos expired, endSession_form, ← sessionEnded_form, ← overrunJudged_form, overrunJudged_limit]
    rfl
  · exact gives_event _ rfl running (if_neg left)

/-! ### PANEL_CHANGE (R171) -/

/-- Settles O33: SERVICE_OVERRUN and PANEL_OPEN are judged on the pin just noted. -/
theorem panelChangeJudgesTheConditions : Obligations.PanelChangeJudgesTheConditions := by
  intro s isOpen running noted
  refine ⟨fun same => gives_event _ rfl running (if_pos same.symm), fun changed => makes_event _ rfl running ?_⟩
  rw [State.panelTo, if_neg (Ne.symm changed)]
  dsimp only
  rw [judgePanel_form, panelJudged_form]
  cases isOpen
  · exact congrArg State.panelJudged ((judgeCond_form _ .serviceOverrun false).trans (condTo_form _ _ _).symm)
  · rfl

end Sys2Proof.Machine
end

section
/-! SUPPORT. MODULE_REVIVE (R39) and BIN_DISCARD (R112). -/

namespace Sys2Proof.Machine

/-- A request refused changes no table beyond step 1 of R148. -/
theorem served_of_refused {α : Type} {s : State} {i : Instr} {kind : Nat} {tag : Byte} {body : Option α} {b : α}
    {owner : α → State → State × Reply} {r : Result} (hears : s.hears) (e : exec i s = .next (s.takeRequest kind tag body owner))
    (read : body = some b) (refused : owner b s.frameBegin = s.frameBegin.refuse r) :
    Served s i (plain (BitVec.ofNat 8 (kind + 128)) tag r) s.heard :=
  served_of_owner (r := .of r) hears e read (by rw [refused]; exact ⟨rfl, rfl, rfl, rfl⟩) (congrArg Prod.snd refused)
    ((congrArg (·.1.tables) refused).trans (frameBegin_tables s))

/-! ### MODULE_REVIVE (R39) -/

theorem unitAt_unitAddr (u : UnitIx) : unitAt (unitAddr u) = some u := by revert u; decide

theorem unitAt_eq_none {a : Nat} (h : ¬ (1 ≤ a ∧ a ≤ 24 ∨ a = 31)) : unitAt a = none := by
  unfold unitAt
  rw [if_neg (by omega), dif_neg (by omega)]

/-- A unit's record as MODULE_REVIVE leaves it. -/
def UnitRec.revived (r : UnitRec) : UnitRec :=
  { r with
    state := .probing, cause := some (if r.state = .absent then .reviveAbsent else .reviveRetired), misses := 0, attempts := 0
    retry := none }

theorem moduleRevive_eq (s : State) (u : UnitIx) :
    s.moduleRevive (unitAddr u) =
      if s.mode.level = .lost then s.refuse .supplyHold
      else if (s.unit u).state = .absent ∨ (s.unit u).state = .retired then (s.withUnit u UnitRec.revived).accept
      else s.refuse .wrongState := by
  rw [State.moduleRevive, unitAt_unitAddr]
  dsimp only
  have put (cause : ProbeCause) (h : cause = if (s.unit u).state = .absent then .reviveAbsent else .reviveRetired) :
      s.revive u cause = s.withUnit u UnitRec.revived := by subst h; rfl
  by_cases lost : s.mode.level = .lost
  · simp only [State.hold, lost, beq_self_eq_true, if_true]
  · simp only [State.hold, beq_iff_eq, lost, if_false]
    cases h : (s.unit u).state with
    | absent => rw [put .reviveAbsent (by rw [h]; rfl)]; rfl
    | retired => rw [put .reviveRetired (by rw [h]; rfl)]; rfl
    | _ => rfl

/-- Settles O24: the unit's state decides, and `revive` sets the fields it names. -/
theorem moduleReviveProbesAnAbsentOrRetiredUnit : Obligations.ModuleReviveProbesAnAbsentOrRetiredUnit := by
  intro s tag body a hears read
  refine ⟨fun bad => ?_, fun u addr => ?_⟩
  · refine served_of_refused (kind := 0x10) (owner := fun n s => s.moduleRevive n) hears rfl read ?_
    rw [State.moduleRevive, unitAt_eq_none bad]
  · subst addr
    obtain ⟨mode, -⟩ := frameBegin_blocks s
    have same := frameBegin_tables s
    have state : (s.frameBegin.unit u).state = (s.unit u).state := by rw [unit_state_congr same, heard_eq]; rfl
    have whole := moduleRevive_eq s.frameBegin u
    rw [mode, state] at whole
    intro r res
    by_cases lost : s.mode.level = .lost
    · rw [if_pos lost] at whole
      have refused : res = .supplyHold := if_pos lost
      rw [refused, if_neg (by decide)]
      exact served_of_refused (kind := 0x10) (owner := fun n s => s.moduleRevive n) hears rfl read whole
    · rw [if_neg lost] at whole
      by_cases revivable : (s.unit u).state = .absent ∨ (s.unit u).state = .retired
      · rw [if_pos revivable] at whole
        have done : res = .ok := (if_neg lost).trans (if_pos revivable)
        rw [done, if_pos rfl]
        refine served_of_owner (kind := 0x10) (owner := fun n s => s.moduleRevive n) (r := .of .ok) hears rfl read
          ((moduleRevive_calm _ _).linkKept (frameBegin_tx s)) (congrArg Prod.snd whole) ?_
        refine (congrArg (·.1.tables) whole).trans ?_
        change (s.frameBegin.withUnit u UnitRec.revived).tables = _
        rw [withUnit_form _ _ UnitRec.revived fun _ => rfl, same, ← withUnit_form _ _ UnitRec.revived fun _ => rfl]
        have heardState : (s.heard.unit u).state = (s.unit u).state := by rw [heard_eq]; rfl
        simp only [State.withUnit, UnitRec.revived]
        exact congrArg (fun st => State.tables { s.heard with units := s.heard.units.set u { s.heard.units[u] with
          state := .probing, cause := some (if st = .absent then ProbeCause.reviveAbsent else .reviveRetired), misses := 0
          attempts := 0, retry := none } }) heardState
      · rw [if_neg revivable] at whole
        have refused : res = .wrongState := (if_neg lost).trans (if_neg revivable)
        rw [refused, if_neg (by decide)]
        exact served_of_refused (kind := 0x10) (owner := fun n s => s.moduleRevive n) hears rfl read whole

/-! ### BIN_DISCARD (R111, R112) -/

/-- The entries without one. -/
def State.withoutDrop (s : State) (d : Nat) : State :=
  s.setBin { s.bin with entries := s.bin.entries.filter fun x => x.number != d }

@[simp] theorem withoutDrop_form (s : State) (d : Nat) : (s.withoutDrop d).tables = s.tables.withoutDrop d := by
  have through : (s.bin.entries.filter fun x => x.number != d).map DropEntry.bare =
      (s.bin.entries.map DropEntry.bare).filter fun x => x.number != d := by
    simp only [List.filter_map, Function.comp_def]; rfl
  simp only [State.withoutDrop, State.setBin, State.tables, through]

/-- An entry that leaves the list, with what rests on the counts judged again (R111). -/
theorem binLeave_form (s : State) (e : DropEntry) :
    (s.binLeave e).tables =
      (if e.state = .inBin then (s.tables.withoutDrop e.number).nearFullJudged else s.tables.withoutDrop e.number).flapJudged := by
  have gone : ((s.withdrawAlert (.bin e.number) [.unslottedKey]).withoutDrop e.number).tables = s.tables.withoutDrop e.number :=
    (withoutDrop_form _ _).trans (congrArg (·.withoutDrop e.number) (withdrawAlert_tables _ _ _))
  unfold State.binLeave
  rw [judgeFlap_form]
  split
  · rw [judgeNearFull_form]
    exact congrArg (fun u => u.nearFullJudged.flapJudged) gone
  · exact congrArg State.flapJudged gone

theorem drop?_number {s : State} {d : Nat} {e : DropEntry} (h : s.drop? d = some e) : e.number = d := by
  have := List.find?_some h
  simpa using this

theorem drop?_frameBegin_eq_none {s : State} {d : Nat} (h : s.drop? d = none) : s.frameBegin.drop? d = none :=
  (drop?_eq_none_congr (frameBegin_tables s) d).mpr (by rw [heard_eq]; exact h)

theorem drop?_frameBegin_eq_some {s : State} {d : Nat} {e : DropEntry} (h : s.drop? d = some e) :
    ∃ c : DropEntry, s.frameBegin.drop? d = some c ∧ c.bare = e.bare :=
  drop?_some_congr (frameBegin_tables s) (by rw [heard_eq]; exact h)

/-- Settles O25: only an IN_HAND entry leaves the list, by `binLeave`. -/
theorem binDiscardRemovesAnEntryInHand : Obligations.BinDiscardRemovesAnEntryInHand := by
  intro s tag body d hears read
  have same := frameBegin_tables s
  refine ⟨fun missing => ?_, fun e found => ?_⟩
  · refine served_of_refused (kind := 0x11) (owner := fun n s => s.binDiscard n) hears rfl read ?_
    rw [State.binDiscard, drop?_frameBegin_eq_none missing]
  · obtain ⟨c, here, bare⟩ := drop?_frameBegin_eq_some found
    have state : c.state = e.state :=
      show c.bare.state = e.bare.state from congrArg DropEntry.state bare
    have number : c.number = d := drop?_number here
    have whole : s.frameBegin.binDiscard d =
        if e.state = .inHand then (s.frameBegin.binLeave c).accept else s.frameBegin.refuse .wrongState := by
      rw [State.binDiscard, here, ← state]
    refine ⟨fun inBin => ?_, fun inHand => ?_⟩
    · refine served_of_refused (kind := 0x11) (owner := fun n s => s.binDiscard n) hears rfl read ?_
      rw [whole, if_neg (by rw [inBin]; decide)]
    · rw [if_pos inHand] at whole
      refine served_of_owner (kind := 0x11) (owner := fun n s => s.binDiscard n) (r := .of .ok) hears rfl read
        ((binDiscard_calm _ _).linkKept (frameBegin_tx s)) (congrArg Prod.snd whole) ?_
      refine (congrArg (·.1.tables) whole).trans ?_
      change (s.frameBegin.binLeave c).tables = _
      rw [binLeave_form, if_neg (by rw [state, inHand]; decide), number, same, flapJudged_form, ← withoutDrop_form]
      rw [heard_eq]
      rfl

end Sys2Proof.Machine
end

section
/-! SUPPORT. The alert fields of the subjects (R131) and the Alert List (R134) through the operations of the Alert Unit: a raise
(R135), a record or mark that goes (R136), and what reports, lamps and the ports leave of them. -/

namespace Sys2Proof.Machine

/-! ### What the alert fields depend on -/

theorem alertOf_congr {s t : State} (conds : t.conds = s.conds) (units : t.units = s.units) (slots : t.slots = s.slots)
    (directory : t.directory = s.directory) (bookings : t.bookings = s.bookings) (bin : t.bin = s.bin) (x : Subject) :
    t.alertOf x = s.alertOf x := by
  cases x <;> simp only [State.alertOf, State.cond, State.unit, State.slot, State.entry?, State.booking?, State.drop?,
    conds, units, slots, directory, bookings, bin]

@[simp] theorem alertOf_setLink (s : State) (l : BranchLink) (x : Subject) : (s.setLink l).alertOf x = s.alertOf x :=
  alertOf_congr rfl rfl rfl rfl rfl rfl x

@[simp] theorem alertOf_setAlerts (s : State) (a : AlertUnit) (x : Subject) : (s.setAlerts a).alertOf x = s.alertOf x :=
  alertOf_congr rfl rfl rfl rfl rfl rfl x

@[simp] theorem alertOf_queueReport (s : State) (b : ReportBody) (x : Subject) : (s.queueReport b).alertOf x = s.alertOf x :=
  alertOf_setLink _ _ x

@[simp] theorem alertOf_putAlertList (s : State) (l : List AlertRec) (x : Subject) : (s.putAlertList l).alertOf x = s.alertOf x :=
  alertOf_congr rfl rfl rfl rfl rfl rfl x

theorem alertOf_putSlot (s : State) (n : SlotNo) (r : SlotRec) (h : r.alert = (s.slot n).alert) (x : Subject) :
    (s.putSlot n r).alertOf x = s.alertOf x := by
  cases x with
  | slot m =>
    by_cases same : n = m
    · subst same; simp [State.alertOf, State.slot, State.putSlot, h]
    · have other : n.val ≠ m.val := fun e => same (Fin.ext e)
      simp [State.alertOf, State.slot, State.putSlot, other]
  | _ => rfl

@[simp] theorem alertOf_wantLamps (s : State) (m : ModIx) (x : Subject) : (s.wantLamps m).alertOf x = s.alertOf x := by
  unfold State.wantLamps
  split
  · exact alertOf_putUnit s (modUnit m) { s.unit (modUnit m) with lampsWanted := true } rfl x
  · rfl

@[simp] theorem alertOf_relamp (s : State) (n : SlotNo) (x : Subject) : (s.relamp n).alertOf x = s.alertOf x := by
  unfold State.relamp
  split
  · rfl
  · exact (alertOf_wantLamps _ _ x).trans (alertOf_putSlot s n { s.slot n with lamp := s.lampOf n } rfl x)

theorem alertOf_relampAll (l : List SlotNo) (s : State) (x : Subject) : (s.relampAll l).alertOf x = s.alertOf x := by
  induction l generalizing s with
  | nil => rfl
  | cons n l ih => exact (ih (s.relamp n)).trans (alertOf_relamp s n x)

@[simp] theorem listed_setLink (s : State) (l : BranchLink) (x : Subject) : (s.setLink l).listed x = s.listed x := rfl

/-! ### Setting the fields of one subject -/

theorem find?_map_same {α : Type} (l : List α) (p : α → Bool) (f : α → α) (hf : ∀ a, p a = true → p (f a) = true) :
    (l.map fun a => if p a then f a else a).find? p = (l.find? p).map f := by
  rw [List.find?_map]
  have through : (p ∘ fun a => if p a then f a else a) = p := by
    funext a
    by_cases h : p a = true
    · simp [h, hf a h]
    · simp [h]
  rw [through]
  cases found : l.find? p with
  | none => rfl
  | some a => simp [List.find?_some found]

theorem find?_map_other {α : Type} (l : List α) (p q : α → Bool) (f : α → α) (hq : ∀ a, q a = true → p a = false ∧ p (f a) = false) :
    (l.map fun a => if q a then f a else a).find? p = l.find? p := by
  rw [List.find?_map]
  have through : (p ∘ fun a => if q a then f a else a) = p := by
    funext a
    by_cases h : q a = true
    · simp [h, (hq a h).1, (hq a h).2]
    · simp [h]
  rw [through]
  cases found : l.find? p with
  | none => rfl
  | some a =>
    have here : q a ≠ true := fun h => by simpa [(hq a h).1] using List.find?_some found
    simp [here]

theorem alertOf_setAlert_self {s : State} {x : Subject} {g : AlertFields} (h : s.alertOf x = some g) (f : AlertFields) :
    (s.setAlert x f).alertOf x = some f := by
  cases x with
  | cabinet c => simp [State.setAlert, State.alertOf, State.putCond, State.cond]
  | module u => simp [State.setAlert, State.alertOf, State.putUnit, State.unit]
  | slot n =>
    simp only [State.setAlert, State.modSlotLamp, alertOf_relamp]
    simp [State.modSlot, State.alertOf, State.putSlot, State.slot]
  | key t =>
    have there := find?_map_same s.directory (fun e => e.tag == t) (fun e => { e with alert := f }) fun _ h => h
    simp only [beq_iff_eq] at there
    obtain ⟨e, found, -⟩ := Option.map_eq_some_iff.mp h
    have found : s.directory.find? (fun e => e.tag == t) = some e := found
    simp only [State.setAlert, State.mapEntry, State.alertOf, State.entry?, State.setDirectory, there, found, Option.map_some]
  | booking b =>
    have there := find?_map_same s.bookings (fun e => e.number == b) (fun e => { e with alert := f }) fun _ h => h
    simp only [beq_iff_eq] at there
    obtain ⟨e, found, -⟩ := Option.map_eq_some_iff.mp h
    have found : s.bookings.find? (fun e => e.number == b) = some e := found
    simp only [State.setAlert, State.mapBooking, State.alertOf, State.booking?, State.setBookings, there, found, Option.map_some]
  | bin d =>
    have there := find?_map_same s.bin.entries (fun e => e.number == d) (fun e => { e with alert := f }) fun _ h => h
    simp only [beq_iff_eq] at there
    obtain ⟨e, found, -⟩ := Option.map_eq_some_iff.mp h
    have found : s.bin.entries.find? (fun e => e.number == d) = some e := found
    simp only [State.setAlert, State.mapDrop, State.alertOf, State.drop?, State.setBin, there, found, Option.map_some]

theorem Condition.ix_val_injective {c d : Condition} (h : c.ix.val = d.ix.val) : c = d := by
  cases c <;> cases d <;> simp_all [Condition.ix]

theorem alertOf_setAlert_ne {x y : Subject} (h : y ≠ x) (s : State) (f : AlertFields) :
    (s.setAlert x f).alertOf y = s.alertOf y := by
  cases x with
  | cabinet c =>
    cases y with
    | cabinet d =>
      have other : c.ix.val ≠ d.ix.val := fun e => h (congrArg _ (Condition.ix_val_injective e).symm)
      simp [State.setAlert, State.alertOf, State.putCond, State.cond, other]
    | _ => rfl
  | module u =>
    cases y with
    | module v =>
      have other : u.val ≠ v.val := fun e => h (congrArg _ (Fin.ext e).symm)
      simp [State.setAlert, State.alertOf, State.putUnit, State.unit, other]
    | _ => rfl
  | slot n =>
    simp only [State.setAlert, State.modSlotLamp, alertOf_relamp]
    cases y with
    | slot m =>
      have other : n.val ≠ m.val := fun e => h (congrArg _ (Fin.ext e).symm)
      simp [State.modSlot, State.alertOf, State.putSlot, State.slot, other]
    | _ => rfl
  | key t =>
    cases y with
    | key k =>
      have other : t ≠ k := fun e => h (congrArg _ e.symm)
      have there := find?_map_other s.directory (fun e => e.tag == k) (fun e => e.tag == t) (fun e => { e with alert := f })
        fun a e => by rw [beq_iff_eq] at e; simp [e, other]
      simp only [beq_iff_eq] at there
      simp only [State.setAlert, State.mapEntry, State.alertOf, State.entry?, State.setDirectory, there]
    | _ => rfl
  | booking b =>
    cases y with
    | booking k =>
      have other : b ≠ k := fun e => h (congrArg _ e.symm)
      have there := find?_map_other s.bookings (fun e => e.number == k) (fun e => e.number == b) (fun e => { e with alert := f })
        fun a e => by rw [beq_iff_eq] at e; simp [e, other]
      simp only [beq_iff_eq] at there
      simp only [State.setAlert, State.mapBooking, State.alertOf, State.booking?, State.setBookings, there]
    | _ => rfl
  | bin d =>
    cases y with
    | bin k =>
      have other : d ≠ k := fun e => h (congrArg _ e.symm)
      have there := find?_map_other s.bin.entries (fun e => e.number == k) (fun e => e.number == d) (fun e => { e with alert := f })
        fun a e => by rw [beq_iff_eq] at e; simp [e, other]
      simp only [beq_iff_eq] at there
      simp only [State.setAlert, State.mapDrop, State.alertOf, State.drop?, State.setBin, there]
    | _ => rfl

/-- Setting alert fields touches neither the Branch Link nor the settings nor the clock. -/
theorem setAlert_kept (s : State) (x : Subject) (f : AlertFields) :
    (s.setAlert x f).link = s.link ∧ (s.setAlert x f).policy = s.policy ∧ (s.setAlert x f).time = s.time := by
  cases x with
  | slot n =>
    have relamped (u : State) : (u.relamp n).link = u.link ∧ (u.relamp n).policy = u.policy ∧ (u.relamp n).time = u.time := by
      unfold State.relamp
      split
      · exact ⟨rfl, rfl, rfl⟩
      · unfold State.wantLamps
        split <;> exact ⟨rfl, rfl, rfl⟩
    exact relamped _
  | _ => exact ⟨rfl, rfl, rfl⟩

theorem setAlert_listed (s : State) (x y : Subject) (f : AlertFields) : (s.setAlert x f).listed y = s.listed y := by
  rw [State.listed, setAlert_alerts]; rfl

end Sys2Proof.Machine
end

section
/-! SUPPORT. A raise takes the first case of R135 that applies. -/

namespace Sys2Proof.Machine

/-! ### Reports behind a busy transmitter (R152) -/

theorem queueReport_link_busy {s : State} (busy : s.linkBusy) (room : s.link.reports.length < 32) (b : ReportBody) :
    (s.queueReport b).link = { s.link with reports := s.link.reports ++ [{ time := s.time, gap := false, body := b }] } := by
  rw [queueReport_busy b busy]
  unfold BranchLink.enqueue
  rw [if_neg (by simp only [Config.reportCap]; omega)]
  rfl

/-- `t` has queued exactly the reports `bs` since `s`, behind a busy transmitter with room for two. -/
def State.addsReports (s t : State) (bs : List ReportBody) : Prop :=
  s.linkBusy → s.link.reports.length ≤ 30 →
    t.link.reports = s.link.reports ++ bs.map fun b => { time := s.time, gap := false, body := b }

theorem addsReports_one {s u : State} (link : u.link = s.link) (time : u.time = s.time) (b : ReportBody) :
    s.addsReports (u.queueReport b) [b] := by
  intro busy room
  have held : u.linkBusy := by rw [State.linkBusy, link]; exact busy
  rw [queueReport_link_busy held (by rw [link]; omega), link, time]
  rfl

theorem addsReports_two {s u : State} (link : u.link = s.link) (time : u.time = s.time) (b b' : ReportBody) :
    s.addsReports ((u.queueReport b).queueReport b') [b, b'] := by
  intro busy room
  have held : u.linkBusy := by rw [State.linkBusy, link]; exact busy
  have first := queueReport_link_busy held (by rw [link]; omega) b
  have still : (u.queueReport b).linkBusy := by
    rw [State.linkBusy, first]; exact held
  rw [queueReport_link_busy still (by rw [first, link]; simp only [List.length_append, List.length_cons, List.length_nil]; omega),
    first, link, show (u.queueReport b).time = s.time from time, time]
  simp

/-! ### The cases of R135 -/

theorem raiseAlert_suppressed {s : State} {x : Subject} {c : AlertClass} {f : AlertFields} (fields : s.alertOf x = some f)
    (quiet : (s.policyOf c).enabled = false ∨ f.acked = some c) : s.raiseAlert x c = s := by
  simp only [State.raiseAlert, fields]
  by_cases off : (s.policyOf c).enabled = false
  · rw [if_pos off]
  · rw [if_neg off, if_pos (quiet.resolve_left off)]

theorem raiseAlert_listed {s : State} {x : Subject} {c : AlertClass} {f : AlertFields} (fields : s.alertOf x = some f)
    (enabled : (s.policyOf c).enabled = true) (fresh : f.acked ≠ some c) {r : AlertRec} (listed : s.listed x = some r) :
    s.raiseAlert x c = s.replaceListed x f r.cls c := by
  simp only [State.raiseAlert, fields, enabled, fresh, listed, Bool.true_eq_false, if_false]

theorem raiseAlert_waiting {s : State} {x : Subject} {c : AlertClass} {f : AlertFields} (fields : s.alertOf x = some f)
    (enabled : (s.policyOf c).enabled = true) (fresh : f.acked ≠ some c) (unlisted : s.listed x = none) (waiting : f.waiting = true) :
    s.raiseAlert x c = ((s.markWaiting x f c).reportReplaced x f.cls true).reportRaised x c s.time true := by
  simp only [State.raiseAlert, fields, enabled, fresh, unlisted, waiting, Bool.true_eq_false, if_false, if_true]

theorem raiseAlert_room {s : State} {x : Subject} {c : AlertClass} {f : AlertFields} (fields : s.alertOf x = some f)
    (enabled : (s.policyOf c).enabled = true) (fresh : f.acked ≠ some c) (unlisted : s.listed x = none) (waiting : f.waiting = false)
    (room : s.alerts.list.length < 8) :
    s.raiseAlert x c = (s.appendRecord x f c s.time).reportRaised x c s.time false := by
  simp only [State.raiseAlert, fields, enabled, fresh, unlisted, waiting, Config.alertCap, room, Bool.true_eq_false,
    Bool.false_eq_true, if_false, if_true]

theorem raiseAlert_full {s : State} {x : Subject} {c : AlertClass} {f : AlertFields} (fields : s.alertOf x = some f)
    (enabled : (s.policyOf c).enabled = true) (fresh : f.acked ≠ some c) (unlisted : s.listed x = none) (waiting : f.waiting = false)
    (full : 8 ≤ s.alerts.list.length) :
    s.raiseAlert x c = (s.markWaiting x f c).reportRaised x c s.time true := by
  simp only [State.raiseAlert, fields, enabled, fresh, unlisted, waiting, Config.alertCap, Nat.not_lt.mpr full, Bool.true_eq_false,
    Bool.false_eq_true, if_false]

@[simp] theorem alertOf_reportReplaced (s : State) (x : Subject) (o : Option AlertClass) (w : Bool) (y : Subject) :
    (s.reportReplaced x o w).alertOf y = s.alertOf y := by
  cases o with
  | none => rfl
  | some c => exact alertOf_queueReport _ _ y

/-- What a raise does to the alert fields: those of its subject take the class, and no others change. -/
theorem raiseAlert_alertOf_ne (s : State) {x y : Subject} (h : y ≠ x) (c : AlertClass) :
    (s.raiseAlert x c).alertOf y = s.alertOf y := by
  have other := fun f => alertOf_setAlert_ne h s f
  cases fields : s.alertOf x with
  | none => simp only [State.raiseAlert, fields]
  | some f =>
    by_cases quiet : (s.policyOf c).enabled = false ∨ f.acked = some c
    · rw [raiseAlert_suppressed fields quiet]
    · simp only [not_or, Bool.not_eq_false] at quiet
      obtain ⟨enabled, fresh⟩ := quiet
      cases listed : s.listed x with
      | some r =>
        rw [raiseAlert_listed fields enabled fresh listed, State.replaceListed, State.reportRaised, alertOf_queueReport,
          alertOf_reportReplaced, alertOf_putAlertList, other]
      | none =>
        cases waiting : f.waiting with
        | true =>
          rw [raiseAlert_waiting fields enabled fresh listed waiting, State.reportRaised, alertOf_queueReport,
            alertOf_reportReplaced, State.markWaiting, other]
        | false =>
          by_cases room : s.alerts.list.length < 8
          · rw [raiseAlert_room fields enabled fresh listed waiting room, State.reportRaised, alertOf_queueReport,
              State.appendRecord, alertOf_putAlertList, other]
          · rw [raiseAlert_full fields enabled fresh listed waiting (Nat.not_lt.mp room), State.reportRaised, alertOf_queueReport,
              State.markWaiting, other]

/-- A raise that nothing suppresses leaves its class with the subject. -/
theorem raiseAlert_cls {s : State} {x : Subject} {c : AlertClass} {f : AlertFields} (fields : s.alertOf x = some f)
    (enabled : (s.policyOf c).enabled = true) (fresh : f.acked ≠ some c) :
    ∃ g : AlertFields, (s.raiseAlert x c).alertOf x = some g ∧ g.cls = some c := by
  have set := fun g => alertOf_setAlert_self fields g
  cases listed : s.listed x with
  | some r =>
    rw [raiseAlert_listed fields enabled fresh listed, State.replaceListed, State.reportRaised, alertOf_queueReport,
      alertOf_reportReplaced, alertOf_putAlertList, set]
    exact ⟨_, rfl, rfl⟩
  | none =>
    cases waiting : f.waiting with
    | true =>
      rw [raiseAlert_waiting fields enabled fresh listed waiting, State.reportRaised, alertOf_queueReport,
        alertOf_reportReplaced, State.markWaiting, set]
      exact ⟨_, rfl, rfl⟩
    | false =>
      by_cases room : s.alerts.list.length < 8
      · rw [raiseAlert_room fields enabled fresh listed waiting room, State.reportRaised, alertOf_queueReport,
          State.appendRecord, alertOf_putAlertList, set]
        exact ⟨_, rfl, rfl⟩
      · rw [raiseAlert_full fields enabled fresh listed waiting (Nat.not_lt.mp room), State.reportRaised, alertOf_queueReport,
          State.markWaiting, set]
        exact ⟨_, rfl, rfl⟩

theorem putAlertList_lines (s : State) (l : List AlertRec) :
    (s.putAlertList l).alerts.lines = (s.putAlertList l).judgedLines := judgeLines_right _

/-- PANEL_CHANGE to OPEN where PANEL_OPEN begins is a raise. -/
theorem panelTo_raises {s : State} (closed : s.mode.panelOpen = false) (session : s.session.remaining = none)
    (overrun : (s.cond .serviceOverrun).active = false) (inactive : (s.cond .panelOpen).active = false) :
    s.panelTo true =
      State.raiseAlert
        (State.condTo { s with pins := { s.pins with panel := true }, mode := { s.mode with panelOpen := true } } .panelOpen true)
        (.cabinet .panelOpen) .panelOpen := by
  let opened : State := { s with pins := { s.pins with panel := true }, mode := { s.mode with panelOpen := true } }
  have wanted : (opened.mode.panelOpen && !opened.inSession && !(opened.cond .serviceOverrun).active) = true := by
    simp only [State.inSession, show opened.session.remaining = none from session,
      show (opened.cond .serviceOverrun).active = false from overrun]
    rfl
  have judged : s.panelTo true = opened.judgePanel := if_neg (by simp [closed])
  rw [judged, State.judgePanel, wanted, State.judgeCond,
    if_neg (by rw [show (opened.cond .panelOpen).active = false from inactive]; decide)]
  rfl

/-- Settles O19: one equation for each case of R135, and PANEL_OPEN's beginning as a raise. -/
theorem aRaiseTakesTheFirstCaseThatApplies : Obligations.ARaiseTakesTheFirstCaseThatApplies := by
  refine ⟨fun s x c f fields => ?_, fun s running closed session overrun inactive =>
    gives_event _ rfl running (panelTo_raises closed session overrun inactive)⟩
  have set := fun g => alertOf_setAlert_self fields g
  have kept := fun g => setAlert_kept s x g
  have policy := fun g => congrArg (fun p : Vector PolicyEntry 16 => p[c.ix]) (kept g).2.1
  intro t info raised adds
  refine ⟨raiseAlert_suppressed fields, fun enabled fresh =>
    ⟨⟨raiseAlert_tables s x c, fun y other => raiseAlert_alertOf_ne s other c⟩, fun r listed => ?_, fun k unlisted waiting cls => ?_,
      fun unlisted idle room => ?_, fun unlisted idle full => ?_⟩⟩
  · let u := (s.setAlert x { f with cls := some c }).putAlertList
      (s.alerts.list.map fun r => if r.subject = x then { r with cls := c, raised := s.time } else r)
    have whole : t = (u.reportCleared x r.cls .replaced false).reportRaised x c s.time false :=
      raiseAlert_listed fields enabled fresh listed
    have count : ∀ k, info k = u.alertInfo x k := fun k => by simp only [info, whole]; rfl
    have reports := addsReports_two (s := s) (u := u) (kept _).1 (kept _).2.2 (.alertCleared (u.alertInfo x r.cls) .replaced false)
      (.alertRaised (u.alertInfo x c) (u.policyOf c).priority s.time false)
    refine ⟨by rw [whole]; rfl, by rw [whole]; exact putAlertList_lines _ _, ?_, ?_⟩
    · rw [whole, State.reportRaised, alertOf_queueReport, State.reportCleared, alertOf_queueReport, alertOf_putAlertList, set]
    · simp only [adds, raised, count]
      rw [whole, show s.policyOf c = u.policyOf c from (policy _).symm]
      exact reports
  · let u := s.markWaiting x f c
    have whole : t = (u.reportReplaced x f.cls true).reportRaised x c s.time true :=
      raiseAlert_waiting fields enabled fresh unlisted waiting
    rw [cls] at whole
    have count : ∀ k, info k = u.alertInfo x k := fun k => by simp only [info, whole]; rfl
    have reports := addsReports_two (s := s) (u := u) (kept _).1 (kept _).2.2 (.alertCleared (u.alertInfo x k) .replaced true)
      (.alertRaised (u.alertInfo x c) (u.policyOf c).priority s.time true)
    refine ⟨by rw [whole]; exact setAlert_alerts _ _ _, ?_, ?_⟩
    · rw [whole, State.reportRaised, alertOf_queueReport, alertOf_reportReplaced]
      exact (set _).trans (by rw [waiting])
    · simp only [adds, raised, count]
      rw [whole, show s.policyOf c = u.policyOf c from (policy _).symm]
      exact reports
  · let u := s.appendRecord x f c s.time
    have whole : t = u.reportRaised x c s.time false := raiseAlert_room fields enabled fresh unlisted idle room
    have count : ∀ k, info k = u.alertInfo x k := fun k => by simp only [info, whole]; rfl
    have reports := addsReports_one (s := s) (u := u) (kept _).1 (kept _).2.2
      (.alertRaised (u.alertInfo x c) (u.policyOf c).priority s.time false)
    refine ⟨by rw [whole]; rfl, by rw [whole]; exact putAlertList_lines _ _, ?_, ?_⟩
    · rw [whole, State.reportRaised, alertOf_queueReport]
      exact (alertOf_putAlertList _ _ x).trans (set _)
    · simp only [adds, raised, count]
      rw [whole, show s.policyOf c = u.policyOf c from (policy _).symm]
      exact reports
  · let u := s.markWaiting x f c
    have whole : t = u.reportRaised x c s.time true := raiseAlert_full fields enabled fresh unlisted idle full
    have count : ∀ k, info k = u.alertInfo x k := fun k => by simp only [info, whole]; rfl
    have reports := addsReports_one (s := s) (u := u) (kept _).1 (kept _).2.2
      (.alertRaised (u.alertInfo x c) (u.policyOf c).priority s.time true)
    refine ⟨by rw [whole]; exact setAlert_alerts _ _ _, ?_, ?_⟩
    · rw [whole, State.reportRaised, alertOf_queueReport]
      exact set _
    · simp only [adds, raised, count]
      rw [whole, show s.policyOf c = u.policyOf c from (policy _).symm]
      exact reports

end Sys2Proof.Machine
end

section
/-! SUPPORT. The alert fields of all subjects as one list, and who waits (R131, R137): what setting a subject's fields does to them,
and what a record or mark that goes leaves behind (R136, R138). -/

namespace Sys2Proof.Machine

/-! ### All subjects with their alert fields -/

/-- Every subject's record with its alert fields, in the order `State.waiters` goes through them. -/
def State.fieldList (s : State) : List (Subject × AlertFields) :=
  (Condition.all.map fun c => (.cabinet c, (s.cond c).alert))
    ++ (allUnits.map fun u => (.module u, (s.unit u).alert))
    ++ ((List.finRange 384).map fun n => (.slot n, (s.slot n).alert))
    ++ (s.directory.map fun e => (.key e.tag, e.alert))
    ++ (s.bookings.map fun b => (.booking b.number, b.alert))
    ++ (s.bin.entries.map fun e => (.bin e.number, e.alert))

theorem waiters_eq (s : State) : s.waiters = s.fieldList.filterMap fun p => waiterOf p.1 p.2 := by
  simp only [State.waiters, State.fieldList, slotList_eq, List.filterMap_append, List.filterMap_map, Function.comp_def]

theorem setAlert_unit_alert (s : State) (x : Subject) (f : AlertFields) (u : UnitIx) :
    ((s.setAlert x f).unit u).alert = if Subject.module u = x then f else (s.unit u).alert := by
  by_cases same : Subject.module u = x
  · subst same
    rw [if_pos rfl]
    exact Option.some.inj (alertOf_setAlert_self (s := s) (x := .module u) rfl f)
  · rw [if_neg same]
    exact Option.some.inj (alertOf_setAlert_ne same s f)

theorem setAlert_cond_alert (s : State) (x : Subject) (f : AlertFields) (c : Condition) :
    ((s.setAlert x f).cond c).alert = if Subject.cabinet c = x then f else (s.cond c).alert := by
  by_cases same : Subject.cabinet c = x
  · subst same
    rw [if_pos rfl]
    exact Option.some.inj (alertOf_setAlert_self (s := s) (x := .cabinet c) rfl f)
  · rw [if_neg same]
    exact Option.some.inj (alertOf_setAlert_ne same s f)

theorem setAlert_slot_alert (s : State) (x : Subject) (f : AlertFields) (n : SlotNo) :
    ((s.setAlert x f).slot n).alert = if Subject.slot n = x then f else (s.slot n).alert := by
  by_cases same : Subject.slot n = x
  · subst same
    rw [if_pos rfl]
    exact Option.some.inj (alertOf_setAlert_self (s := s) (x := .slot n) rfl f)
  · rw [if_neg same]
    exact Option.some.inj (alertOf_setAlert_ne same s f)

theorem relamp_lists (s : State) (n : SlotNo) :
    (s.relamp n).directory = s.directory ∧ (s.relamp n).bookings = s.bookings ∧ (s.relamp n).bin = s.bin := by
  unfold State.relamp
  split
  · exact ⟨rfl, rfl, rfl⟩
  · unfold State.wantLamps
    split <;> exact ⟨rfl, rfl, rfl⟩

/-- Setting the fields of a subject sets them in each record of that subject, and in no other. -/
theorem fieldList_setAlert (s : State) (x : Subject) (f : AlertFields) :
    (s.setAlert x f).fieldList = s.fieldList.map fun p => if p.1 = x then (p.1, f) else p := by
  have pair {α : Type} (y : α → Subject) (g : α → AlertFields) :
      (fun a => (y a, if y a = x then f else g a)) = fun a => if y a = x then (y a, f) else (y a, g a) := by
    funext a; split <;> rfl
  have keys : ((s.setAlert x f).directory.map fun e => (Subject.key e.tag, e.alert)) =
      s.directory.map fun e => if Subject.key e.tag = x then (Subject.key e.tag, f) else (Subject.key e.tag, e.alert) := by
    cases x with
    | key t =>
      simp only [State.setAlert, State.mapEntry, State.setDirectory, List.map_map, Subject.key.injEq]
      refine List.map_congr_left fun e _ => ?_
      by_cases same : e.tag = t <;> simp [same]
    | slot n => rw [State.setAlert, State.modSlotLamp, (relamp_lists _ n).1]; simp [State.modSlot, State.putSlot]
    | _ => simp [State.setAlert, State.putCond, State.putUnit, State.mapBooking, State.mapDrop]
  have bookings : ((s.setAlert x f).bookings.map fun e => (Subject.booking e.number, e.alert)) =
      s.bookings.map fun e => if Subject.booking e.number = x then (Subject.booking e.number, f) else (Subject.booking e.number, e.alert) := by
    cases x with
    | booking t =>
      simp only [State.setAlert, State.mapBooking, State.setBookings, List.map_map, Subject.booking.injEq]
      refine List.map_congr_left fun e _ => ?_
      by_cases same : e.number = t <;> simp [same]
    | slot n => rw [State.setAlert, State.modSlotLamp, (relamp_lists _ n).2.1]; simp [State.modSlot, State.putSlot]
    | _ => simp [State.setAlert, State.putCond, State.putUnit, State.mapEntry, State.mapDrop]
  have drops : ((s.setAlert x f).bin.entries.map fun e => (Subject.bin e.number, e.alert)) =
      s.bin.entries.map fun e => if Subject.bin e.number = x then (Subject.bin e.number, f) else (Subject.bin e.number, e.alert) := by
    cases x with
    | bin t =>
      simp only [State.setAlert, State.mapDrop, State.setBin, List.map_map, Subject.bin.injEq]
      refine List.map_congr_left fun e _ => ?_
      by_cases same : e.number = t <;> simp [same]
    | slot n => rw [State.setAlert, State.modSlotLamp, (relamp_lists _ n).2.2]; simp [State.modSlot, State.putSlot]
    | _ => simp [State.setAlert, State.putCond, State.putUnit, State.mapEntry, State.mapBooking]
  simp only [State.fieldList, setAlert_cond_alert, setAlert_unit_alert, setAlert_slot_alert, keys, bookings, drops, List.map_append,
    List.map_map, Function.comp_def, pair]

theorem waiterOf_idle (x : Subject) {f : AlertFields} (h : f.waiting = false) : waiterOf x f = none := by
  simp [waiterOf, h]

theorem waiterOf_subject {x : Subject} {f : AlertFields} {w : Waiter} (h : waiterOf x f = some w) : w.subject = x := by
  unfold waiterOf at h
  split at h
  · obtain ⟨c, -, rfl⟩ := Option.map_eq_some_iff.mp h; rfl
  · cases h

theorem mem_waiters {s : State} {w : Waiter} :
    w ∈ s.waiters ↔ ∃ f, (w.subject, f) ∈ s.fieldList ∧ waiterOf w.subject f = some w := by
  rw [waiters_eq, List.mem_filterMap]
  constructor
  · rintro ⟨⟨x, f⟩, mem, waits⟩
    have subject := waiterOf_subject waits
    subst subject
    exact ⟨f, mem, waits⟩
  · rintro ⟨f, mem, waits⟩
    exact ⟨_, mem, waits⟩

/-- A subject whose waiting mark is cleared waits no more; the others wait as before. -/
theorem waiters_setAlert (s : State) (x : Subject) {f : AlertFields} (idle : f.waiting = false) :
    (s.setAlert x f).waiters = s.waiters.filter fun w => w.subject != x := by
  rw [waiters_eq, waiters_eq, fieldList_setAlert, List.filterMap_map, List.filter_filterMap]
  refine List.filterMap_congr fun p _ => ?_
  by_cases same : p.1 = x
  · simp only [Function.comp_apply, same, if_true, waiterOf_idle x idle]
    cases waits : waiterOf x p.2 with
    | none => rfl
    | some w => rw [Option.filter_some, if_neg (by simp [waiterOf_subject waits])]
  · simp only [Function.comp_apply, same, if_false]
    cases waits : waiterOf p.1 p.2 with
    | none => rfl
    | some w => rw [Option.filter_some, if_pos (by simp [waiterOf_subject waits, same])]

theorem waiters_setAlerts (s : State) (a : AlertUnit) : (s.setAlerts a).waiters = s.waiters := rfl
theorem waiters_putAlertList (s : State) (l : List AlertRec) : (s.putAlertList l).waiters = s.waiters := rfl
theorem waiters_queueReport (s : State) (b : ReportBody) : (s.queueReport b).waiters = s.waiters := rfl

/-! ### The promotion order -/

theorem insertBy_perm {α : Type} (before : α → α → Bool) (x : α) (l : List α) : (insertBy before x l).Perm (x :: l) := by
  induction l with
  | nil => exact .refl _
  | cons y l ih =>
    rw [insertBy]
    split
    · exact .refl _
    · exact (ih.cons y).trans (.swap x y l)

theorem sortBy_perm {α : Type} (before : α → α → Bool) (l : List α) : (sortBy before l).Perm l := by
  induction l with
  | nil => exact .refl _
  | cons x l ih => exact (insertBy_perm before x _).trans (ih.cons x)

theorem waitersInOrder_perm (s : State) : s.waitersInOrder.Perm s.waiters := sortBy_perm _ _

/-- A waiter is not one whose mark has just been cleared. -/
theorem waiter_ne_of_cleared {s : State} {x : Subject} {f : AlertFields} {w : Waiter} (idle : f.waiting = false)
    (h : w ∈ (s.setAlert x f).waiters) : w.subject ≠ x := by
  rw [waiters_setAlert s x idle] at h
  simpa using (List.mem_filter.mp h).2

/-! ### A record or a mark goes (R136) -/

/-- The fields of a subject whose record or mark has gone. -/
def AlertFields.gone (acked : Option AlertClass) : AlertFields := { cls := none, waiting := false, acked, raised := none }

theorem listed_append_filter {l m : List AlertRec} {x : Subject} (h : ∀ r ∈ m, r.subject ≠ x) :
    ((l.filter fun r => r.subject != x) ++ m).find? (fun r => r.subject == x) = none := by
  rw [List.find?_eq_none]
  intro r mem
  rcases List.mem_append.mp mem with old | new
  · simpa using (List.mem_filter.mp old).2
  · simpa using h r new

/-- The state in which a subject's record has left the list. -/
def State.unlisted (s : State) (x : Subject) (acked : Option AlertClass) : State :=
  (s.setAlert x (.gone acked)).putAlertList (s.alerts.list.filter fun r => r.subject != x)

theorem leaveList_eq (s : State) (x : Subject) (f : AlertFields) (acked : Option AlertClass) (c : AlertClass) (why : ClearReason) :
    s.leaveList x f acked c why = (s.unlisted x acked).afterLeaving x c why := rfl

theorem unlisted_alertOf {s : State} {x : Subject} {g : AlertFields} (h : s.alertOf x = some g) (acked : Option AlertClass) :
    (s.unlisted x acked).alertOf x = some (.gone acked) := by
  rw [State.unlisted, alertOf_putAlertList, alertOf_setAlert_self h]

theorem unlisted_alertOf_ne (s : State) {x y : Subject} (h : y ≠ x) (acked : Option AlertClass) :
    (s.unlisted x acked).alertOf y = s.alertOf y := by
  rw [State.unlisted, alertOf_putAlertList, alertOf_setAlert_ne h]

theorem unlisted_waiters (s : State) (x : Subject) (acked : Option AlertClass) :
    (s.unlisted x acked).waiters = s.waiters.filter fun w => w.subject != x := waiters_setAlert s x rfl

theorem promote_alertOf_ne (s : State) {w : Waiter} {y : Subject} (h : y ≠ w.subject) : (s.promote w).alertOf y = s.alertOf y := by
  unfold State.promote
  split
  · split
    · rw [State.appendRecord, alertOf_putAlertList, alertOf_setAlert_ne h]
    · rfl
  · rfl

theorem promote_list (s : State) (w : Waiter) :
    ∃ m : List AlertRec, (s.promote w).alerts.list = s.alerts.list ++ m ∧ ∀ r ∈ m, r.subject = w.subject := by
  unfold State.promote
  split
  · split
    · exact ⟨[{ subject := w.subject, cls := w.cls, raised := w.raised }], rfl, by simp⟩
    · exact ⟨[], by simp, by simp⟩
  · exact ⟨[], by simp, by simp⟩

/-- Whoever enters the list when a record leaves it, it is another subject. -/
theorem afterLeaving_self {s : State} {x : Subject} (acked : Option AlertClass) (c : AlertClass) (why : ClearReason) :
    ((s.unlisted x acked).afterLeaving x c why).alertOf x = (s.unlisted x acked).alertOf x
      ∧ ((s.unlisted x acked).afterLeaving x c why).listed x = none := by
  have left : ∀ m : List AlertRec, (∀ r ∈ m, r.subject ≠ x) →
      ((s.unlisted x acked).alerts.list ++ m).find? (fun r => r.subject == x) = none := fun m => listed_append_filter
  unfold State.afterLeaving
  cases order : (s.unlisted x acked).waitersInOrder with
  | nil =>
    have none := left [] (by simp)
    rw [List.append_nil] at none
    exact ⟨alertOf_queueReport _ _ _, none⟩
  | cons w others =>
    have waits : w ∈ (s.unlisted x acked).waiters :=
      (waitersInOrder_perm _).mem_iff.mp (by rw [order]; exact List.mem_cons_self)
    have other : w.subject ≠ x := waiter_ne_of_cleared (f := .gone acked) rfl waits
    obtain ⟨m, list, subjects⟩ := promote_list (s.unlisted x acked) w
    refine ⟨?_, ?_⟩
    · exact (alertOf_queueReport _ _ _).trans ((alertOf_queueReport _ _ _).trans (promote_alertOf_ne _ other.symm))
    · have none := left m fun r mem => by rw [subjects r mem]; exact other
      rw [← list] at none
      exact none

/-- A record that leaves the list leaves nothing of its subject but the acknowledged class. -/
theorem leaveList_self {s : State} {x : Subject} {g : AlertFields} (h : s.alertOf x = some g) (f : AlertFields)
    (acked : Option AlertClass) (c : AlertClass) (why : ClearReason) :
    (s.leaveList x f acked c why).alertOf x = some (.gone acked) ∧ (s.leaveList x f acked c why).listed x = none := by
  obtain ⟨fields, unlisted⟩ := afterLeaving_self (s := s) (x := x) acked c why
  exact ⟨fields.trans (unlisted_alertOf h acked), unlisted⟩

/-- So does a mark that is cleared. -/
theorem clearMark_self {s : State} {x : Subject} {g : AlertFields} (h : s.alertOf x = some g) (unlisted : s.listed x = none)
    (f : AlertFields) (acked : Option AlertClass) (c : AlertClass) (why : ClearReason) :
    (s.clearMark x f acked c why).alertOf x = some (.gone acked) ∧ (s.clearMark x f acked c why).listed x = none :=
  ⟨(alertOf_queueReport _ _ _).trans (alertOf_setAlert_self h _), (setAlert_listed s x x _).trans unlisted⟩

/-! ### A withdrawal (R136) -/

theorem ackedAfter_ne (acked : Option AlertClass) {cs : List AlertClass} {c : AlertClass} (h : c ∈ cs) : ackedAfter acked cs ≠ some c := by
  unfold ackedAfter
  split
  · split
    · simp
    · next out => intro same; exact out (Option.some.inj same ▸ h)
  · simp

/-- What a withdrawal writes where the subject has neither a record nor a mark of the classes. -/
def State.ackWithdrawn (s : State) (x : Subject) (f : AlertFields) (acked : Option AlertClass) : State :=
  if acked = f.acked then s else s.setAlert x { f with acked }

theorem ackWithdrawn_self {s : State} {x : Subject} {f : AlertFields} (h : s.alertOf x = some f) (acked : Option AlertClass) :
    (s.ackWithdrawn x f acked).alertOf x = some { f with acked } ∧ (s.ackWithdrawn x f acked).listed x = s.listed x := by
  unfold State.ackWithdrawn
  split
  · next same => subst same; exact ⟨h, rfl⟩
  · exact ⟨alertOf_setAlert_self h _, setAlert_listed s x x _⟩

/-- After a withdrawal no record, no waiting mark and no acknowledged class of the named classes is left on the subject. -/
structure State.Withdrawn (t : State) (x : Subject) (cs : List AlertClass) : Prop where
  record : ∀ a : AlertRec, t.listed x = some a → a.cls ∉ cs
  fields : ∃ f : AlertFields, t.alertOf x = some f ∧ (∀ c ∈ cs, f.acked ≠ some c)
    ∧ (t.listed x = none → f.waiting = true → ∀ c ∈ cs, f.cls ≠ some c)

theorem withdrawn_of_gone {t : State} {x : Subject} {acked : Option AlertClass} (cs : List AlertClass)
    (h : t.alertOf x = some (.gone (ackedAfter acked cs)) ∧ t.listed x = none) : t.Withdrawn x cs where
  record a listed := by rw [h.2] at listed; cases listed
  fields := ⟨_, h.1, fun _ mem => ackedAfter_ne acked mem, fun _ waiting => by simp [AlertFields.gone] at waiting⟩

theorem withdrawAlert_withdrawn {s : State} {x : Subject} {f : AlertFields} (h : s.alertOf x = some f) (cs : List AlertClass) :
    (s.withdrawAlert x cs).Withdrawn x cs := by
  obtain ⟨kept, list⟩ := ackWithdrawn_self h (ackedAfter f.acked cs)
  have left (record : ∀ a : AlertRec, s.listed x = some a → a.cls ∉ cs)
      (mark : s.listed x = none → f.waiting = true → ∀ c ∈ cs, f.cls ≠ some c) :
      (s.ackWithdrawn x f (ackedAfter f.acked cs)).Withdrawn x cs :=
    { record := by rw [list]; exact record
      fields := ⟨_, kept, fun _ mem => ackedAfter_ne f.acked mem, by rw [list]; exact mark⟩ }
  unfold State.withdrawAlert
  rw [h]
  dsimp only
  split
  · next r listed =>
    split
    · exact withdrawn_of_gone cs (leaveList_self h f _ _ _)
    · next out =>
      exact left (fun a same => by rw [listed] at same; cases same; exact out) (fun none => by rw [listed] at none; cases none)
  · next listed =>
    have record : ∀ a : AlertRec, s.listed x = some a → a.cls ∉ cs := fun a same => by rw [listed] at same; cases same
    split
    · next k cls =>
      split
      · exact withdrawn_of_gone cs (clearMark_self h listed f _ _ _)
      · next out =>
        refine left record fun _ waiting c mem same => out ⟨waiting, ?_⟩
        rw [cls] at same
        exact Option.some.inj same ▸ mem
    · next cls => exact left record fun _ _ c _ => by rw [cls]; simp

/-! ### SLOT_CLEAR (R53) -/

/-- A slot record as SLOT_CLEAR leaves it. -/
def SlotRec.cleared (r : SlotRec) : SlotRec :=
  { r with
    faults := { coilOpen := false, coilShort := false, latchJammed := false, sensorChatter := false, manual := false }
    slow := 0, chatter := 0, chatterStart := none, service := .inService }

/-- The module's quarantined count with one less. -/
def UnitRec.oneLess (r : UnitRec) : UnitRec := { r with quarantined := r.quarantined - 1 }

/-- The state SLOT_CLEAR withdraws SLOT_FAULT in. -/
def State.slotCleared (s : State) (n : SlotNo) : State :=
  let s1 := s.modSlotLamp n SlotRec.cleared
  if (s.slot n).service = .quarantined then s1.withUnit (modUnit (moduleOf n)) UnitRec.oneLess else s1

theorem clearSlot_eq (s : State) (n : SlotNo) : s.clearSlot n = (s.slotCleared n).withdrawAlert (.slot n) [.slotFault] := rfl

theorem slotCleared_tables (s : State) (n : SlotNo) :
    (s.slotCleared n).tables =
      (s.tables.withSlot n SlotRec.cleared).withUnit (modUnit (moduleOf n)) fun r =>
        { r with quarantined := if (s.slot n).service = .quarantined then r.quarantined - 1 else r.quarantined } := by
  unfold State.slotCleared
  by_cases was : (s.slot n).service = .quarantined
  · simp only [was, if_true]
    rw [withUnit_form _ _ UnitRec.oneLess fun _ => rfl, modSlotLamp_form _ _ SlotRec.cleared fun _ => rfl]
    rfl
  · simp only [was, if_false]
    rw [modSlotLamp_form _ _ SlotRec.cleared fun _ => rfl]
    exact (withUnit_id _ _).symm

theorem clearSlot_tables (s : State) (n : SlotNo) :
    (s.clearSlot n).tables =
      (s.tables.withSlot n SlotRec.cleared).withUnit (modUnit (moduleOf n)) fun r =>
        { r with quarantined := if (s.slot n).service = .quarantined then r.quarantined - 1 else r.quarantined } := by
  rw [clearSlot_eq, withdrawAlert_tables, slotCleared_tables]

theorem slotOnline_iff (s : State) (n : SlotNo) : s.slotOnline n = true ↔ (s.unit (modUnit (moduleOf n))).state = .online :=
  beq_iff_eq

theorem slot_service_congr {s t : State} (h : s.tables = t.tables) (n : SlotNo) : (s.slot n).service = (t.slot n).service :=
  show (s.slot n).bare.service = (t.slot n).bare.service from congrArg SlotRec.service (slot_bare h n)

/-- Settles O22: `withdrawAlert_withdrawn` says what is left of SLOT_FAULT. -/
theorem slotClearReturnsASlotToService : Obligations.SlotClearReturnsASlotToService := by
  intro s tag body n hears read
  have same := frameBegin_tables s
  refine ⟨fun high => ?_, fun m number => ?_⟩
  · refine served_of_refused (kind := 0x0E) (owner := fun n s => s.slotClear n) hears rfl read ?_
    exact dif_neg (by omega)
  · subst number
    have online : s.frameBegin.slotOnline m = true ↔ (s.unit (modUnit (moduleOf m))).state = .online := by
      rw [slotOnline_iff, unit_state_congr same, heard_eq]; rfl
    have whole : s.frameBegin.slotClear m.val =
        if s.frameBegin.slotOnline m then (s.frameBegin.clearSlot m).accept else s.frameBegin.refuse .slotOffline := dif_pos m.isLt
    refine ⟨fun off => ?_, fun on => ?_⟩
    · refine served_of_refused (kind := 0x0E) (owner := fun n s => s.slotClear n) hears rfl read ?_
      exact whole.trans (if_neg fun h => off (online.mp h))
    · rw [if_pos (online.mpr on)] at whole
      obtain ⟨reached, answered⟩ := answered_of_owner (i := .slotClear tag body) (kind := 0x0E) (tag := tag)
        (owner := fun n s => s.slotClear n) (r := .of .ok)
        (u := ((s.heard.withSlot m SlotRec.cleared).withUnit (modUnit (moduleOf m)) fun r =>
          { r with quarantined := if (s.slot m).service = .quarantined then r.quarantined - 1 else r.quarantined }))
        hears rfl read ((slotClear_calm _ _).linkKept (frameBegin_tx s)) (congrArg Prod.snd whole) (by
          refine (congrArg (·.1.tables) whole).trans ((clearSlot_tables _ _).trans ?_)
          have service : (s.frameBegin.slot m).service = (s.slot m).service := by
            rw [slot_service_congr same, heard_eq]; rfl
          rw [withUnit_form _ _ (fun r : UnitRec =>
              { r with quarantined := if (s.slot m).service = .quarantined then r.quarantined - 1 else r.quarantined }) fun _ => rfl,
            withSlot_form _ _ SlotRec.cleared fun _ => rfl, same, service])
      have left := withdrawAlert_withdrawn (s := s.frameBegin.slotCleared m) (x := .slot m) (f := ((s.frameBegin.slotCleared m).slot m).alert)
        rfl [.slotFault]
      obtain ⟨f, fields, acked, mark⟩ := left.fields
      refine ⟨_, reached, answered, fun a listed => ?_, f, ?_, acked _ List.mem_cons_self, fun unlisted waiting => ?_⟩
      · rw [finish_listed, whole] at listed
        simpa using left.record a listed
      · rw [finish_alertOf, whole]; exact fields
      · rw [finish_listed, whole] at unlisted
        exact mark unlisted waiting _ List.mem_cons_self

end Sys2Proof.Machine
end

section
/-! SUPPORT. ALERT_ACK (R138) and the promotion it can lead to (R137). -/

namespace Sys2Proof.Machine

/-! ### No two records of one subject -/

/-- No two records have the same subject. -/
def State.subjectsApart (s : State) : Prop := (s.fieldList.map Prod.fst).Nodup

theorem nodup_of_ascending {l : List Nat} (h : l.Pairwise (· < ·)) : l.Nodup := h.imp fun lt => Nat.ne_of_lt lt

theorem subjectsApart_of_ordered {s : State} (ordered : s.tablesOrdered) (drops : (s.bin.entries.map (·.number)).Nodup) :
    s.subjectsApart := by
  obtain ⟨tags, numbers⟩ := ordered
  have conds : (Condition.all.map Subject.cabinet).Nodup := by decide
  have units : (allUnits.map Subject.module).Nodup := by decide
  have slots : ((List.finRange 384).map Subject.slot).Nodup := (List.nodup_finRange 384).map fun _ _ e => Subject.slot.inj e
  have keys : (s.directory.map fun e => Subject.key e.tag).Nodup := by
    simpa [Function.comp_def] using (nodup_of_ascending tags).map (f := Subject.key) fun _ _ e => Subject.key.inj e
  have bookings : (s.bookings.map fun b => Subject.booking b.number).Nodup := by
    simpa [Function.comp_def] using (nodup_of_ascending numbers).map (f := Subject.booking) fun _ _ e => Subject.booking.inj e
  have bin : (s.bin.entries.map fun e => Subject.bin e.number).Nodup := by
    simpa [Function.comp_def] using drops.map (f := Subject.bin) fun _ _ e => Subject.bin.inj e
  have apart : s.subjectsApart = ((Condition.all.map Subject.cabinet ++ allUnits.map Subject.module
      ++ (List.finRange 384).map Subject.slot ++ (s.directory.map fun e => Subject.key e.tag)
      ++ (s.bookings.map fun b => Subject.booking b.number) ++ s.bin.entries.map fun e => Subject.bin e.number).Nodup) := by
    simp only [State.subjectsApart, State.fieldList, List.map_append, List.map_map, Function.comp_def]
  rw [apart]
  refine List.Nodup.append (List.Nodup.append (List.Nodup.append (List.Nodup.append (List.Nodup.append conds units ?_) slots ?_)
    keys ?_) bookings ?_) bin ?_ <;>
  · intro x left right
    simp only [List.mem_append, List.mem_map] at left right
    grind

theorem find?_of_mem {α : Type} (key : α → Nat) {l : List α} (h : (l.map key).Nodup) {a : α} (mem : a ∈ l) :
    l.find? (fun b => key b == key a) = some a := by
  induction l with
  | nil => cases mem
  | cons b l ih =>
    rw [List.map_cons, List.nodup_cons] at h
    rcases List.mem_cons.mp mem with rfl | mem
    · exact List.find?_cons_of_pos (by simp)
    · have other : key b ≠ key a := fun same => h.1 (same ▸ List.mem_map_of_mem mem)
      rw [List.find?_cons_of_neg (by simpa using other), ih h.2 mem]

/-- Where the tables are in order, the fields of a record are those of its subject. -/
theorem alertOf_of_mem {s : State} (ordered : s.tablesOrdered) (drops : (s.bin.entries.map (·.number)).Nodup) {x : Subject}
    {f : AlertFields} (mem : (x, f) ∈ s.fieldList) : s.alertOf x = some f := by
  obtain ⟨tags, numbers⟩ := ordered
  simp only [State.fieldList, List.mem_append, List.mem_map, Prod.mk.injEq] at mem
  obtain ((((⟨c, -, rfl, rfl⟩ | ⟨u, -, rfl, rfl⟩) | ⟨n, -, rfl, rfl⟩) | ⟨e, mem, rfl, rfl⟩) | ⟨b, mem, rfl, rfl⟩) | ⟨e, mem, rfl, rfl⟩ := mem
  · rfl
  · rfl
  · rfl
  · exact congrArg (Option.map KeyEntry.alert) (find?_of_mem KeyEntry.tag (nodup_of_ascending tags) mem)
  · exact congrArg (Option.map Booking.alert) (find?_of_mem Booking.number (nodup_of_ascending numbers) mem)
  · exact congrArg (Option.map DropEntry.alert) (find?_of_mem DropEntry.number drops mem)

/-! ### Who waits -/

theorem waiters_subjects_nodup {s : State} (apart : s.subjectsApart) : (s.waiters.map Waiter.subject).Nodup := by
  have sub : List.Sublist (s.waiters.map Waiter.subject) (s.fieldList.map Prod.fst) := by
    rw [waiters_eq]
    induction s.fieldList with
    | nil => exact .slnil
    | cons p l ih =>
      cases waits : waiterOf p.1 p.2 with
      | none => rw [List.filterMap_cons_none (f := fun p : Subject × AlertFields => waiterOf p.1 p.2) waits]; exact ih.cons _
      | some w =>
        rw [List.filterMap_cons_some (f := fun p : Subject × AlertFields => waiterOf p.1 p.2) waits, List.map_cons, List.map_cons, waiterOf_subject waits]
        exact ih.cons_cons _
  exact sub.nodup apart

/-- Where subjects are apart, taking the subject at the head out of the waiters leaves the rest. -/
theorem waiters_length_filter {s : State} (apart : s.subjectsApart) {w : Waiter} {others : List Waiter}
    (order : s.waitersInOrder = w :: others) : (s.waiters.filter fun v => v.subject != w.subject).length = others.length := by
  have perm : (w :: others).Perm s.waiters := order ▸ waitersInOrder_perm s
  have nodup : ((w :: others).map Waiter.subject).Nodup := (perm.map _).nodup_iff.mpr (waiters_subjects_nodup apart)
  rw [List.map_cons, List.nodup_cons] at nodup
  rw [(perm.symm.filter _).length_eq, List.filter_cons_of_neg (by simp), List.filter_eq_self.mpr]
  intro v mem
  have other : v.subject ≠ w.subject := fun same => nodup.1 (same ▸ List.mem_map_of_mem mem)
  simpa using other

/-- Where the tables are in order, a subject that does not wait is no waiter. -/
theorem no_waiter_of_idle {s : State} (ordered : s.tablesOrdered) (drops : (s.bin.entries.map (·.number)).Nodup) {x : Subject}
    {f : AlertFields} (fields : s.alertOf x = some f) (idle : f.waiting = false) :
    (s.waiters.filter fun w => w.subject != x) = s.waiters := by
  rw [List.filter_eq_self]
  intro w mem
  obtain ⟨g, there, waits⟩ := mem_waiters.mp mem
  have other : w.subject ≠ x := by
    rintro rfl
    rw [alertOf_of_mem ordered drops there] at fields
    cases fields
    rw [waiterOf_idle _ idle] at waits
    cases waits
  simpa using other

theorem promotesBefore_congr {s t : State} (h : t.policy = s.policy) : t.promotesBefore = s.promotesBefore := by
  unfold State.promotesBefore State.policyOf
  rw [h]

/-! ### What leaves the list, and who enters it (R137, R138) -/

theorem unlisted_policy (s : State) (x : Subject) (acked : Option AlertClass) : (s.unlisted x acked).policy = s.policy :=
  (setAlert_kept s x (.gone acked)).2.1

theorem unlisted_list (s : State) (x : Subject) (acked : Option AlertClass) :
    (s.unlisted x acked).alerts.list = s.alerts.list.filter fun r => r.subject != x := rfl

theorem unlisted_calm (s : State) (x : Subject) (acked : Option AlertClass) : Calm s (s.unlisted x acked) :=
  (setAlert_calm _ _ _).trans (putAlertList_calm _ _ (by
    rw [setAlert_alerts]; exact (List.length_filter_le _ _).trans (Nat.le_max_right _ _)))

theorem afterLeaving_nil {s : State} (order : s.waitersInOrder = []) (x : Subject) (c : AlertClass) (why : ClearReason) :
    s.afterLeaving x c why = s.reportCleared x c why false := by
  rw [State.afterLeaving, order]

theorem afterLeaving_cons {s : State} {w : Waiter} {others : List Waiter} (order : s.waitersInOrder = w :: others) (x : Subject)
    (c : AlertClass) (why : ClearReason) :
    s.afterLeaving x c why = ((s.promote w).reportCleared x c why false).reportListed w := by
  rw [State.afterLeaving, order]

theorem promote_of_room {s : State} {w : Waiter} {g : AlertFields} (fields : s.alertOf w.subject = some g)
    (room : s.alerts.list.length < 8) : s.promote w = s.appendRecord w.subject g w.cls w.raised := by
  rw [State.promote, fields]
  exact if_pos room

theorem appendRecord_waiters (s : State) (x : Subject) (f : AlertFields) (c : AlertClass) (raised : Option Nat) :
    (s.appendRecord x f c raised).waiters = s.waiters.filter fun w => w.subject != x := waiters_setAlert s x rfl

/-! ### The cases of ALERT_ACK -/

theorem ackAlert_missing {s : State} {x : Subject} (h : s.alertOf x = none) : s.ackAlert x = none := by
  rw [State.ackAlert, h]

theorem ackAlert_idle {s : State} {x : Subject} {f : AlertFields} (fields : s.alertOf x = some f) (unlisted : s.listed x = none)
    (idle : f.waiting = false) : s.ackAlert x = none := by
  rw [State.ackAlert, fields]
  dsimp only
  rw [unlisted]
  dsimp only
  split
  · exact if_neg (by simp [idle])
  · rfl

theorem ackAlert_record {s : State} {x : Subject} {f : AlertFields} {r : AlertRec} (fields : s.alertOf x = some f)
    (listed : s.listed x = some r) :
    s.ackAlert x = some (r.cls, s.leaveList x f (some r.cls) r.cls .acknowledged) := by
  rw [State.ackAlert, fields]
  dsimp only
  rw [listed]

theorem ackAlert_mark {s : State} {x : Subject} {f : AlertFields} {c : AlertClass} (fields : s.alertOf x = some f)
    (unlisted : s.listed x = none) (waiting : f.waiting = true) (cls : f.cls = some c) :
    s.ackAlert x = some (c, s.clearMark x f (some c) c .acknowledged) := by
  rw [State.ackAlert, fields]
  dsimp only
  rw [unlisted]
  dsimp only
  split
  · next k mark => rw [mark] at cls; cases cls; exact if_pos waiting
  · next bare => rw [bare] at cls; cases cls

theorem alertAck_some {s t : State} {r : PairReq} {x : Subject} {c : AlertClass} (subject : Subject.ofWire r.first r.second = some x)
    (acked : s.ackAlert x = some (c, t)) : s.alertAck r = (t, .ok (.ackedClass c)) := by
  simp only [State.alertAck, subject, acked]

theorem alertAck_none {s : State} {r : PairReq} {x : Subject} (subject : Subject.ofWire r.first r.second = some x)
    (nothing : s.ackAlert x = none) : s.alertAck r = s.refuse .notFound := by
  simp only [State.alertAck, subject, nothing]

/-- What ALERT_ACK of a subject with a record or a mark does, as far as its answer goes. -/
theorem ackAlert_some {s : State} {x : Subject} {f : AlertFields} {c : AlertClass} (fields : s.alertOf x = some f)
    (there : (∃ a : AlertRec, s.listed x = some a ∧ a.cls = c) ∨ (s.listed x = none ∧ f.waiting = true ∧ f.cls = some c)) :
    ∃ t : State, s.ackAlert x = some (c, t) ∧ t.alertOf x = some (.gone (some c)) ∧ t.listed x = none
      ∧ (s.listed x = none → t = s.clearMark x f (some c) c .acknowledged)
      ∧ (s.listed x ≠ none → t = (s.unlisted x (some c)).afterLeaving x c .acknowledged) := by
  rcases there with ⟨a, listed, rfl⟩ | ⟨unlisted, waiting, cls⟩
  · obtain ⟨gone, out⟩ := leaveList_self fields f (some a.cls) a.cls .acknowledged
    exact ⟨_, ackAlert_record fields listed, gone, out, fun unlisted => absurd unlisted (by simp [listed]), fun _ => rfl⟩
  · obtain ⟨gone, out⟩ := clearMark_self fields unlisted f (some c) c .acknowledged
    exact ⟨_, ackAlert_mark fields unlisted waiting cls, gone, out, fun _ => rfl, fun listed => absurd unlisted listed⟩

theorem map_through_bare {α β : Type} (bare : α → α) (f : α → β) (hf : ∀ a, f (bare a) = f a) {l m : List α}
    (h : l.map bare = m.map bare) : l.map f = m.map f := by
  have each (k : List α) : k.map f = (k.map bare).map f := by simp [Function.comp_def, hf]
  rw [each l, h, ← each m]

theorem tablesOrdered_congr {s t : State} (h : s.tables = t.tables) (ordered : t.tablesOrdered) : s.tablesOrdered := by
  rw [State.tablesOrdered, map_through_bare KeyEntry.bare (·.tag) (fun _ => rfl) (directory_bare h),
    map_through_bare Booking.bare (·.number) (fun _ => rfl) (bookings_bare h)]
  exact ordered

theorem dropNumbers_congr {s t : State} (h : s.tables = t.tables) : s.bin.entries.map (·.number) = t.bin.entries.map (·.number) :=
  map_through_bare DropEntry.bare (·.number) (fun _ => rfl) (entries_bare h)

/-! ### What a record leaves behind -/

/-- A waiter's fields in the state a record of another subject has left. -/
theorem waiter_fields {s : State} (ordered : s.tablesOrdered) (drops : (s.bin.entries.map (·.number)).Nodup) {w : Waiter}
    {others : List Waiter} (order : s.waitersInOrder = w :: others) : ∃ g, s.alertOf w.subject = some g := by
  have waits : w ∈ s.waiters := (waitersInOrder_perm s).mem_iff.mp (by rw [order]; exact List.mem_cons_self)
  obtain ⟨g, there, -⟩ := mem_waiters.mp waits
  exact ⟨g, alertOf_of_mem ordered drops there⟩

theorem filter_listed_lt {s : State} {x : Subject} (listed : s.listed x ≠ none) :
    (s.alerts.list.filter fun r => r.subject != x).length < s.alerts.list.length := by
  obtain ⟨r, found⟩ := Option.ne_none_iff_exists'.mp listed
  refine List.length_filter_lt_length_iff_exists.mpr ⟨r, List.mem_of_find?_eq_some found, ?_⟩
  have := List.find?_some found
  simpa using this

/-- The waiters once a record of a subject without a mark has left: the same, in the same order. -/
theorem unlisted_waiters_of_idle {s : State} (ordered : s.tablesOrdered) (drops : (s.bin.entries.map (·.number)).Nodup) {x : Subject}
    {f : AlertFields} (fields : s.alertOf x = some f) (idle : f.waiting = false) (acked : Option AlertClass) :
    (s.unlisted x acked).waiters = s.waiters ∧ (s.unlisted x acked).waitersInOrder = s.waitersInOrder := by
  have same : (s.unlisted x acked).waiters = s.waiters := by
    rw [unlisted_waiters, no_waiter_of_idle ordered drops fields idle]
  refine ⟨same, ?_⟩
  rw [State.waitersInOrder, same, promotesBefore_congr (unlisted_policy _ _ _)]
  rfl

/-- Nobody waits: the record leaves the list, and ALERT_CLEARED is reported. -/
theorem leaving_alone {s : State} (ordered : s.tablesOrdered) (drops : (s.bin.entries.map (·.number)).Nodup) {x : Subject}
    {f : AlertFields} (fields : s.alertOf x = some f) (idle : f.waiting = false) (busy : s.link.tx ≠ .idle)
    (order : s.waitersInOrder = []) (acked : Option AlertClass) (c : AlertClass) (why : ClearReason) :
    let rest := s.alerts.list.filter fun r => r.subject != x
    ((s.unlisted x acked).afterLeaving x c why).alerts.list = rest
      ∧ ((s.unlisted x acked).afterLeaving x c why).lastReport = some
        (.alertCleared { subject := x, cls := c, listLen := rest.length, waitLen := 0 } why false) := by
  obtain ⟨waiting, inOrder⟩ := unlisted_waiters_of_idle ordered drops fields idle acked
  have nobody : s.waiters = [] := (order ▸ waitersInOrder_perm s).nil_eq.symm
  have held : (s.unlisted x acked).link.tx ≠ .idle := by rw [((unlisted_calm s x acked).held busy).1]; exact busy
  rw [afterLeaving_nil (inOrder.trans order)]
  refine ⟨rfl, (queueReport_lastReport _ held).trans ?_⟩
  rw [State.alertInfo, waiting, nobody]
  rfl

/-- The first who waits enters the list, and ALERT_LISTED is reported last. -/
theorem leaving_promotes {s : State} (ordered : s.tablesOrdered) (drops : (s.bin.entries.map (·.number)).Nodup) {x : Subject}
    {f : AlertFields} (fields : s.alertOf x = some f) (idle : f.waiting = false) (busy : s.link.tx ≠ .idle)
    (listed : s.listed x ≠ none) (bounded : s.alerts.list.length ≤ 8) {w : Waiter} {others : List Waiter}
    (order : s.waitersInOrder = w :: others) (acked : Option AlertClass) (c : AlertClass) (why : ClearReason) :
    let rest := s.alerts.list.filter fun r => r.subject != x
    let t := (s.unlisted x acked).afterLeaving x c why
    t.alerts.list = rest ++ [{ subject := w.subject, cls := w.cls, raised := w.raised }]
      ∧ (∃ g : AlertFields, s.alertOf w.subject = some g ∧ t.alertOf w.subject =
          some { cls := some w.cls, waiting := false, acked := g.acked, raised := none })
      ∧ t.lastReport = some (.alertListed
          { subject := w.subject, cls := w.cls, listLen := rest.length + 1, waitLen := others.length }
          (s.policyOf w.cls).priority w.raised) := by
  obtain ⟨waiting, inOrder⟩ := unlisted_waiters_of_idle ordered drops fields idle acked
  obtain ⟨g, there⟩ := waiter_fields ordered drops order
  have other : w.subject ≠ x := by
    rintro rfl
    have waits : w ∈ s.waiters := (waitersInOrder_perm s).mem_iff.mp (by rw [order]; exact List.mem_cons_self)
    rw [← waiting] at waits
    exact waiter_ne_of_cleared (f := .gone acked) rfl waits rfl
  have now : (s.unlisted x acked).alertOf w.subject = some g := (unlisted_alertOf_ne s other acked).trans there
  have room : (s.unlisted x acked).alerts.list.length < 8 := (filter_listed_lt listed).trans_le bounded
  have count : ((s.unlisted x acked).promote w).waiters.length = others.length := by
    rw [promote_of_room now room, appendRecord_waiters, waiting]
    exact waiters_length_filter (subjectsApart_of_ordered ordered drops) order
  have held : ((s.unlisted x acked).promote w).link.tx ≠ .idle := by
    rw [(((unlisted_calm s x acked).trans (promote_calm _ w)).held busy).1]; exact busy
  have policy : ((s.unlisted x acked).promote w).policyOf w.cls = s.policyOf w.cls :=
    congrArg (fun p : Vector PolicyEntry 16 => p[w.cls.ix]) (((unlisted_calm s x acked).trans (promote_calm _ w)).policy)
  have list : ((s.unlisted x acked).promote w).alerts.list =
      (s.alerts.list.filter fun r => r.subject != x) ++ [{ subject := w.subject, cls := w.cls, raised := w.raised }] := by
    rw [promote_of_room now room]; rfl
  intro rest t
  have whole : t = (((s.unlisted x acked).promote w).reportCleared x c why false).reportListed w :=
    afterLeaving_cons (inOrder.trans order) x c why
  refine ⟨by rw [whole]; exact list, ⟨g, there, ?_⟩, ?_⟩
  · rw [whole]
    refine (alertOf_queueReport _ _ _).trans ((alertOf_queueReport _ _ _).trans ?_)
    rw [promote_of_room now room, State.appendRecord, alertOf_putAlertList, alertOf_setAlert_self now]
  · have reported : (((s.unlisted x acked).promote w).reportCleared x c why false).link.tx ≠ .idle := by
      rw [((reportCleared_calm _ x c why false).held held).1]; exact held
    rw [whole]
    refine (queueReport_lastReport _ reported).trans ?_
    have info : (((s.unlisted x acked).promote w).reportCleared x c why false).alertInfo w.subject w.cls =
        { subject := w.subject, cls := w.cls, listLen := rest.length + 1, waitLen := others.length } := by
      have length : ((s.unlisted x acked).promote w).alerts.list.length = rest.length + 1 := by rw [list]; simp [rest]
      exact congr (congrArg (AlertInfo.mk w.subject w.cls) length) count
    rw [info]
    exact congrArg (fun p : PolicyEntry => some (ReportBody.alertListed _ p.priority w.raised)) policy

/-- Settles O20: the four cases of `ackAlert`; `leaving_alone` and `leaving_promotes` say what a record that leaves brings. -/
theorem alertAckTakesTheRecordOrMark : Obligations.AlertAckTakesTheRecordOrMark := by
  intro s tag body r hears read
  have same := frameBegin_tables s
  refine ⟨fun bad => ?_, fun x subject => ⟨fun missing => ?_, fun f fields => ⟨fun unlisted idle => ?_, fun c there => ?_⟩⟩⟩
  · refine served_of_refused (kind := 0x0B) (owner := fun r s => s.alertAck r) hears rfl read ?_
    simp only [State.alertAck, bad]
  · exact served_of_refused (kind := 0x0B) (owner := fun r s => s.alertAck r) hears rfl read
      (alertAck_none subject (ackAlert_missing missing))
  · exact served_of_refused (kind := 0x0B) (owner := fun r s => s.alertAck r) hears rfl read
      (alertAck_none subject (ackAlert_idle fields unlisted idle))
  · obtain ⟨t, acked, gone, out, mark, record⟩ := ackAlert_some fields there
    have whole := alertAck_some subject acked
    have begun := frameBegin_tx s
    have held : t.link.tx ≠ .idle := by rw [((ackAlert_calm _ _ _ _ acked).held begun).1]; exact begun
    obtain ⟨reached, answered⟩ := answered_of_owner (i := .alertAck tag body) (kind := 0x0B) (tag := tag)
      (owner := fun r s => s.alertAck r) (r := .ok (.ackedClass c)) (u := s.heard) hears rfl read
      ((alertAck_calm _ _).linkKept begun) (congrArg Prod.snd whole)
      ((congrArg (·.1.tables) whole).trans ((ackAlert_tables _ _ _ _ acked).trans same))
    have ends : (s.frameBegin.alertAck r).1 = t := congrArg Prod.fst whole
    rw [ends] at reached answered
    refine ⟨_, reached, answered, (finish_alertOf _ _ x).trans gone, (finish_listed _ _ x).trans out, fun unlisted => ?_,
      fun listed idle bounded ordered drops => ?_⟩
    · rw [finish_lastReport _ held, finish_alerts, finish_waiters, mark unlisted]
      refine queueReport_lastReport _ ?_
      rw [(setAlert_kept s.frameBegin x _).1]; exact begun
    · rw [finish_lastReport _ held, finish_alerts]
      have orderedNow : s.frameBegin.tablesOrdered := tablesOrdered_congr same (by rw [heard_eq]; exact ordered)
      have dropsNow : (s.frameBegin.bin.entries.map (·.number)).Nodup := by
        rw [dropNumbers_congr same, heard_eq]; exact drops
      have boundedNow : s.frameBegin.alerts.list.length ≤ 8 := by
        have kept : s.frameBegin.alerts.list.length ≤ max 8 s.alerts.list.length := (frameBegin_calm s).list
        rw [State.alertListBounded] at bounded
        omega
      refine ⟨fun nobody => ?_, fun w others order => ?_⟩
      · rw [record listed]
        exact leaving_alone orderedNow dropsNow fields idle begun nobody (some c) c .acknowledged
      · have policy : s.frameBegin.policyOf w.cls = s.policyOf w.cls :=
          congrArg (fun p : Vector PolicyEntry 16 => p[w.cls.ix]) (frameBegin_kept s).2.2.2.2.2.1
        rw [finish_alertOf, record listed, ← policy]
        exact leaving_promotes orderedNow dropsNow fields idle begun listed boundedNow order (some c) c .acknowledged

end Sys2Proof.Machine
end

section
/-! SUPPORT. What a raise or a withdrawal can touch, as one rule over the three updates it is made of; and the end that release events
share: a report, and the notice of a kiosk release (R97, R98). -/

namespace Sys2Proof.Machine

/-! ### A rule for alert operations -/

/-- A predicate kept by the three updates a raise and a withdrawal are made of, with a count of the reports queued on the way. -/
structure AlertCounts (P : Nat → State → Prop) : Prop where
  fields : ∀ {k : Nat} (u : State) (x : Subject) (f : AlertFields), P k u → P k (u.setAlert x f)
  list : ∀ {k : Nat} (u : State) (l : List AlertRec), P k u → P k (u.putAlertList l)
  report : ∀ {k : Nat} (u : State) (b : ReportBody), P k u → P (k + 1) (u.queueReport b)
  more : ∀ {k : Nat} (u : State), P k u → P (k + 1) u

namespace AlertCounts

variable {P : Nat → State → Prop} (K : AlertCounts P)
include K

theorem replaced {k : Nat} {s : State} (x : Subject) (o : Option AlertClass) (w : Bool) (h : P k s) :
    P (k + 1) (s.reportReplaced x o w) := by
  cases o with
  | none => exact K.more _ h
  | some c => exact K.report _ _ h

/-- A raise queues at most two reports. -/
theorem raise {k : Nat} {s : State} (x : Subject) (c : AlertClass) (h : P k s) : P (k + 2) (s.raiseAlert x c) := by
  have quiet : P (k + 2) s := K.more _ (K.more _ h)
  cases fields : s.alertOf x with
  | none => simpa only [State.raiseAlert, fields] using quiet
  | some f =>
    by_cases suppressed : (s.policyOf c).enabled = false ∨ f.acked = some c
    · rwa [raiseAlert_suppressed fields suppressed]
    · simp only [not_or, Bool.not_eq_false] at suppressed
      obtain ⟨enabled, fresh⟩ := suppressed
      cases listed : s.listed x with
      | some r =>
        rw [raiseAlert_listed fields enabled fresh listed]
        exact K.report _ _ (K.replaced _ _ _ (K.list _ _ (K.fields _ _ _ h)))
      | none =>
        cases waiting : f.waiting with
        | true =>
          rw [raiseAlert_waiting fields enabled fresh listed waiting]
          exact K.report _ _ (K.replaced _ _ _ (K.fields _ _ _ h))
        | false =>
          by_cases room : s.alerts.list.length < 8
          · rw [raiseAlert_room fields enabled fresh listed waiting room]
            exact K.report _ _ (K.more _ (K.list _ _ (K.fields _ _ _ h)))
          · rw [raiseAlert_full fields enabled fresh listed waiting (Nat.not_lt.mp room)]
            exact K.report _ _ (K.more _ (K.fields _ _ _ h))

theorem promote {k : Nat} {s : State} (w : Waiter) (h : P k s) : P k (s.promote w) := by
  unfold State.promote
  split
  · split
    · exact K.list _ _ (K.fields _ _ _ h)
    · exact h
  · exact h

theorem leave {k : Nat} {s : State} (x : Subject) (f : AlertFields) (a : Option AlertClass) (c : AlertClass) (why : ClearReason)
    (h : P k s) : P (k + 2) (s.leaveList x f a c why) := by
  have unlisted : P k (s.unlisted x a) := K.list _ _ (K.fields _ _ _ h)
  rw [leaveList_eq, State.afterLeaving]
  split
  · exact K.more _ (K.report _ _ unlisted)
  · exact K.report _ _ (K.report _ _ (K.promote _ unlisted))

/-- So does a withdrawal. -/
theorem withdraw {k : Nat} {s : State} (x : Subject) (cs : List AlertClass) (h : P k s) : P (k + 2) (s.withdrawAlert x cs) := by
  have only (f : AlertFields) (a : Option AlertClass) : P (k + 2) (s.ackWithdrawn x f a) := by
    unfold State.ackWithdrawn
    split
    · exact K.more _ (K.more _ h)
    · exact K.more _ (K.more _ (K.fields _ _ _ h))
  unfold State.withdrawAlert
  split
  · exact K.more _ (K.more _ h)
  · dsimp only
    split
    · split
      · exact K.leave _ _ _ _ _ h
      · exact only _ _
    · split
      · split
        · exact K.more _ (K.report _ _ (K.fields _ _ _ h))
        · exact only _ _
      · exact only _ _

end AlertCounts

/-- A predicate kept by the three updates, however many reports are queued. -/
structure AlertKeeps (P : State → Prop) : Prop where
  fields : ∀ (u : State) (x : Subject) (f : AlertFields), P u → P (u.setAlert x f)
  list : ∀ (u : State) (l : List AlertRec), P u → P (u.putAlertList l)
  report : ∀ (u : State) (b : ReportBody), P u → P (u.queueReport b)

namespace AlertKeeps

variable {P : State → Prop} (K : AlertKeeps P)
include K

theorem counts : AlertCounts fun _ => P where
  fields := K.fields
  list := K.list
  report := K.report
  more _ h := h

theorem raise {s : State} (x : Subject) (c : AlertClass) (h : P s) : P (s.raiseAlert x c) := K.counts.raise (k := 0) x c h

theorem withdraw {s : State} (x : Subject) (cs : List AlertClass) (h : P s) : P (s.withdrawAlert x cs) :=
  K.counts.withdraw (k := 0) x cs h

end AlertKeeps

/-- Alert operations touch neither the Kiosk Port nor the bus. -/
theorem alert_kiosk (k : KioskPort) (b : BusMaster) : AlertKeeps fun u => u.kiosk = k ∧ u.bus = b where
  fields u x f h := by
    have relamped (v : State) (n : SlotNo) : (v.relamp n).kiosk = v.kiosk ∧ (v.relamp n).bus = v.bus := by
      unfold State.relamp
      split
      · exact ⟨rfl, rfl⟩
      · unfold State.wantLamps
        split <;> exact ⟨rfl, rfl⟩
    cases x with
    | slot n => exact ⟨(relamped _ n).1.trans h.1, (relamped _ n).2.trans h.2⟩
    | _ => exact h
  list _ _ h := h
  report _ _ h := h

theorem BranchLink.enqueue_losses (l : BranchLink) (r : Report) : (l.enqueue r).counts.losses = l.counts.losses := by
  unfold BranchLink.enqueue
  split
  · split <;> rfl
  · rfl

theorem queueReport_losses (s : State) (b : ReportBody) : (s.queueReport b).link.counts.losses = s.link.counts.losses :=
  (congrArg PortCounts.losses (BranchLink.wake_counts _)).trans (BranchLink.enqueue_losses _ _)

theorem alert_losses (n : Nat) : AlertKeeps fun u => u.link.counts.losses = n where
  fields u x f h := (congrArg (·.counts.losses) (setAlert_kept u x f).1).trans h
  list _ _ h := h
  report u b h := (queueReport_losses u b).trans h

/-! ### A report and a notice -/

/-- The end of an event of a release: its report, and the notice to a kiosk. -/
def State.told (s : State) (r : ReportBody) (source : Option Source) (booking : Nat) (event : NoticeEvent) : State :=
  (s.queueReport r).noticeFor source booking event

section
variable (s : State) (r : ReportBody) (source : Option Source) (booking : Nat) (event : NoticeEvent)

theorem noticeFor_eq : ∃ k : KioskPort, s.noticeFor source booking event = s.setKiosk k := by
  unfold State.noticeFor State.placeNotice
  split
  · split
    · exact ⟨_, rfl⟩
    · exact ⟨s.kiosk, rfl⟩
  · exact ⟨s.kiosk, rfl⟩

theorem told_eq : ∃ k : KioskPort, s.told r source booking event = (s.queueReport r).setKiosk k := noticeFor_eq _ _ _ _

@[simp] theorem told_tables : (s.told r source booking event).tables = s.tables := noticeFor_tables _ _ _ _

theorem told_bus : (s.told r source booking event).bus = s.bus := by
  obtain ⟨k, h⟩ := told_eq s r source booking event
  rw [h]; rfl

theorem told_alertOf (x : Subject) : (s.told r source booking event).alertOf x = s.alertOf x := by
  obtain ⟨k, h⟩ := told_eq s r source booking event
  rw [h]; exact alertOf_congr rfl rfl rfl rfl rfl rfl x

theorem told_lastReport (h : s.link.tx ≠ .idle) : (s.told r source booking event).lastReport = some r := by
  obtain ⟨k, e⟩ := told_eq s r source booking event
  rw [e]; exact queueReport_lastReport r h

end

theorem placeNotice_last {s : State} (booking : Nat) (event : NoticeEvent) (busy : s.kioskBusy) :
    (s.placeNotice booking event).kiosk.notices.getLast? = some { booking, event } := by
  rw [placeNotice_busy booking event busy]
  simp only [State.setKiosk, KioskPort.enqueue]
  split <;> exact List.getLast?_concat

/-- The notice told is the one R98 asks for, where nothing before it has touched the Kiosk Port. -/
theorem told_tells {s u : State} (same : u.kiosk = s.kiosk) (r : ReportBody) (source : Option Source) (booking : Nat)
    (event : NoticeEvent) : s.tells (u.told r source booking event) source booking event := by
  intro busy
  have reported : (u.queueReport r).kioskBusy := by rw [State.kioskBusy]; exact same ▸ busy
  refine ⟨fun kiosk => ?_, fun counter => ?_⟩
  · rw [State.told, State.noticeFor, if_pos kiosk]
    exact placeNotice_last booking event reported
  · rw [State.told, State.noticeFor, if_neg counter]
    exact congrArg KioskPort.notices same

theorem tells_congr {s t u : State} {source : Option Source} {booking : Nat} {event : NoticeEvent} (same : t.kiosk = u.kiosk)
    (h : s.tells u source booking event) : s.tells t source booking event := by
  rw [State.tells, same]; exact h

/-! ### LATCH commands asked for (R30) -/

theorem addLatch_asked {s : State} {n : SlotNo} (online : s.slotOnline n = true) (dir : LatchDir) (c : Option ChanNo) :
    (s.addLatch n dir c).latchAsked n dir c := by
  rw [State.addLatch, if_pos online]
  exact ⟨{ slot := n, dir, channel := c, age := s.bus.nextAge, tries := 0 }, rfl, rfl, rfl,
    Or.inl (List.mem_append_right _ (List.mem_singleton.mpr rfl))⟩

theorem latchAsked_congr {s t : State} (same : t.bus = s.bus) {n : SlotNo} {dir : LatchDir} {c : Option ChanNo}
    (h : s.latchAsked n dir c) : t.latchAsked n dir c := by
  rw [State.latchAsked, same]; exact h

theorem addLatch_kept (s : State) (n : SlotNo) (dir : LatchDir) (c : Option ChanNo) :
    ∃ b : BusMaster, s.addLatch n dir c = s.setBus b := by
  unfold State.addLatch
  split
  · exact ⟨_, rfl⟩
  · exact ⟨s.bus, rfl⟩

theorem setPhase_kiosk (s : State) (c : ChanNo) (x : Channel) : (s.setPhase c x).kiosk = s.kiosk := by
  have relamped (v : State) (n : SlotNo) : (v.relamp n).kiosk = v.kiosk := (relamp_portsQuiet v n).kiosk
  unfold State.setPhase
  split
  · exact relamped _ _
  · rfl

/-! ### Reports that wait behind others (R152) -/

/-- The transmitter is SENDING, the reports `l` still wait at the front, and at most `n` wait in all. -/
def State.waitsBehind (l : List Report) (n : Nat) (s : State) : Prop := s.linkBusy ∧ l <+: s.link.reports ∧ s.link.reports.length ≤ n

/-- Up to seven reports behind 25 push none out. -/
theorem alert_waitsBehind (l : List Report) : AlertCounts fun k u => k ≤ 7 → u.waitsBehind l (25 + k) where
  fields u x f h few := by
    rw [State.waitsBehind, State.linkBusy, (setAlert_kept u x f).1]
    exact h few
  list _ _ h := h
  report {k} u b h few := by
    obtain ⟨busy, front, length⟩ := h (by omega)
    have link := queueReport_link_busy busy (by omega) b
    rw [State.waitsBehind, State.linkBusy, link]
    exact ⟨busy, front.trans (List.prefix_append _ _), by simp only [List.length_append, List.length_singleton]; omega⟩
  more u h few := by
    obtain ⟨busy, front, length⟩ := h (by omega)
    exact ⟨busy, front, by omega⟩

end Sys2Proof.Machine
end

section
/-! SUPPORT. The one-second boundary (R115) and the expiries: of deadlines (R123), windows (R87), retry times (R37), the unslotted
limit (R113) and supervision (R155). -/

namespace Sys2Proof.Machine

/-! ### The boundary -/

theorem UnitRec.tick_eq (r : UnitRec) : r.tick = if r.state = .recovery then { r with retry := r.retry.map fun n => n - 1 } else r := by
  unfold UnitRec.tick
  cases h : r.state <;> rfl

theorem BranchLink.tick_eq (l : BranchLink) :
    l.tick = if l.state = .connected then { l with supervision := l.supervision.map fun n => n - 1 } else l := by
  unfold BranchLink.tick
  cases h : l.state <;> rfl

theorem DropEntry.older_eq (e : DropEntry) :
    e.older = if e.state = .inHand then { e with age := min (e.age + 1) 7200 } else e := by
  unfold DropEntry.older
  cases h : e.state <;> rfl

/-- Settles O34: each count's own equation. -/
theorem aBoundaryMovesEveryCount : Obligations.ABoundaryMovesEveryCount := by
  intro s running
  refine gives_event _ rfl running ?_
  simp only [State.boundary, funext UnitRec.tick_eq, BranchLink.tick_eq, funext DropEntry.older_eq]
  rfl

/-! ### Deadlines (R123, R124) -/

theorem advance_stays {t : Nat} {s : State} (h : ∀ e ∈ s.dueList, t < e.deadline) (fuel k : Nat) :
    State.advance t fuel s k = (s, k) := by
  cases fuel with
  | zero => rfl
  | succ fuel =>
    unfold State.advance
    cases due : s.dueList with
    | nil => rfl
    | cons e rest => exact if_neg (Nat.not_le.mpr (h e (by rw [due]; exact List.mem_cons_self)))

theorem advance_turn {t : Nat} {s : State} {e : DueEntry} {rest : List DueEntry} {b : Booking} (due : s.dueList = e :: rest)
    (reached : e.deadline ≤ t) (found : s.booking? e.booking = some b) (fuel k : Nat) :
    State.advance t (fuel + 1) s k = State.advance t fuel (s.toStage b (b.stageAt t)) (k + 1) := by
  rw [State.advance, due]
  dsimp only
  rw [if_pos reached, found]

/-- The next deadline of the stage at a time is after that time. -/
theorem nextDeadline_stageAt {b : Booking} {t d : Nat} (h : b.nextDeadline (b.stageAt t) = some d) : t < d := by
  have plain (e : Option Nat) (late : e = none ∨ ∃ k, e = some k ∧ t < k) (esc : b.escalationAt = e) : t < d := by
    have notEscalated : b.stageAt t = if b.overdueAt ≤ t then .overdue else if b.due ≤ t then .due else .onTime := by
      rcases late with rfl | ⟨k, rfl, early⟩
      · simp [Booking.stageAt, esc]
      · simp [Booking.stageAt, esc, early]
    rw [notEscalated] at h
    split at h
    · rw [show b.nextDeadline .overdue = b.escalationAt from rfl, esc] at h
      rcases late with rfl | ⟨k, rfl, early⟩
      · cases h
      · cases h; exact early
    · split at h <;> (cases h; omega)
  cases esc : b.escalationAt with
  | none => exact plain none (Or.inl rfl) esc
  | some k =>
    by_cases early : t < k
    · exact plain (some k) (Or.inr ⟨k, rfl, early⟩) esc
    · have escalated : b.stageAt t = .escalated := by simp [Booking.stageAt, esc, Nat.not_lt.mp early]
      rw [escalated] at h
      cases h

theorem mem_insertBy {α : Type} {before : α → α → Bool} {x y : α} {l : List α} (h : y ∈ insertBy before x l) : y = x ∨ y ∈ l :=
  List.mem_cons.mp ((insertBy_perm before x l).mem_iff.mp h)

/-- Whoever is in the Due List after one has been placed anew was there before, or is the one placed. -/
theorem mem_dueAfter {n : Nat} {deadline : Option Nat} {l : List DueEntry} {x : DueEntry} (h : x ∈ dueAfter n deadline l) :
    deadline = some x.deadline ∨ (x ∈ l ∧ x.booking ≠ n) := by
  have rest (k : x ∈ l.filter fun e => e.booking != n) : x ∈ l ∧ x.booking ≠ n := by simpa using List.mem_filter.mp k
  cases deadline with
  | none => exact Or.inr (rest h)
  | some d =>
    rcases mem_insertBy h with rfl | old
    · exact Or.inl rfl
    · exact Or.inr (rest old)

theorem booking?_number_eq {s : State} {n : Nat} {b : Booking} (h : s.booking? n = some b) : b.number = n := by
  have := List.find?_some h
  simpa using this

theorem toStage_dueList (s : State) (b : Booking) (st : Stage) :
    (s.toStage b st).dueList = dueAfter b.number (b.nextDeadline st) s.dueList :=
  show (s.toStage b st).tables.dueList = _ from congrArg State.dueList (toStage_form s b st)

theorem alertOf_mapBooking (s : State) (n : Nat) (f : Booking → Booking) (number : ∀ b, (f b).number = b.number)
    (alert : ∀ b, (f b).alert = b.alert) (x : Subject) : (s.mapBooking n f).alertOf x = s.alertOf x := by
  cases x with
  | booking k =>
    have through : ((fun b : Booking => b.number == k) ∘ fun b => if b.number = n then f b else b) = fun b => b.number == k := by
      funext b
      by_cases same : b.number = n
      · simp [same, number]
      · simp [same]
    simp only [State.alertOf, State.booking?, State.mapBooking, State.setBookings, List.find?_map, through, Option.map_map]
    refine congrFun (congrArg Option.map (funext fun b => ?_)) _
    by_cases same : b.number = n
    · simp [same, alert]
    · simp [same]
  | _ => rfl

theorem alertOf_setDueList (s : State) (l : List DueEntry) (x : Subject) : (s.setDueList l).alertOf x = s.alertOf x :=
  alertOf_congr rfl rfl rfl rfl rfl rfl x

theorem alertOf_duePlace (s : State) (n : Nat) (deadline : Option Nat) (x : Subject) :
    (s.duePlace n deadline).alertOf x = s.alertOf x := by
  rw [duePlace_eq]
  exact alertOf_setDueList _ _ x

/-- A stage that has a class leaves it with the booking, where nothing suppresses it. -/
theorem toStage_cls {s : State} {b : Booking} (found : s.booking? b.number = some b) {st : Stage} {c : AlertClass}
    (cls : st.cls = some c) (enabled : (s.policyOf c).enabled = true) (fresh : b.alert.acked ≠ some c) :
    ∃ f : AlertFields, (s.toStage b st).alertOf (.booking b.number) = some f ∧ f.cls = some c := by
  have fields : (s.setStage b.number st).alertOf (.booking b.number) = some b.alert := by
    exact (alertOf_mapBooking s b.number (fun x => { x with stage := some st }) (fun _ => rfl) (fun _ => rfl) _).trans
      (congrArg (Option.map Booking.alert) found)
  obtain ⟨f, raised, kept⟩ := raiseAlert_cls fields (c := c) enabled fresh
  refine ⟨f, ?_, kept⟩
  rw [State.toStage, alertOf_duePlace, State.raiseStage, cls]
  exact raised

/-- A deadline reached by the head alone is one turn. -/
theorem advance_head {t : Nat} {s : State} {e : DueEntry} {rest : List DueEntry} {b : Booking} (due : s.dueList = e :: rest)
    (reached : e.deadline ≤ t) (others : ∀ x ∈ rest, t < x.deadline) (found : s.booking? e.booking = some b) (k : Nat) :
    State.advance t s.dueList.length s k = (s.toStage b (b.stageAt t), k + 1) := by
  rw [due, List.length_cons, advance_turn due reached found, advance_stays]
  intro x mem
  rw [toStage_dueList, due] at mem
  rcases mem_dueAfter mem with placed | ⟨old, other⟩
  · exact nextDeadline_stageAt placed
  · rcases List.mem_cons.mp old with rfl | old
    · exact absurd (booking?_number_eq found).symm other
    · exact others x old

/-- The Due List once booking `n` has been placed, as claims write it. -/
theorem dueAfter_eq (n : Nat) (deadline : Option Nat) (l : List DueEntry) :
    dueAfter n deadline l = match deadline with
      | some d => insertBy DueEntry.before { deadline := d, booking := n } (l.filter fun x => x.booking != n)
      | none => l.filter fun x => x.booking != n := by
  cases deadline <;> rfl

/-- Settles O35: the head's turn is `toStage`, and no other is due after it (`advance_head`). -/
theorem aDeadlineExpiryAdvancesTheHead : Obligations.ADeadlineExpiryAdvancesTheHead := by
  intro s running
  refine ⟨fun idle => ?_, fun now e rest time due => ⟨fun early => ?_, fun b reached others found => ?_⟩⟩
  · refine gives_event _ rfl running ?_
    rcases idle with unset | empty
    · rw [State.takeDeadlines, unset]
    · rw [State.takeDeadlines]
      split
      · rw [empty]; rfl
      · rfl
  · refine gives_event _ rfl running ?_
    rw [State.takeDeadlines, time, due]
    exact congrArg Prod.fst (show State.advance now (rest.length + 1) s 0 = (s, 0) by
      rw [State.advance, due]; exact if_neg (Nat.not_le.mpr early))
  · have taken : s.takeDeadlines = s.toStage b (b.stageAt now) := by
      rw [State.takeDeadlines, time]
      exact congrArg Prod.fst (advance_head due reached others found 0)
    have number := booking?_number_eq found
    intro st rest
    refine ⟨(s.toStage b st).chooseCommand, ?_, ?_, fun c cls enabled fresh => ?_⟩
    · rw [← taken]
      exact gives_event _ rfl running rfl
    · rw [chooseCommand_tables, toStage_form, number, ← withBooking_form s _ (fun x => { x with stage := some st }) fun _ => rfl,
        dueAfter_eq]
      rfl
    · rw [(chooseCommand_kept _).2.2, ← number]
      exact toStage_cls (number.symm ▸ found) cls enabled fresh

/-! ### Windows (R87) -/

/-- A channel's window closed, its booking LOADED and remembered by the slot. -/
def State.windowShut (s : State) (c : ChanNo) (n : SlotNo) (b : Nat) : State :=
  ((s.setPhase c (.closing n b .expired)).toLoaded b).modSlot n fun r => { r with lastRelease := some b }

/-- The state in which the report of an expiry is queued. -/
def State.windowClosed (s : State) (c : ChanNo) (n : SlotNo) (b : Nat) : State :=
  ((s.windowShut c n b).raiseAlert (.booking b) .untaken).addLatch n .closeIt (some c)

theorem expireWindow_eq (s : State) (c : ChanNo) (n : SlotNo) (b : Nat) :
    s.expireWindow c n b =
      (s.windowClosed c n b).told (.releaseUntaken (s.relInfo b n) c (s.sourceOf b)) (s.sourceOf b) b .untaken := rfl

section
variable (s : State) (c : ChanNo) (n : SlotNo) (b : Nat)

theorem windowShut_form :
    (s.windowShut c n b).tables =
      ((s.tables.withChan c (.closing n b .expired)).withBooking b fun k => { k with state := .loaded }).withSlot n
        fun r => { r with lastRelease := some b } := by
  rw [State.windowShut, modSlot_form _ _ (fun r => { r with lastRelease := some b }) fun _ => rfl, toLoaded_form, setPhase_form]

theorem windowClosed_tables : (s.windowClosed c n b).tables = (s.windowShut c n b).tables :=
  (addLatch_tables _ _ _ _).trans (raiseAlert_tables _ _ _)

theorem alertOf_setPhase (x : Channel) (y : Subject) : (s.setPhase c x).alertOf y = s.alertOf y := by
  have put : (s.putChan c x).alertOf y = s.alertOf y := alertOf_congr rfl rfl rfl rfl rfl rfl y
  unfold State.setPhase
  split
  · exact (alertOf_relamp _ _ y).trans put
  · exact put

theorem alertOf_addLatch (dir : LatchDir) (o : Option ChanNo) (y : Subject) : (s.addLatch n dir o).alertOf y = s.alertOf y := by
  obtain ⟨bus, h⟩ := addLatch_kept s n dir o
  rw [h]; exact alertOf_congr rfl rfl rfl rfl rfl rfl y

theorem windowShut_alertOf (y : Subject) : (s.windowShut c n b).alertOf y = s.alertOf y := by
  have loaded := alertOf_mapBooking (s.setPhase c (.closing n b .expired)) b (fun k => { k with state := .loaded }) (fun _ => rfl)
    (fun _ => rfl) y
  have remembered := alertOf_putSlot ((s.setPhase c (.closing n b .expired)).toLoaded b) n
    { ((s.setPhase c (.closing n b .expired)).toLoaded b).slot n with lastRelease := some b } rfl y
  exact remembered.trans (loaded.trans (alertOf_setPhase s c _ y))

theorem windowShut_calm : Calm s (s.windowShut c n b) :=
  (setPhase_calm _ _ _).trans ((mapBooking_calm _ _ _).trans (modSlot_calm _ _ _))

theorem windowClosed_calm : Calm s (s.windowClosed c n b) :=
  (windowShut_calm s c n b).trans ((raiseAlert_calm _ _ _).trans (addLatch_calm _ _ _ _))

theorem windowClosed_kiosk : (s.windowClosed c n b).kiosk = s.kiosk := by
  have raised := (alert_kiosk (s.windowShut c n b).kiosk (s.windowShut c n b).bus).raise (.booking b) .untaken ⟨rfl, rfl⟩
  obtain ⟨bus, h⟩ := addLatch_kept ((s.windowShut c n b).raiseAlert (.booking b) .untaken) n .closeIt (some c)
  rw [State.windowClosed, h]
  exact raised.1.trans (setPhase_kiosk s c _)

end

theorem slotOnline_tables (s : State) (n : SlotNo) : s.tables.slotOnline n = s.slotOnline n := slotOnline_congr (tables_idem s) n

theorem windowClosed_asked {s : State} {n : SlotNo} (online : s.slotOnline n = true) (c : ChanNo) (b : Nat) :
    (s.windowClosed c n b).latchAsked n .closeIt (some c) := by
  refine addLatch_asked ?_ _ _
  rw [← slotOnline_tables, raiseAlert_tables, windowShut_form]
  exact (slotOnline_tables s n).trans online

theorem windowExpiry_opened {s : State} {c : ChanNo} {n : SlotNo} {b d now : Nat} (chan : s.chan c = .opened n b d)
    (time : s.time = some now) : s.windowExpiry c = if d ≤ now then s.expireWindow c n b else s := by
  simp only [State.windowExpiry, chan, time]

/-- Settles O36: the expiry is `windowClosed` with its report and notice. -/
theorem aWindowExpiryClosesTheChannel : Obligations.AWindowExpiryClosesTheChannel := by
  intro s c running
  refine ⟨fun none => gives_event _ rfl running ?_, fun n b d now chan time => ⟨fun early => ?_, fun reached => ?_⟩⟩
  · rcases none with unset | shut
    · unfold State.windowExpiry
      rw [unset]
      split
      · next time => cases time
      · rfl
    · unfold State.windowExpiry
      split
      · next n b d _ chan _ => exact absurd chan (shut n b d)
      · rfl
  · exact gives_event _ rfl running ((windowExpiry_opened chan time).trans (if_neg (Nat.not_le.mpr early)))
  · have whole := (windowExpiry_opened chan time).trans ((if_pos reached).trans (expireWindow_eq s c n b))
    refine ⟨(s.windowExpiry c).chooseCommand, gives_event _ rfl running rfl, ?_, fun online => ?_, fun busy => ?_, ?_,
      fun k found enabled fresh => ?_⟩
    · rw [chooseCommand_tables, whole, told_tables, windowClosed_tables, windowShut_form,
        withSlot_form _ _ (fun r => { r with lastRelease := some b }) fun _ => rfl,
        withBooking_form _ _ (fun k => { k with state := .loaded }) fun _ => rfl, withChan_form]
    · rw [whole]
      exact latchAsked_chooseCommand (latchAsked_congr (told_bus _ _ _ _ _) (windowClosed_asked online c b))
    · obtain ⟨f, sending⟩ := busy
      have begun : s.link.tx ≠ .idle := by rw [sending]; exact LinkTx.noConfusion
      have held : (s.windowClosed c n b).link.tx ≠ .idle := by rw [((windowClosed_calm s c n b).held begun).1]; exact begun
      rw [State.lastReport, (chooseCommand_records _).2.2.2.2.2, whole]
      exact told_lastReport _ _ _ _ _ held
    · rw [whole]
      exact tells_congr (chooseCommand_kept _).1 (told_tells (windowClosed_kiosk s c n b) _ _ _ _)
    · have fields : (s.windowShut c n b).alertOf (.booking b) = some k.alert := by
        rw [windowShut_alertOf, State.alertOf, found]; rfl
      have policy : (s.windowShut c n b).policyOf .untaken = s.policyOf .untaken :=
        congrArg (fun p : Vector PolicyEntry 16 => p[AlertClass.untaken.ix]) (windowShut_calm s c n b).policy
      obtain ⟨f, raised, cls⟩ := raiseAlert_cls fields (by rw [policy]; exact enabled) fresh
      refine ⟨f, ?_, cls⟩
      rw [(chooseCommand_kept _).2.2, whole, told_alertOf, State.windowClosed, alertOf_addLatch]
      exact raised

/-! ### Counts that run out (R37, R113, R155) -/

theorem retryProbe_eq (s : State) (u : UnitIx) :
    s.retryProbe u =
      if (s.unit u).state = .recovery ∧ (s.unit u).retry = some 0 then
        s.withUnit u fun r => { r with state := .probing, cause := some .retry, retry := none }
      else s := rfl

theorem unitAddr_of_unitAt {a : Nat} {u : UnitIx} (h : unitAt a = some u) : unitAddr u = a := by
  unfold unitAt at h
  split at h
  · next chute => cases h; exact chute.symm
  · split at h
    · next module =>
      cases h
      have other : (⟨a - 1, by omega⟩ : UnitIx) ≠ chuteIx := by
        intro same
        have := congrArg Fin.val same
        simp only [chuteIx] at this
        omega
      rw [unitAddr, if_neg other]
      dsimp only
      omega
    · cases h

/-- The entries with a number in a list, marked unslotted. -/
def State.unslotted (s : State) (l : List DropEntry) : State :=
  s.setBin { s.bin with
    entries := s.bin.entries.map fun e => { e with unslotted := e.unslotted || l.any fun x => x.number == e.number } }

theorem unslotted_form (s : State) (l : List DropEntry) : (s.unslotted l).tables = s.tables.unslotted l := by
  simp only [State.unslotted, State.setBin, State.tables, List.map_map, Function.comp_def]
  rfl

theorem unslotted_nil (s : State) : s.unslotted [] = s := by
  simp [State.unslotted, State.setBin]

theorem unslotted_cons (s : State) (e : DropEntry) (l : List DropEntry) :
    (s.mapDrop e.number fun x => { x with unslotted := true }).unslotted l = s.unslotted (e :: l) := by
  have each (x : DropEntry) :
      (let y : DropEntry := if x.number = e.number then { x with unslotted := true } else x;
       { y with unslotted := y.unslotted || l.any fun z => z.number == y.number }) =
        { x with unslotted := x.unslotted || (e :: l).any fun z => z.number == x.number } := by
    by_cases same : x.number = e.number
    · simp [same]
    · have other : (e.number == x.number) = false := beq_false_of_ne fun e => same e.symm
      simp [same, other]
  simp only [State.unslotted, State.mapDrop, State.setBin, List.map_map, Function.comp_def, each]

theorem foldl_unslotted_tables (l : List DropEntry) (s : State) :
    (l.foldl (fun s e => (s.mapDrop e.number fun x => { x with unslotted := true }).raiseAlert (.bin e.number) .unslottedKey) s).tables =
      (s.unslotted l).tables := by
  induction l generalizing s with
  | nil => rw [unslotted_nil]; rfl
  | cons e l ih => rw [List.foldl_cons, ih, unslotted_form, raiseAlert_tables, ← unslotted_form, unslotted_cons]

/-- Settles O37: each expiry is its own branch; the unslotted entries are marked one after the other. -/
theorem countsThatRunOutAct : Obligations.CountsThatRunOutAct := by
  intro s addr running
  refine ⟨fun u at_ => ?_, fun nowhere => ?_, ⟨?_, fun none => ?_⟩, fun connected out => ?_, fun left => ?_⟩
  · refine gives_event _ rfl running ?_
    simp only [← at_, unitAt_unitAddr]
    exact retryProbe_eq s u
  · refine gives_event _ rfl running ?_
    have none : unitAt addr.toNat = none := by
      cases found : unitAt addr.toNat with
      | none => rfl
      | some u => exact absurd (unitAddr_of_unitAt found) (nowhere u)
    simp only [none]
  · refine makes_event _ rfl running ?_
    rw [State.markUnslotted, foldl_unslotted_tables]
    simp only [State.unslotted, List.any_filter, Bool.and_comm]
    rfl
  · refine gives_event _ rfl running ?_
    have nobody : s.bin.entries.filter s.unslottedDue = [] := by
      rw [List.filter_eq_nil_iff]
      exact List.any_eq_false.mp none
    rw [State.markUnslotted, nobody]
    rfl
  · let lost : BranchLink :=
      { s.link with
        state := .standalone, supervision := none
        counts := { s.link.counts with losses := bump s.link.counts.losses } }
    have whole : s.supervisionExpiry = (s.setLink lost).beginCond .linkLost := if_pos ⟨connected, out⟩
    have calm := beginCond_calm (s.setLink lost) .linkLost
    have losses : ((s.setLink lost).beginCond .linkLost).link.counts.losses = up s.link.counts.losses :=
      (alert_losses (up s.link.counts.losses)).raise _ _ rfl
    have link := (chooseCommand_records s.supervisionExpiry).2.2.2.2.2
    refine ⟨s.supervisionExpiry.chooseCommand, gives_event _ rfl running rfl, ?_, ?_, ?_, ?_⟩
    · rw [chooseCommand_tables, whole, beginCond_form, condTo_form]; rfl
    · rw [link, whole, calm.linkState]; rfl
    · rw [link, whole, calm.supervision]; rfl
    · rw [link, whole]; exact losses
  · exact gives_event _ rfl running (if_neg left)

end Sys2Proof.Machine
end

section
/-! SUPPORT. TIME_SET (R117): the windows move with the clock (R85), and the Due Watch advances (R125). -/

namespace Sys2Proof.Machine

/-- A channel's window moved with the clock, as R85 and R116 have it. -/
def Channel.moved (old new : Nat) : Channel → Channel
  | .opened n b d => if new = old then .opened n b d else .opened n b (min (d + new - old) 4294967295)
  | c => c

theorem Channel.moved_self (t : Nat) (c : Channel) : c.moved t t = c := by
  cases c <;> simp [Channel.moved]

theorem Channel.moved_of_ne {old new : Nat} (h : new ≠ old) (c : Channel) : c.moved old new = c.shift old new := by
  cases c <;> simp [Channel.moved, Channel.shift, moveDeadline, h, Config.maxTime]

/-- The clock set to `new`, and every window moved with it. -/
def State.clockMoved (s : State) (old new : Nat) : State :=
  { s with time := some new, release := { s.release with channels := s.release.channels.map (Channel.moved old new) } }

theorem clockMoved_form (s : State) (old new : Nat) : (s.clockMoved old new).tables = s.tables.clockMoved old new := rfl

theorem shiftWindows_eq (s : State) (old new : Nat) :
    s.shiftWindows old new = s.setRelease { s.release with channels := s.release.channels.map (Channel.shift old new) } := by
  have channels : (s.shiftWindows old new).release.channels = s.release.channels.map (Channel.shift old new) := by
    simp only [State.shiftWindows, allChannels, List.foldl_cons, List.foldl_nil, State.putChan, State.setRelease, State.chan]
    ext k hk
    match k with
    | 0 => simp
    | 1 => simp
    | 2 => simp
    | 3 => simp
  rw [← channels]
  rfl

theorem clockMoved_eq (s : State) (old new : Nat) :
    (if new = old then s.setTime (some new) else (s.setTime (some new)).shiftWindows old new) = s.clockMoved old new := by
  by_cases same : new = old
  · subst same
    rw [if_pos rfl]
    simp only [State.clockMoved, funext (Channel.moved_self new), Vector.map_id_fun']
    rfl
  · rw [if_neg same, shiftWindows_eq, ← funext (Channel.moved_of_ne same)]
    rfl

/-- TIME_SET while time is set. -/
theorem timeSet_some {s : State} {old : Nat} (time : s.time = some old) (new : Nat) :
    s.timeSet new =
      let r := if old < new then State.advance new s.dueList.length (s.clockMoved old new) 0 else (s.clockMoved old new, 0)
      (r.1, .ok (.oldTime (some old) r.2)) := by
  have due : (s.clockMoved old new).dueList = s.dueList := rfl
  simp only [State.timeSet, time, clockMoved_eq, due]

/-- Settles O16: no turn of the Due Watch, or the one turn of its head (`advance_head`), on the state the clock moves in. -/
theorem timeSetMovesWindowsAndStages : Obligations.TimeSetMovesWindowsAndStages := by
  intro s tag body new hears read
  have same := frameBegin_tables s
  obtain ⟨-, -, dueList, release, -⟩ := frameBegin_blocks s
  have time : s.frameBegin.time = s.time := (frameBegin_kept s).2.2.2.2.2.2.1
  have begun := frameBegin_tx s
  have kept : LinkKept s.frameBegin (s.frameBegin.timeSet new).1 :=
    (timeSet_calm s.frameBegin new).linkKept (s := s.frameBegin.setTime (some new)) begun
  refine ⟨fun unset => ?_, fun old set => ?_⟩
  · rw [unset] at time
    have whole : s.frameBegin.timeSet new = (s.frameBegin.setTime (some new), .ok (.oldTime none 0)) := by
      simp only [State.timeSet, time]
    refine served_of_owner (kind := 0x09) (owner := fun n s => s.timeSet n) (r := .ok (.oldTime none 0)) hears rfl read kept
      (congrArg Prod.snd whole) ((congrArg (·.1.tables) whole).trans ?_)
    exact congrArg (fun u => State.setTime u (some new)) same
  · rw [set] at time
    intro moved
    have clock : moved = s.heard.clockMoved old new := by
      have channels : s.heard.release = s.release := by rw [heard_eq]
      simp only [moved, State.clockMoved, channels]
      congr 3
      funext c
      cases c <;> rfl
    have movedTables : (s.frameBegin.clockMoved old new).tables = moved.tables := by
      rw [clock, clockMoved_form, clockMoved_form, same]
    have whole := timeSet_some time new
    refine ⟨fun quiet => ?_, fun e rest b later due reached others found => ?_⟩
    · have still : (if old < new then State.advance new s.frameBegin.dueList.length (s.frameBegin.clockMoved old new) 0
          else (s.frameBegin.clockMoved old new, 0)) = (s.frameBegin.clockMoved old new, 0) := by
        split
        · next later =>
          refine advance_stays (fun e mem => ?_) _ _
          have mem : e ∈ s.dueList := dueList ▸ mem
          exact quiet.resolve_left (Nat.not_le.mpr later) e mem
        · rfl
      rw [still] at whole
      exact served_of_owner (kind := 0x09) (owner := fun n s => s.timeSet n) (r := .ok (.oldTime (some old) 0)) hears rfl read kept
        (congrArg Prod.snd whole) ((congrArg (·.1.tables) whole).trans movedTables)
    · obtain ⟨c, here, bare⟩ := booking?_frameBegin_eq_some found
      have head := advance_head (s := s.frameBegin.clockMoved old new) (dueList.trans due) reached others here 0
      rw [if_pos later, show s.frameBegin.dueList.length = (s.frameBegin.clockMoved old new).dueList.length from rfl, head] at whole
      intro st left
      have number : c.number = e.booking := booking?_number_eq here
      have stage : c.stageAt new = st := show c.bare.stageAt new = b.bare.stageAt new from congrArg (Booking.stageAt · new) bare
      have next : c.nextDeadline st = b.nextDeadline st :=
        show c.bare.nextDeadline st = b.bare.nextDeadline st from congrArg (Booking.nextDeadline · st) bare
      refine served_of_owner (kind := 0x09) (owner := fun n s => s.timeSet n) (r := .ok (.oldTime (some old) 1)) hears rfl read kept
        (congrArg Prod.snd whole) ((congrArg (·.1.tables) whole).trans ?_)
      rw [toStage_form, stage, number, next, movedTables, ← withBooking_form _ _ (fun x => { x with stage := some st }) fun _ => rfl,
        show (s.frameBegin.clockMoved old new).dueList = s.dueList from dueList, dueAfter_eq]
      rfl

end Sys2Proof.Machine
end

section
/-! SUPPORT. What a release request comes to (R73, R76 to R78), and the arbiter's one grant (R83). -/

namespace Sys2Proof.Machine

/-! ### The checks, stated as results -/

/-- Tests 5a to 5d of R73, as claims have them. -/
def State.codeCheck (s : State) (b : Booking) (code : Option Nat) : Option Result :=
  if code.isSome ∧ (b.kind ≠ .rental ∨ b.code = none) then some .kioskNotAllowed
  else if code.isSome ∧ 5 ≤ b.failures then some .kioskLocked
  else if code.isSome ∧ b.code ≠ code then some .codeWrong
  else if code.isSome && b.window.any (fun w => !s.time.any fun t => decide (w.1 ≤ t) && decide (t ≤ w.2)) then some .outsideWindow
  else none

theorem codeRefusal_eq (s : State) (b : Booking) (code : Option Nat) : s.codeRefusal b code = s.codeCheck b code := by
  cases code with
  | none => simp [State.codeRefusal, State.codeCheck]
  | some entered =>
    unfold State.codeRefusal State.kioskRefusal State.codeCheck
    cases kind : b.kind with
    | service => simp
    | rental =>
      cases held : b.code with
      | none => simp
      | some c =>
        by_cases locked : 5 ≤ b.failures
        · simp [locked, Config.codeLimit]
        · by_cases wrong : entered = c
          · subst wrong
            cases window : b.window with
            | none => simp [locked, Config.codeLimit]
            | some w =>
              cases time : s.time with
              | none => simp [locked, Config.codeLimit]
              | some t =>
                by_cases inside : w.1 ≤ t ∧ t ≤ w.2
                · simp [locked, Config.codeLimit, inside]
                · simp only [locked, Config.codeLimit, inside]
                  simp_all
          · have other : ¬ c = entered := fun e => wrong e.symm
            simp [locked, Config.codeLimit, wrong, other]

/-- Checks 7 to 11 of R76 at the key's slot. -/
def State.slotCheck (s : State) (m : SlotNo) : Result :=
  if (s.unit (modUnit (moduleOf m))).state ≠ .online then .slotOffline
  else if (s.slot m).service ≠ .inService then .slotQuarantined
  else if (s.slot m).queued ∨ (s.slot m).channel ≠ none then .wrongState
  else if 16 ≤ s.release.queue.length then .queueFull
  else .accepted

/-- Checks 6 to 11 of R76. -/
def State.keyCheck (s : State) (b : Booking) : Result :=
  if s.bookings.any fun x => x.number != b.number && x.key == b.key && (x.state == .releasing || x.state == .out) then .keyInCustody
  else (s.slotOfKey b.key).elim .keyNotInCabinet s.slotCheck

/-- Checks 4 to 11 of R76 for a booking that is there. -/
def State.bookingCheck (s : State) (b : Booking) (code : Option Nat) : Result :=
  if b.state ≠ .loaded then .wrongState else (s.codeCheck b code).getD (s.keyCheck b)

theorem admission_eq (s : State) (n : Nat) (code : Option Nat) :
    s.admission n code =
      if s.mode.level = .lost then .supplyHold
      else if s.session.remaining.isSome then .serviceActive
      else (s.booking? n).elim .notFound fun b => s.bookingCheck b code := by
  have pull (p : Prop) [Decidable p] (x y : Result) (o : Option Result) :
      (if p then some x else o).getD y = if p then x else o.getD y := by
    split <;> rfl
  unfold State.admission State.bookingCheck State.codeCheck State.keyCheck
  cases s.booking? n with
  | none => rfl
  | some b =>
    simp only [pull, Option.getD_none, Option.elim]
    cases s.slotOfKey b.key <;> rfl

theorem slotFor_eq (s : State) (b : Booking) :
    (∃ m, s.slotOfKey b.key = some m ∧ s.keyCheck b = .accepted ∧ s.slotFor b = .ok m)
      ∨ (s.keyCheck b ≠ .accepted ∧ s.keyCheck b ≠ .codeWrong ∧ s.slotFor b = .error (s.keyCheck b)) := by
  unfold State.slotFor State.keyCheck
  have custody : s.otherInCustody b =
      s.bookings.any fun x => x.number != b.number && x.key == b.key && (x.state == .releasing || x.state == .out) := rfl
  rw [custody]
  by_cases other : (s.bookings.any fun x =>
      x.number != b.number && x.key == b.key && (x.state == .releasing || x.state == .out)) = true
  · simp [other]
  · simp only [other]
    cases s.slotOfKey b.key with
    | none => simp
    | some m =>
      dsimp only [Option.elim]
      unfold State.slotCheck
      have online : s.slotOnline m = false ↔ (s.unit (modUnit (moduleOf m))).state ≠ .online := by
        rw [← Bool.not_eq_true, slotOnline_iff]
      simp only [online, Config.releaseCap, Option.isSome_iff_ne_none]
      split_ifs <;> simp

theorem codeCheck_ne_accepted {s : State} {b : Booking} {code : Option Nat} {r : Result} (h : s.codeCheck b code = some r) :
    r ≠ .accepted := by
  unfold State.codeCheck at h
  split at h
  · cases h; decide
  · split at h
    · cases h; decide
    · split at h
      · cases h; decide
      · split at h
        · cases h; decide
        · cases h

/-- What a release request leaves when it is refused. -/
def State.refusedAs (s : State) (n : Nat) (r : Result) : State :=
  if r = .codeWrong then s.mapBooking n fun b => { b with failures := b.failures + 1 } else s

/-- A request refused, by its result; only a wrong code changes anything (R73, test 5c). -/
theorem askRelease_refused {s : State} {n : Nat} {code : Option Nat} (src : Source) (refused : s.admission n code ≠ .accepted) :
    s.askRelease n src code = (s.refusedAs n (s.admission n code), .refused (s.admission n code)) := by
  rw [admission_eq] at refused ⊢
  unfold State.askRelease State.refusedAs State.hold State.inSession
  simp only [beq_iff_eq]
  by_cases lost : s.mode.level = .lost
  · simp [lost]
  · by_cases session : s.session.remaining.isSome = true
    · simp [lost, session]
    · simp only [lost, session, if_false, Bool.false_eq_true] at refused ⊢
      cases found : s.booking? n with
      | none => simp
      | some b =>
        have number := booking?_number_eq found
        simp only [found, Option.elim] at refused ⊢
        unfold State.bookingCheck at refused ⊢
        by_cases other : b.state ≠ .loaded
        · simp [other]
        · simp only [other, if_false, codeRefusal_eq] at refused ⊢
          cases checked : s.codeCheck b code with
          | some r =>
            simp only [Option.getD_some, State.countCode, number]
          | none =>
            simp only [checked, Option.getD_none] at refused ⊢
            rcases slotFor_eq s b with ⟨m, -, accepted, -⟩ | ⟨-, right, error⟩
            · exact absurd accepted refused
            · simp [error, right]

/-- A request admitted: its booking is LOADED, its key's slot free to be opened, and steps 1 to 3 of R78 are taken. -/
theorem askRelease_accepted {s : State} {n : Nat} {code : Option Nat} (src : Source) (accepted : s.admission n code = .accepted) :
    ∃ (b : Booking) (m : SlotNo), s.booking? n = some b ∧ s.slotOfKey b.key = some m ∧ s.slotCheck m = .accepted
      ∧ s.askRelease n src code = s.takeIn b m src := by
  rw [admission_eq] at accepted
  unfold State.askRelease State.hold State.inSession
  simp only [beq_iff_eq]
  by_cases lost : s.mode.level = .lost
  · simp [lost] at accepted
  · by_cases session : s.session.remaining.isSome = true
    · simp [lost, session] at accepted
    · simp only [lost, session, if_false, Bool.false_eq_true] at accepted ⊢
      cases found : s.booking? n with
      | none => simp [found] at accepted
      | some b =>
        simp only [found, Option.elim] at accepted ⊢
        unfold State.bookingCheck at accepted
        by_cases other : b.state ≠ .loaded
        · simp [other] at accepted
        · simp only [other, if_false, codeRefusal_eq] at accepted ⊢
          cases checked : s.codeCheck b code with
          | some r => exact absurd (by simpa [checked] using accepted) (codeCheck_ne_accepted checked)
          | none =>
            simp only [checked, Option.getD_none] at accepted
            rcases slotFor_eq s b with ⟨m, slot, -, ok⟩ | ⟨refused, -⟩
            · refine ⟨b, m, rfl, slot, ?_, by simp [ok]⟩
              unfold State.keyCheck at accepted
              split at accepted
              · cases accepted
              · simpa [slot] using accepted
            · exact absurd accepted refused

/-! ### What the checks read -/

theorem codeCheck_bare (s : State) (b : Booking) (code : Option Nat) : s.tables.codeCheck b.bare code = s.codeCheck b code := rfl

theorem slotCheck_tables (s : State) (m : SlotNo) : s.tables.slotCheck m = s.slotCheck m := by
  simp only [State.slotCheck, tables_unit, tables_slot, UnitRec.bare_state, SlotRec.bare_service, SlotRec.bare_queued,
    SlotRec.bare_channel]
  rfl

theorem keyCheck_tables (s : State) (b : Booking) : s.tables.keyCheck b.bare = s.keyCheck b := by
  have custody := any_eq_of_map_eq Booking.bare
    (fun x => x.number != b.number && x.key == b.key && (x.state == .releasing || x.state == .out))
    (bookings_bare (tables_idem s)) fun _ => rfl
  simp only [State.keyCheck, Booking.bare_number, Booking.bare_key, custody, tables_slotOfKey, funext (slotCheck_tables s)]

theorem admission_tables (s : State) (n : Nat) (code : Option Nat) : s.tables.admission n code = s.admission n code := by
  rw [admission_eq, admission_eq, tables_booking?]
  cases s.booking? n with
  | none => rfl
  | some b =>
    simp only [Option.map_some, Option.elim, State.bookingCheck, keyCheck_tables, codeCheck_bare]
    rfl

theorem admission_congr {s t : State} (h : s.tables = t.tables) (n : Nat) (code : Option Nat) :
    s.admission n code = t.admission n code := by
  rw [← admission_tables s, h, admission_tables]

/-! ### An admission (R78) -/

theorem admitted_form (s : State) (n : Nat) (m : SlotNo) (src : Source) :
    (s.admitted n m src).tables = s.tables.admitted n m src := by
  have slots := withSlot_form ((s.withBooking n fun b => { b with state := .releasing, source := some src }).lastReleaseCleared n) m
    (fun r => { r with queued := true }) fun _ => rfl
  rw [lastReleaseCleared_form, withBooking_form _ _ (fun b => { b with state := .releasing, source := some src }) fun _ => rfl] at slots
  exact congrArg (fun u => State.setRelease u
    { u.release with queue := u.release.queue ++ [{ booking := n, slot := m, source := src }] }) slots

theorem takeIn_tables (s : State) (b : Booking) (m : SlotNo) (src : Source) :
    (s.takeIn b m src).1.tables = (s.admitted b.number m src).tables := by
  have queued := modSlot_form ((s.toReleasing b.number src).setRelease
    { (s.toReleasing b.number src).release with
      queue := (s.toReleasing b.number src).release.queue ++ [{ booking := b.number, slot := m, source := src }] }) m
    (fun r => { r with queued := true }) fun _ => rfl
  refine queued.trans ?_
  rw [admitted_form]
  have released := toReleasing_form s b.number src
  have release : (s.toReleasing b.number src).release = s.release :=
    (congrArg State.release released).trans rfl
  rw [release]
  exact congrArg (fun u => (State.setRelease u { s.release with
    queue := s.release.queue ++ [{ booking := b.number, slot := m, source := src }] }).withSlot m fun r => { r with queued := true })
    released

theorem release_tables {s t : State} (h : s.tables = t.tables) : s.release = t.release :=
  show s.tables.release = t.tables.release from congrArg State.release h

theorem takeIn_release (s : State) (b : Booking) (m : SlotNo) (src : Source) :
    (s.takeIn b m src).1.release =
      { s.release with queue := s.release.queue ++ [{ booking := b.number, slot := m, source := src }] } :=
  release_tables (takeIn_tables s b m src)

theorem takeIn_place (s : State) (b : Booking) (m : SlotNo) (src : Source) :
    (s.takeIn b m src).2 = .accepted m (s.release.queue.length + 1) := by
  have length : (s.takeIn b m src).1.release.queue.length = s.release.queue.length + 1 := by rw [takeIn_release]; simp
  exact congrArg (Admission.accepted m) length

/-! ### The arbiter (R83) -/

/-- With nothing queued, or the budget used, the arbiter does nothing. -/
theorem arbiter_granted {s : State} (h : s.granted) : s.arbiter = s := by
  unfold State.arbiter
  cases queue : s.release.queue with
  | nil => rfl
  | cons e rest =>
    rcases h with empty | used
    · rw [queue] at empty; cases empty
    · rw [List.length_cons, State.arbiterTurns, queue]
      exact if_neg (Nat.not_lt.mpr used)

theorem allChannels_cut (c : ChanNo) :
    allChannels = (List.finRange 4).take c.val ++ c :: (List.finRange 4).drop (c.val + 1) := by
  revert c; decide

theorem lt_of_mem_take (c d : ChanNo) : d ∈ (List.finRange 4).take c.val → d < c := by
  revert c d; decide

theorem freeChan_lowest {s : State} {c : ChanNo} (free : s.chan c = .free) (lower : ∀ c' : ChanNo, c' < c → s.chan c' ≠ .free) :
    s.freeChan = some c := by
  rw [State.freeChan, List.find?_eq_some_iff_append]
  exact ⟨by simpa using free, _, _, allChannels_cut c, fun d mem => by simpa using lower d (lt_of_mem_take c d mem)⟩

/-- The one entry of the queue passes the grant check and takes channel `c`. -/
theorem arbiter_one {s : State} {e : QueueEntry} {c : ChanNo} (queue : s.release.queue = [e])
    (room : s.usedChannels < s.release.budget) (free : s.freeChan = some c) (check : s.grantCheck e = true) :
    s.arbiter = s.grant e c := by
  unfold State.arbiter
  rw [queue, List.length_singleton, State.arbiterTurns, queue]
  dsimp only
  rw [if_pos room, free]
  dsimp only
  rw [if_pos check]
  rfl

theorem addLatch_form (s : State) (n : SlotNo) (dir : LatchDir) (c : Option ChanNo) : (s.addLatch n dir c).tables = s.tables := by
  rw [addLatch_tables]

theorem grant_tables (s : State) (e : QueueEntry) (c : ChanNo) :
    (s.grant e c).tables =
      ((s.tables.setRelease { s.release with queue := s.release.queue.erase e }).withChan c (.opening e.slot e.booking)).withSlot e.slot
        fun r => { r with queued := false, channel := some c } := by
  rw [State.grant, addLatch_tables, modSlotLamp_form _ _ (fun r => { r with queued := false, channel := some c }) fun _ => rfl,
    putChan_form]
  rfl

theorem grant_asked {s : State} {e : QueueEntry} (online : s.slotOnline e.slot = true) (c : ChanNo) :
    (s.grant e c).latchAsked e.slot .openIt (some c) := by
  refine addLatch_asked ?_ _ _
  rw [← slotOnline_tables, modSlotLamp_form _ _ (fun r => { r with queued := false, channel := some c }) fun _ => rfl, putChan_form]
  exact (slotOnline_tables s e.slot).trans online

/-! ### One record read after a change -/

theorem slot_withSlot_self (s : State) (n : SlotNo) (f : SlotRec → SlotRec) : (s.withSlot n f).slot n = f (s.slot n) := by
  simp [State.withSlot, State.slot]

theorem slot_withSlot_ne {n k : SlotNo} (h : k ≠ n) (s : State) (f : SlotRec → SlotRec) : (s.withSlot n f).slot k = s.slot k := by
  have other : n.val ≠ k.val := fun e => h (Fin.ext e.symm)
  simp [State.withSlot, State.slot, other]

theorem slot_lastReleaseCleared (s : State) (b : Nat) (n : SlotNo) :
    (s.lastReleaseCleared b).slot n =
      if (s.slot n).lastRelease = some b then { s.slot n with lastRelease := none } else s.slot n :=
  Vector.getElem_map ..

theorem booking?_withBooking_self (s : State) (n : Nat) (f : Booking → Booking) (hf : ∀ b, (f b).number = b.number) :
    (s.withBooking n f).booking? n = (s.booking? n).map f := by
  have same := find?_map_same s.bookings (fun b => b.number == n) f fun b h => by rw [hf]; exact h
  simpa only [State.withBooking, State.booking?, beq_iff_eq] using same

theorem slotOfKey_tag {s : State} {k : Nat} {m : SlotNo} (h : s.slotOfKey k = some m) : (s.slot m).tag = some k := by
  obtain ⟨p, found, rfl⟩ := Option.map_eq_some_iff.mp h
  have tag := List.find?_some found
  have mem := List.mem_of_find?_eq_some found
  rw [slotList_eq] at mem
  obtain ⟨n, -, rfl⟩ := List.mem_map.mp mem
  simpa using tag

theorem usedChannels_congr {s t : State} (h : s.release.channels = t.release.channels) : s.usedChannels = t.usedChannels := by
  simp only [State.usedChannels, State.chan, h]

theorem grantCheck_tables (s : State) (e : QueueEntry) : s.tables.grantCheck e = s.grantCheck e := by
  simp only [State.grantCheck, tables_slot, slotOnline_tables, tables_booking?, SlotRec.bare_service, SlotRec.bare_occ,
    SlotRec.bare_tag]
  cases s.booking? e.booking <;> rfl

theorem grantCheck_congr {s t : State} (h : s.tables = t.tables) (e : QueueEntry) : s.grantCheck e = t.grantCheck e := by
  rw [← grantCheck_tables s, h, grantCheck_tables]

theorem slotCheck_online {s : State} {m : SlotNo} (check : s.slotCheck m = .accepted) : s.slotOnline m = true := by
  rw [slotOnline_iff]
  by_contra off
  rw [State.slotCheck, if_pos off] at check
  cases check

/-- What an admitted entry's grant check reads. -/
theorem admitted_grantCheck {s : State} {b : Booking} {m : SlotNo} (found : s.booking? b.number = some b)
    (slot : s.slotOfKey b.key = some m) (check : s.slotCheck m = .accepted) (held : (s.slot m).occ = .held) (src : Source) :
    (s.admitted b.number m src).grantCheck { booking := b.number, slot := m, source := src } = true := by
  have online : s.slotOnline m = true := slotCheck_online check
  have service : (s.slot m).service = .inService := by
    by_contra out
    rw [State.slotCheck, if_neg (not_not.mpr ((slotOnline_iff s m).mp online)), if_pos out] at check
    cases check
  let src' : Booking → Booking := fun b => { b with state := .releasing, source := some src }
  have record : (s.admitted b.number m src).slot m =
      { ((s.withBooking b.number src').lastReleaseCleared b.number).slot m with queued := true } :=
    slot_withSlot_self _ m fun r => { r with queued := true }
  have kept : ((s.withBooking b.number src').lastReleaseCleared b.number).slot m =
      { s.slot m with lastRelease := (((s.withBooking b.number src').lastReleaseCleared b.number).slot m).lastRelease } := by
    rw [slot_lastReleaseCleared]
    split <;> rfl
  have booking : (s.admitted b.number m src).booking? b.number = some (src' b) := by
    have self := booking?_withBooking_self s b.number src' fun _ => rfl
    rw [found] at self
    exact self
  have module : (s.admitted b.number m src).slotOnline m = true := online
  rw [kept] at record
  simp only [State.grantCheck, record, booking, module, service, held, slotOfKey_tag slot, src']
  simp

/-! ### RELEASE (R76 to R78, R83) -/

theorem grantedAlone_form (s : State) (n : Nat) (m : SlotNo) (c : ChanNo) :
    (s.grantedAlone n m c).tables = s.tables.grantedAlone n m c := by
  have slots := withSlot_form (s.withChan c (.opening m n)) m (fun r => { r with queued := false, channel := some c }) fun _ => rfl
  exact congrArg (fun u => State.setRelease u { u.release with queue := [] }) slots

theorem admitted_release {s t : State} {n : Nat} {m : SlotNo} {src : Source} (same : t.tables = (s.admitted n m src).tables) :
    t.release = { s.release with queue := s.release.queue ++ [{ booking := n, slot := m, source := src }] } :=
  release_tables same

/-- The arbiter's one grant behind an admission (R83). -/
theorem admitted_granted {s t : State} {b : Booking} {m : SlotNo} {c : ChanNo} {src : Source}
    (same : t.tables = (s.admitted b.number m src).tables) (found : s.booking? b.number = some b)
    (slot : s.slotOfKey b.key = some m) (check : s.slotCheck m = .accepted) (held : (s.slot m).occ = .held)
    (empty : s.release.queue = []) (room : s.usedChannels < s.release.budget) (free : s.chan c = .free)
    (lower : ∀ c' : ChanNo, c' < c → s.chan c' ≠ .free) :
    t.arbiter.tables = ((s.admitted b.number m src).grantedAlone b.number m c).tables ∧ t.arbiter.latchAsked m .openIt (some c) := by
  have release := admitted_release same
  rw [empty, List.nil_append] at release
  have channels : t.release.channels = s.release.channels := by rw [release]
  have freeChan : t.freeChan = some c := by
    refine freeChan_lowest ?_ fun d below => ?_
    · rw [State.chan, channels]; exact free
    · rw [State.chan, channels]; exact lower d below
  have granted := arbiter_one (s := t) (e := { booking := b.number, slot := m, source := src }) (c := c)
    (by rw [release]) (by rw [usedChannels_congr channels, release]; exact room) freeChan
    (by rw [grantCheck_congr same]; exact admitted_grantCheck found slot check held src)
  refine ⟨?_, ?_⟩
  · rw [granted, grant_tables, same, grantedAlone_form, release]
    simp only [List.erase_cons_head]
    rfl
  · rw [granted]
    refine grant_asked ?_ c
    rw [slotOnline_congr same]
    have online : s.slotOnline m = true := slotCheck_online check
    exact online

/-- Behind an admission the arbiter waits while the budget is used (R83). -/
theorem admitted_waiting {s t : State} {n : Nat} {m : SlotNo} {src : Source} (same : t.tables = (s.admitted n m src).tables)
    (full : s.release.budget ≤ s.usedChannels) : t.arbiter = t := by
  have release := admitted_release same
  refine arbiter_granted (Or.inr ?_)
  rw [usedChannels_congr (t := s) (by rw [release]), release]
  exact full

/-- A booking admitted after step 1 of R148, and before it. -/
theorem admitted_frameBegin (s : State) (n : Nat) (m : SlotNo) (src : Source) :
    (s.frameBegin.admitted n m src).tables = (s.heard.admitted n m src).tables := by
  rw [admitted_form, admitted_form, frameBegin_tables]

theorem releaseRequest_eq {n : Nat} (nonzero : n ≠ 0) (s : State) :
    s.releaseRequest n = ((s.askRelease n .counter none).2.after (s.askRelease n .counter none).1, (s.askRelease n .counter none).2.reply) :=
  if_neg nonzero

theorem admission_frameBegin (s : State) (n : Nat) (code : Option Nat) : s.frameBegin.admission n code = s.admission n code := by
  rw [admission_congr (frameBegin_tables s), heard_eq]; rfl

/-- Without a code no request is refused for a wrong one. -/
theorem admission_ne_codeWrong (s : State) (n : Nat) : s.admission n none ≠ .codeWrong := by
  rw [admission_eq]
  split
  · decide
  · split
    · decide
    · cases s.booking? n with
      | none => exact Result.noConfusion
      | some b =>
        simp only [Option.elim, State.bookingCheck, State.codeCheck, Option.isSome_none, Bool.false_eq_true, false_and, if_false,
          Bool.false_and, Option.getD_none]
        split
        · decide
        · rcases slotFor_eq s b with ⟨-, -, accepted, -⟩ | ⟨-, right, -⟩
          · rw [accepted]; decide
          · exact right

/-- Settles O17: `askRelease` refused or admitted, and the arbiter that waits (`admitted_waiting`) or grants (`admitted_granted`). -/
theorem releaseIsCheckedAdmittedAndGranted : Obligations.ReleaseIsCheckedAdmittedAndGranted := by
  intro s tag body n hears read
  have same := frameBegin_tables s
  refine ⟨fun zero => ?_, fun nonzero refused => ?_, fun b m nonzero accepted found slot => ?_⟩
  · exact served_of_refused (kind := 0x0A) (owner := fun n s => s.releaseRequest n) hears rfl read (if_pos zero)
  · refine served_of_refused (kind := 0x0A) (owner := fun n s => s.releaseRequest n) hears rfl read ?_
    have asked := askRelease_refused (s := s.frameBegin) (n := n) (code := none) .counter (by rw [admission_frameBegin]; exact refused)
    rw [releaseRequest_eq nonzero, asked, admission_frameBegin, State.refusedAs, if_neg (admission_ne_codeWrong s n)]
    rfl
  · intro a
    obtain ⟨c, m', here, slotHere, check, asked⟩ :=
      askRelease_accepted (s := s.frameBegin) (n := n) (code := none) .counter (by rw [admission_frameBegin]; exact accepted)
    obtain ⟨d, there, bare⟩ := booking?_frameBegin_eq_some found
    have number : c.number = n := booking?_number_eq here
    subst number
    rw [here] at there
    cases there
    have key : c.key = b.key := show c.bare.key = b.bare.key from congrArg Booking.key bare
    have place : m' = m := by
      have before : s.frameBegin.slotOfKey c.key = s.slotOfKey b.key := by
        rw [key, slotOfKey_congr same, heard_eq]; rfl
      rw [before, slot] at slotHere
      exact (Option.some.inj slotHere).symm
    subst place
    obtain ⟨-, -, -, release, -⟩ := frameBegin_blocks s
    have whole := releaseRequest_eq nonzero s.frameBegin
    rw [asked, takeIn_place, release] at whole
    have used : s.frameBegin.usedChannels = s.usedChannels := usedChannels_congr (by rw [release])
    have kept := (releaseRequest_calm s.frameBegin c.number).linkKept (frameBegin_tx s)
    refine ⟨fun full => ?_, fun chan empty room held free lower => ?_⟩
    · have waits := admitted_waiting (takeIn_tables s.frameBegin c m' .counter) (by rw [used, release]; exact full)
      refine served_of_owner (kind := 0x0A) (owner := fun n s => s.releaseRequest n)
        (r := { result := .accepted, fields := .accepted m' (s.release.queue.length + 1) }) hears rfl read kept
        (congrArg Prod.snd whole) ((congrArg (·.1.tables) whole).trans ?_)
      change ((s.frameBegin.takeIn c m' .counter).1.arbiter).tables = _
      rw [waits, takeIn_tables, admitted_frameBegin]
    · have heldNow : (s.frameBegin.slot m').occ = .held := by
        rw [show (s.frameBegin.slot m').occ = (s.heard.slot m').occ from
          show (s.frameBegin.slot m').bare.occ = (s.heard.slot m').bare.occ from congrArg SlotRec.occ (slot_bare same m'), heard_eq]
        exact held
      obtain ⟨tables, latch⟩ := admitted_granted (c := chan) (takeIn_tables s.frameBegin c m' .counter) here slotHere check heldNow
        (by rw [release]; exact empty) (by rw [used, release]; exact room) (by rw [State.chan, release]; exact free)
        (fun d below => by rw [State.chan, release]; exact lower d below)
      have owned : (s.frameBegin.releaseRequest c.number).1 = (s.frameBegin.takeIn c m' .counter).1.arbiter := congrArg Prod.fst whole
      obtain ⟨reached, answered⟩ := answered_of_owner (i := .release tag body) (kind := 0x0A) (tag := tag)
        (owner := fun n s => s.releaseRequest n)
        (r := { result := .accepted, fields := .accepted m' (s.release.queue.length + 1) })
        (u := (s.heard.admitted c.number m' .counter).grantedAlone c.number m' chan) hears rfl read kept
        (congrArg Prod.snd whole) (by
          rw [owned, tables, grantedAlone_form, grantedAlone_form, admitted_frameBegin])
      refine ⟨_, reached, answered, ?_⟩
      rw [owned]
      exact latchAsked_finish _ latch

end Sys2Proof.Machine
end

section
/-! SUPPORT. CODE_ENTRY at the Kiosk Port (R73, R161). -/

namespace Sys2Proof.Machine

theorem KioskPort.wake_answer (k : KioskPort) (a : KioskAnswer) (rx : Receiver) :
    ({ k with rx, answer := some a }).wake.tx = (k.given a).1 ∧ ({ k with rx, answer := some a }).wake.answer = (k.given a).2
      ∧ ({ k with rx, answer := some a }).wake.rx = rx := by
  unfold KioskPort.wake KioskPort.given
  by_cases idle : k.tx = .idle <;> simp [idle, KioskPort.choose]

theorem KioskPort.given_ne_idle (k : KioskPort) (a : KioskAnswer) : (k.given a).1 ≠ .idle := by
  unfold KioskPort.given
  split
  · exact KioskTx.noConfusion
  · next busy => exact busy

/-- A kiosk frame served by an owner that leaves the Kiosk Port alone. -/
theorem kioskServed_of_takeKioskFrame {s t u : State} {i : Instr} {tag : Byte} {owner : State → State × KioskReply}
    {after : KioskReply → State → State} {r : KioskReply} (hears : s.kioskHears)
    (e : exec i s = .next (s.takeKioskFrame tag owner after))
    (owned : owner (s.setKiosk { s.kiosk with rx := .searching }) = (t, r)) (kiosk : t.kiosk = { s.kiosk with rx := .searching })
    (calm : ∀ v, Calm v (after r v)) (tables : ∀ v : State, v.tables = t.tables → (after r v).tables = u.tables) :
    KioskServed s i { tag, booking := r.booking, result := r.result, accepted := r.accepted } u := by
  obtain ⟨running, on, empty⟩ := hears
  let a : KioskAnswer := { tag, booking := r.booking, result := r.result, accepted := r.accepted }
  have event : exec i s = .next (after r (t.placeKioskAnswer a)).chooseCommand := by
    refine gives_event _ e running ?_
    refine (if_pos on).trans ?_
    dsimp only
    split
    · next held => rw [empty] at held; cases held
    · rw [owned]
  obtain ⟨tx, answer, rx⟩ := KioskPort.wake_answer s.kiosk a .searching
  have placed : (t.placeKioskAnswer a).kiosk = ({ s.kiosk with rx := .searching, answer := some a } : KioskPort).wake := by
    rw [State.placeKioskAnswer, kiosk]; rfl
  have busy : (t.placeKioskAnswer a).kiosk.tx ≠ .idle := by
    rw [placed, tx]; exact KioskPort.given_ne_idle _ _
  obtain ⟨txKept, answerKept⟩ := (calm (t.placeKioskAnswer a)).kioskHeld busy
  refine ⟨_, event, ?_, ?_, ?_⟩
  · rw [chooseCommand_tables]
    exact tables _ (placeKioskAnswer_tables t a)
  · rw [(chooseCommand_kept _).1, txKept, answerKept, placed, tx, answer]
  · rw [(chooseCommand_kept _).1, (calm _).kioskRx, placed, rx]

/-! ### The owner leaves the Kiosk Port alone -/

theorem foldl_modSlot_kiosk {α : Type} (l : List α) (at_ : α → SlotNo) (f : SlotRec → SlotRec) (s : State) :
    (l.foldl (fun s a => s.modSlot (at_ a) f) s).kiosk = s.kiosk := by
  induction l generalizing s with
  | nil => rfl
  | cons a l ih => exact ih _

theorem takeIn_kiosk (s : State) (b : Booking) (m : SlotNo) (src : Source) : (s.takeIn b m src).1.kiosk = s.kiosk := by
  have released := (alert_kiosk s.kiosk
    ((s.mapBooking b.number fun x => { x with state := .releasing, source := some src }).clearLastRelease b.number).bus).withdraw
    (.booking b.number) [.untaken]
    (s := (s.mapBooking b.number fun x => { x with state := .releasing, source := some src }).clearLastRelease b.number)
    ⟨foldl_modSlot_kiosk _ _ _ _, rfl⟩
  exact released.1

theorem refusedAs_kiosk (s : State) (n : Nat) (r : Result) : (s.refusedAs n r).kiosk = s.kiosk := by
  unfold State.refusedAs
  split <;> rfl

theorem refusedAs_tables (s : State) (n : Nat) (r : Result) :
    (s.refusedAs n r).tables = (if r = .codeWrong then s.withBooking n fun b => { b with failures := b.failures + 1 } else s).tables := rfl

/-- Settles O18: as RELEASE (O17), with the wrong code counted and the answer placed before the arbiter runs. -/
theorem codeEntryIsCheckedAdmittedAndGranted : Obligations.CodeEntryIsCheckedAdmittedAndGranted := by
  intro s tag body r hears read n res
  let sk := s.setKiosk { s.kiosk with rx := .searching }
  have same : sk.tables = s.tables := setKiosk_tables _ _ rfl
  have owner : (match readPair 4 3 body with
      | some r => sk.codeEntry r
      | none => (sk, KioskReply.of .badField)) = sk.codeEntry r := by rw [read]
  have never (q : KioskReply) (v : State) : Calm v (q.after v) := by
    unfold KioskReply.after
    split
    · exact arbiter_calm v
    · exact Calm.refl v
  refine ⟨fun bad => ?_, fun nonzero small refused => ?_, fun b m nonzero small accepted found slot => ?_⟩
  · refine kioskServed_of_takeKioskFrame (t := sk) (r := { booking := n, result := .badField, accepted := none }) hears rfl
      (owner.trans (if_pos bad)) rfl (never _) fun v h => h.trans same
  · have asked := askRelease_refused (s := sk) (n := n) (code := some r.second) .kiosk refused
    have whole : sk.codeEntry r = (sk.refusedAs n res, { booking := n, result := res, accepted := none }) := by
      rw [State.codeEntry, if_neg (by simp only [Config.codeMax]; omega), asked]
      rfl
    refine kioskServed_of_takeKioskFrame (t := sk.refusedAs n res) (r := { booking := n, result := res, accepted := none }) hears rfl
      (owner.trans whole) (refusedAs_kiosk _ _ _) (never _) fun v h => h.trans ?_
    rw [refusedAs_tables]
    split
    · rw [withBooking_form _ _ (fun b => { b with failures := b.failures + 1 }) fun _ => rfl, same,
        withBooking_form _ _ (fun b => { b with failures := b.failures + 1 }) fun _ => rfl]
    · exact same
  · intro a
    obtain ⟨c, m', here, slotHere, check, asked⟩ := askRelease_accepted (s := sk) (n := n) (code := some r.second) .kiosk accepted
    have there : s.booking? n = some c := here
    rw [found] at there
    cases there
    have placeSame : some m' = some m := slotHere.symm.trans slot
    cases placeSame
    have number : b.number = n := booking?_number_eq found
    have whole : sk.codeEntry r =
        ((sk.takeIn b m .kiosk).1, { booking := n, result := .accepted, accepted := some (m, s.release.queue.length + 1) }) := by
      rw [State.codeEntry, if_neg (by simp only [Config.codeMax]; omega), asked]
      dsimp only
      rw [takeIn_place]
      rfl
    have admitted : (sk.takeIn b m .kiosk).1.tables = (s.admitted n m .kiosk).tables := by
      rw [takeIn_tables, number, admitted_form, admitted_form, same]
    have serve {u : State} (tables : ∀ v : State, v.tables = (s.admitted n m .kiosk).tables → v.arbiter.tables = u.tables) :
        KioskServed s (.codeEntry tag body) a u :=
      kioskServed_of_takeKioskFrame (t := (sk.takeIn b m .kiosk).1)
        (r := { booking := n, result := .accepted, accepted := some (m, s.release.queue.length + 1) }) hears rfl
        (owner.trans whole) (takeIn_kiosk _ _ _ _) (never _) fun v h => tables v (h.trans admitted)
    refine ⟨fun full => serve fun v h => ?_, fun chan empty room held free lower => serve fun v h => ?_⟩
    · rw [admitted_waiting h full, h]
    · rw [← number] at h found ⊢
      exact (admitted_granted h found slot check held empty room free lower).1

end Sys2Proof.Machine
end

section
/-! SUPPORT. BOOKING_AMEND (R64 to R66), with the Due Watch's part for an OUT booking (R127). -/

namespace Sys2Proof.Machine

/-! ### The checks of R64, as claims state them -/

/-- Checks 1 and 2 of R64. -/
def BookingAmendReq.valid (r : BookingAmendReq) : Bool :=
  !(r.due.isNone && r.grace.isNone && r.escalation.isNone && r.code.isNone && r.window.isNone)
    && decide (r.grace.getD 0 ≤ 240) && decide (r.escalation.getD 0 ≤ 1440) && decide ((r.code.getD none).getD 0 ≤ 999999)

/-- The kind against the code, and the window against itself and due. -/
def Booking.consistent (b : Booking) : Bool :=
  (b.kind == .rental || b.code.isNone) && !(b.window.any fun w => decide (w.2 < w.1) || decide (b.due ≤ w.1))

theorem inRange_eq (grace escalation : Nat) (code : Option Nat) :
    inRange grace escalation code = (decide (grace ≤ 240) && decide (escalation ≤ 1440) && decide (code.getD 0 ≤ 999999)) := by
  cases code <;> simp [inRange, Config.graceMax, Config.escalationMax, Config.codeMax]

theorem agrees_eq (b : Booking) : agrees b.kind b.code b.window b.due = b.consistent := by
  unfold agrees Booking.consistent
  cases window : b.window with
  | none => rfl
  | some w => simp only [Option.any_some, Bool.not_or, ← decide_not, Nat.not_lt, Nat.not_le]

theorem BookingAmendReq.valid_eq_false (r : BookingAmendReq) : (r.changes = false ∨ r.ranges = false) ↔ r.valid = false := by
  have changes : r.changes = !(r.due.isNone && r.grace.isNone && r.escalation.isNone && r.code.isNone && r.window.isNone) := by
    simp [BookingAmendReq.changes]
  have valid : r.valid = (r.changes && r.ranges) := by
    rw [BookingAmendReq.valid, BookingAmendReq.ranges, inRange_eq, changes]
    simp only [Bool.and_assoc]
  rw [valid, Bool.and_eq_false_iff]

theorem BookingAmendReq.apply_eq (r : BookingAmendReq) (b : Booking) :
    r.apply b =
      { b with
        due := r.due.getD b.due, grace := r.grace.getD b.grace, escalation := r.escalation.getD b.escalation
        code := r.code.getD b.code, window := r.window.getD b.window
        failures := if r.code = none then b.failures else 0 } := by
  unfold BookingAmendReq.apply
  cases r.code <;> rfl

theorem BookingAmendReq.apply_bare (r : BookingAmendReq) (b : Booking) : (r.apply b).bare = r.apply b.bare := rfl

/-- BOOKING_AMEND of a booking that is there, by the booking's state. -/
theorem bookingAmend_found {s : State} {r : BookingAmendReq} {b : Booking} (found : s.booking? r.number = some b) :
    s.bookingAmend r =
      if r.valid = false then s.refuse .badField
      else if b.state = .loaded then
        if (r.apply b).consistent then (s.mapBooking r.number r.apply).accept else s.refuse .badField
      else if b.state = .out then
        if r.code ≠ none ∨ r.window ≠ none then s.refuse .wrongState
        else ((s.mapBooking r.number r.apply).dueAmend r.number).accept
      else s.refuse .wrongState := by
  have flagged : (r.code.isSome || r.window.isSome) = true ↔ r.code ≠ none ∨ r.window ≠ none := by
    simp [Option.isSome_iff_ne_none]
  simp only [State.bookingAmend, found, r.valid_eq_false, agrees_eq, flagged]
  cases b.state <;> rfl

/-! ### The Due Watch's part (R127) -/

theorem Stage.rank_inj {a b : Stage} (h : a.rank = b.rank) : a = b := by
  cases a <;> cases b <;> simp_all [Stage.rank]

/-- The stage an amended booking has, and the alerts that go with it. -/
def State.restaged (s : State) (n : Nat) (old new : Stage) : State :=
  if old.rank < new.rank then (s.setStage n new).raiseStage n new
  else if new.rank < old.rank then ((s.setStage n new).withdrawStage n).raiseStage n new
  else s

theorem dueAmend_eq {s : State} {n now : Nat} {b : Booking} {old : Stage} (found : s.booking? n = some b) (time : s.time = some now)
    (stage : b.stage = some old) :
    s.dueAmend n = (s.restaged n old (b.stageAt now)).duePlace n (b.nextDeadline (b.stageAt now)) := by
  simp only [State.dueAmend, found, time, stage, Option.getD_some]
  rfl

/-- The change of the bookings: the stage where it moves, none where it is the one held. -/
def restage (old new : Stage) (b : Booking) : Booking := if old.rank = new.rank then b else { b with stage := some new }

theorem restage_bare (old new : Stage) (b : Booking) : (restage old new b).bare = restage old new b.bare := by
  unfold restage
  split <;> rfl

theorem restaged_tables (s : State) (n : Nat) (old new : Stage) :
    (s.restaged n old new).tables = s.tables.withBooking n (restage old new) := by
  have moved (h : old.rank ≠ new.rank) : restage old new = fun b => { b with stage := some new } := by
    funext b; exact if_neg h
  have kept (h : old.rank = new.rank) (t : State) : t.withBooking n (restage old new) = t := by
    have same : restage old new = id := by funext b; exact if_pos h
    simp [State.withBooking, same]
  unfold State.restaged
  split
  · next up => rw [raiseStage_tables, setStage_form, moved (Nat.ne_of_lt up)]
  · split
    · next down => rw [raiseStage_tables, State.withdrawStage, withdrawAlert_tables, setStage_form, moved (Nat.ne_of_gt down)]
    · next up down => rw [kept (by omega)]

theorem dueAmend_tables {s : State} {n now : Nat} {b : Booking} {old : Stage} (found : s.booking? n = some b)
    (time : s.time = some now) (stage : b.stage = some old) :
    (s.dueAmend n).tables =
      (s.tables.withBooking n (restage old (b.stageAt now))).setDueList
        (dueAfter n (b.nextDeadline (b.stageAt now)) s.dueList) := by
  have same := restaged_tables s n old (b.stageAt now)
  have due : (s.restaged n old (b.stageAt now)).dueList = s.dueList :=
    show (s.restaged n old (b.stageAt now)).tables.dueList = s.dueList from (congrArg State.dueList same).trans rfl
  rw [dueAmend_eq found time stage, duePlace_form, due, same]

theorem booking?_withBooking_ne {n k : Nat} (h : k ≠ n) (s : State) (f : Booking → Booking) (hf : ∀ b, (f b).number = b.number) :
    (s.withBooking n f).booking? k = s.booking? k := by
  have other := find?_map_other s.bookings (fun b => b.number == k) (fun b => b.number == n) f fun b same => by
    rw [beq_iff_eq] at same
    exact ⟨by simpa [same] using h.symm, by simpa [hf, same] using h.symm⟩
  simpa only [State.withBooking, State.booking?, beq_iff_eq] using other

theorem bareBooking? (s : State) (n : Nat) : (s.booking? n).map Booking.bare = s.tables.booking? n := (tables_booking? s n).symm

/-- An amended booking's record at its new stage: where the stage is the one held, it already stands there. -/
theorem restage_eq {old new : Stage} {b : Booking} (stage : b.stage = some old) : restage old new b = { b with stage := some new } := by
  unfold restage
  split
  · next same => rw [← Stage.rank_inj same, ← stage]
  · rfl

/-- Settles O12: the checks are `bookingAmend_found`, an OUT booking's new stage and place `dueAmend_tables`. -/
theorem bookingAmendChecksThenAmends : Obligations.BookingAmendChecksThenAmends := by
  intro s tag body r hears read amend ranges agrees
  have same := frameBegin_tables s
  have applied : r.apply = amend := funext r.apply_eq
  have kept := (bookingAmend_calm s.frameBegin r).linkKept (frameBegin_tx s)
  refine ⟨fun missing => ?_, fun b found => ?_⟩
  · refine served_of_refused (kind := 0x04) (owner := fun r s => s.bookingAmend r) hears rfl read ?_
    simp only [State.bookingAmend, booking?_frameBegin_eq_none missing]
  · obtain ⟨c, here, bare⟩ := booking?_frameBegin_eq_some found
    have whole := bookingAmend_found here
    have state : c.state = b.state := show c.bare.state = b.bare.state from congrArg Booking.state bare
    have consistent : (r.apply c).consistent = agrees (amend b) := by
      have through : (r.apply c.bare).consistent = (r.apply b.bare).consistent := by rw [bare]
      rw [← applied]
      exact through
    rw [state, consistent, show r.valid = ranges from rfl] at whole
    have refuse {res : Result} (h : s.frameBegin.bookingAmend r = s.frameBegin.refuse res) :
        Served s (.bookingAmend tag body) (plain 0x84 tag res) s.heard :=
      served_of_refused (kind := 0x04) (owner := fun r s => s.bookingAmend r) hears rfl read h
    refine ⟨fun notOut => ?_, fun out bad => ?_, fun out good flagged => ?_, fun old now out good code window stage time => ?_⟩
    · intro res
      by_cases bad : ranges = false
      · have result : res = .badField := if_pos bad
        rw [result, if_neg (by decide)]
        exact refuse (whole.trans (if_pos bad))
      · rw [if_neg bad] at whole
        by_cases loaded : b.state = .loaded
        · rw [if_pos loaded] at whole
          by_cases fits : agrees (amend b) = true
          · have result : res = .ok :=
              (if_neg bad).trans ((if_neg (not_not.mpr loaded)).trans (if_neg (by rw [fits]; decide)))
            rw [if_pos fits] at whole
            rw [result, if_pos rfl]
            refine served_of_owner (kind := 0x04) (owner := fun r s => s.bookingAmend r) (r := .of .ok) hears rfl read kept
              (congrArg Prod.snd whole) ((congrArg (·.1.tables) whole).trans ?_)
            change (s.frameBegin.mapBooking r.number r.apply).tables = _
            rw [mapBooking_form _ _ r.apply r.apply_bare, same, applied,
              withBooking_form _ _ amend fun _ => rfl]
          · have result : res = .badField :=
              (if_neg bad).trans ((if_neg (not_not.mpr loaded)).trans (if_pos (by simpa using fits)))
            rw [if_neg fits] at whole
            rw [result, if_neg (by decide)]
            exact refuse whole
        · have result : res = .wrongState := (if_neg bad).trans (if_pos loaded)
          rw [result, if_neg (by decide)]
          exact refuse (whole.trans ((if_neg loaded).trans (if_neg notOut)))
    · exact refuse (whole.trans (if_pos bad))
    · rw [if_neg (by rw [good]; decide), if_neg (by rw [out]; decide), if_pos out, if_pos flagged] at whole
      exact refuse whole
    · rw [if_neg (by rw [good]; decide), if_neg (by rw [out]; decide), if_pos out, if_neg (by simp [code, window])] at whole
      intro st
      let u := s.frameBegin.mapBooking r.number r.apply
      have amended : u.booking? r.number = some (r.apply c) := by
        have self := booking?_withBooking_self s.frameBegin r.number r.apply fun _ => rfl
        rw [here] at self
        exact self
      have timeNow : u.time = some now := (frameBegin_kept s).2.2.2.2.2.2.1.trans time
      have stageHeld : (r.apply c).stage = some old := (show c.bare.stage = b.bare.stage from congrArg Booking.stage bare).trans stage
      have stageNow : (r.apply c).stageAt now = st := by
        have through : (r.apply c.bare).stageAt now = (r.apply b.bare).stageAt now := by rw [bare]
        exact applied ▸ through
      have next : (r.apply c).nextDeadline st = (amend b).nextDeadline st := by
        have through : (r.apply c.bare).nextDeadline st = (r.apply b.bare).nextDeadline st := by rw [bare]
        exact applied ▸ through
      have dueList : u.dueList = s.dueList := (frameBegin_blocks s).2.2.1
      have tables := dueAmend_tables amended timeNow stageHeld
      rw [stageNow, next, dueList, mapBooking_form _ _ r.apply r.apply_bare, same] at tables
      have ends : (s.frameBegin.bookingAmend r).1 = u.dueAmend r.number := congrArg Prod.fst whole
      have bookings : (u.dueAmend r.number).bookings.map Booking.bare =
          ((s.heard.tables.withBooking r.number r.apply).withBooking r.number (restage old st)).bookings :=
        (congrArg State.bookings tables).trans rfl
      obtain ⟨reached, answered⟩ := answered_of_owner (i := .bookingAmend tag body) (kind := 0x04) (tag := tag)
        (owner := fun r s => s.bookingAmend r) (r := .of .ok)
        (u := { s.heard with
          bookings := (u.dueAmend r.number).bookings, dueList := dueAfter r.number ((amend b).nextDeadline st) s.dueList })
        hears rfl read kept (congrArg Prod.snd whole) (by
          rw [ends, tables]
          exact congrArg (fun l => State.setBookings
            (s.heard.tables.setDueList (dueAfter r.number ((amend b).nextDeadline st) s.dueList)) l) bookings.symm)
      have heardBooking (k : Nat) : s.heard.tables.booking? k = (s.booking? k).map Booking.bare := by
        rw [tables_booking?, heard_eq]; rfl
      have number (b : Booking) : (restage old st b).number = b.number := by unfold restage; split <;> rfl
      have finished (k : Nat) (a : Answer) : (((s.frameBegin.bookingAmend r).1.finish a).booking? k).map Booking.bare =
          ((s.heard.tables.withBooking r.number r.apply).withBooking r.number (restage old st)).booking? k := by
        have kept : ((s.frameBegin.bookingAmend r).1.finish a).booking? k = (u.dueAmend r.number).booking? k := by
          rw [ends]
          exact congrArg (List.find? fun b => b.number == k) (chooseCommand_records _).2.2.2.1
        rw [kept, bareBooking?, tables]
        rfl
      refine ⟨_, reached, ?_, fun k other => ?_, ?_⟩
      · rw [finished, booking?_withBooking_self _ _ _ number, booking?_withBooking_self _ _ r.apply fun _ => rfl, heardBooking, found]
        have held : (r.apply b.bare).stage = some old := stage
        rw [Option.map_some, Option.map_some, Option.map_some, restage_eq held, applied]
        rfl
      · rw [finished, booking?_withBooking_ne other _ _ number, booking?_withBooking_ne other _ r.apply fun _ => rfl, heardBooking]
      · have list (a : Answer) : ((s.frameBegin.bookingAmend r).1.finish a).bookings = (u.dueAmend r.number).bookings := by
          rw [ends]; exact (chooseCommand_records _).2.2.2.1
        rw [list]
        rw [dueAfter_eq] at answered
        exact answered

end Sys2Proof.Machine
end

section
/-! SUPPORT. BOOKING_CANCEL (R67, R68, R95). -/

namespace Sys2Proof.Machine

/-! ### What a cancel leaves of the Kiosk Port and the bus -/

theorem frameBegin_ports (s : State) : s.frameBegin.kiosk = s.kiosk ∧ s.frameBegin.bus = s.bus := by
  unfold State.frameBegin
  dsimp only
  split
  · exact (alert_kiosk s.kiosk s.bus).withdraw _ _ ⟨rfl, rfl⟩
  · exact ⟨rfl, rfl⟩

theorem foldl_modSlot_ports {α : Type} (l : List α) (at_ : α → SlotNo) (f : SlotRec → SlotRec) (s : State) :
    (l.foldl (fun s a => s.modSlot (at_ a) f) s).kiosk = s.kiosk ∧ (l.foldl (fun s a => s.modSlot (at_ a) f) s).bus = s.bus := by
  induction l generalizing s with
  | nil => exact ⟨rfl, rfl⟩
  | cons a l ih => exact ih _

theorem leftLoaded_ports (s : State) (n : Nat) : (s.leftLoaded n).kiosk = s.kiosk ∧ (s.leftLoaded n).bus = s.bus :=
  (alert_kiosk s.kiosk s.bus).withdraw _ _ (foldl_modSlot_ports _ _ _ _)

theorem toCancelled_ports (s : State) (n : Nat) : (s.toCancelled n).kiosk = s.kiosk ∧ (s.toCancelled n).bus = s.bus :=
  leftLoaded_ports _ n

theorem relamp_ports (s : State) (n : SlotNo) : (s.relamp n).kiosk = s.kiosk ∧ (s.relamp n).bus = s.bus := by
  unfold State.relamp
  split
  · exact ⟨rfl, rfl⟩
  · unfold State.wantLamps
    split <;> exact ⟨rfl, rfl⟩

theorem quarantine_ports (s : State) (n : SlotNo) (k : Option FaultKind) :
    (s.quarantine n k).kiosk = s.kiosk ∧ (s.quarantine n k).bus = s.bus := by
  have slots (f : SlotRec → SlotRec) : (s.modSlotLamp n f).kiosk = s.kiosk ∧ (s.modSlotLamp n f).bus = s.bus := relamp_ports _ n
  unfold State.quarantine
  dsimp only
  split
  · exact slots _
  · exact slots _

theorem freeChannel_ports (s : State) (c : ChanNo) : (s.freeChannel c).kiosk = s.kiosk ∧ (s.freeChannel c).bus = s.bus := by
  unfold State.freeChannel
  split
  · exact ⟨rfl, rfl⟩
  · dsimp only
    split
    · exact quarantine_ports _ _ _
    · exact relamp_ports _ _

/-! ### The two withdrawals -/

/-- A cancel of a queued booking up to its report. -/
def State.queuedCancelled (s : State) (e : QueueEntry) : State := (s.dequeue e).toCancelled e.booking

theorem cancelQueued_eq (s : State) (e : QueueEntry) :
    s.cancelQueued e =
      (s.queuedCancelled e).told (.releaseWithdrawn (s.relInfo e.booking e.slot) (s.sourceOf e.booking) .queued)
        (s.sourceOf e.booking) e.booking .aborted := rfl

/-- A channel's booking cancelled while its latch is, or may be, open: CLOSING, with LATCH CLOSE. -/
def State.closingCancelled (s : State) (c : ChanNo) (n : SlotNo) (b : Nat) : State :=
  (((s.withdrawLatch c .openIt).setPhase c (.closing n b .withdrawn)).addLatch n .closeIt (some c)).toCancelled b

/-- A channel's booking cancelled before its LATCH OPEN has been sent: the channel is FREE. -/
def State.freedCancelled (s : State) (c : ChanNo) (b : Nat) : State := ((s.withdrawLatch c .openIt).freeChannel c).toCancelled b

theorem cancelChannel_opened {s : State} {c : ChanNo} {n : SlotNo} {b d : Nat} (chan : s.chan c = .opened n b d) :
    s.cancelChannel c =
      (s.closingCancelled c n b).told (.releaseWithdrawn (s.relInfo b n) (s.sourceOf b) .opened) (s.sourceOf b) b .aborted := by
  simp only [State.cancelChannel, chan]
  rfl

theorem cancelChannel_sent {s : State} {c : ChanNo} {n : SlotNo} {b : Nat} (chan : s.chan c = .opening n b) (sent : s.openSent c = true) :
    s.cancelChannel c =
      (s.closingCancelled c n b).told (.releaseWithdrawn (s.relInfo b n) (s.sourceOf b) .opening) (s.sourceOf b) b .aborted := by
  simp only [State.cancelChannel, chan, sent, if_true]
  rfl

theorem cancelChannel_unsent {s : State} {c : ChanNo} {n : SlotNo} {b : Nat} (chan : s.chan c = .opening n b)
    (unsent : s.openSent c = false) :
    s.cancelChannel c =
      (s.freedCancelled c b).told (.releaseWithdrawn (s.relInfo b n) (s.sourceOf b) .opening) (s.sourceOf b) b .aborted := by
  simp only [State.cancelChannel, chan, unsent, Bool.false_eq_true, if_false]
  rfl

/-- A booking CANCELLED, as far as the tables go. -/
def State.cancelled (s : State) (n : Nat) : State := (s.withBooking n fun b => { b with state := .cancelled }).lastReleaseCleared n

theorem cancelled_form (s : State) (n : Nat) : (s.cancelled n).tables = s.tables.cancelled n := by
  rw [State.cancelled, lastReleaseCleared_form, withBooking_form _ _ (fun b => { b with state := .cancelled }) fun _ => rfl]
  rfl

theorem toCancelled_tables (s : State) (n : Nat) : (s.toCancelled n).tables = s.tables.cancelled n := toCancelled_form s n

section
variable (s : State) (c : ChanNo) (n : SlotNo) (b : Nat)

theorem queuedCancelled_tables (e : QueueEntry) : (s.queuedCancelled e).tables = (s.tables.dequeued e).cancelled e.booking := by
  rw [State.queuedCancelled, toCancelled_tables, dequeue_form]

theorem closingCancelled_tables :
    (s.closingCancelled c n b).tables = (s.tables.withChan c (.closing n b .withdrawn)).cancelled b := by
  rw [State.closingCancelled, toCancelled_tables, addLatch_tables, setPhase_form, withdrawLatch_tables]

theorem freedCancelled_tables {n : SlotNo} (chan : s.chan c = .opening n b) :
    (s.freedCancelled c b).tables = (s.tables.freed c n).cancelled b := by
  rw [State.freedCancelled, toCancelled_tables, freeChannel_form (n := n), withdrawLatch_tables]
  rw [show (s.withdrawLatch c .openIt).chan c = s.chan c from rfl, chan]
  rfl

theorem queuedCancelled_kiosk (e : QueueEntry) : (s.queuedCancelled e).kiosk = s.kiosk := (toCancelled_ports _ _).1

theorem closingCancelled_kiosk : (s.closingCancelled c n b).kiosk = s.kiosk := by
  obtain ⟨bus, added⟩ := addLatch_kept ((s.withdrawLatch c .openIt).setPhase c (.closing n b .withdrawn)) n .closeIt (some c)
  rw [State.closingCancelled, (toCancelled_ports _ _).1, added]
  exact setPhase_kiosk _ _ _

theorem freedCancelled_kiosk : (s.freedCancelled c b).kiosk = s.kiosk := by
  rw [State.freedCancelled, (toCancelled_ports _ _).1, (freeChannel_ports _ _).1]
  rfl

theorem queuedCancelled_calm (e : QueueEntry) : Calm s (s.queuedCancelled e) := (dequeue_calm _ _).trans (toCancelled_calm _ _)

theorem closingCancelled_calm : Calm s (s.closingCancelled c n b) :=
  (withdrawLatch_calm _ _ _).trans ((setPhase_calm _ _ _).trans ((addLatch_calm _ _ _ _).trans (toCancelled_calm _ _)))

theorem freedCancelled_calm : Calm s (s.freedCancelled c b) :=
  (withdrawLatch_calm _ _ _).trans ((freeChannel_calm _ _).trans (toCancelled_calm _ _))

theorem closingCancelled_asked {s : State} {n : SlotNo} (online : s.slotOnline n = true) (c : ChanNo) (b : Nat) :
    (s.closingCancelled c n b).latchAsked n .closeIt (some c) := by
  refine latchAsked_congr (toCancelled_ports _ b).2 (addLatch_asked ?_ _ _)
  rw [← slotOnline_tables, setPhase_form]
  exact (slotOnline_tables s n).trans online

end

/-! ### The arbiter behind a withdrawal -/

/-- A channel that was not FREE and is not FREE counts as before (R82). -/
theorem usedChannels_withChan {s : State} {c : ChanNo} {x : Channel} (was : s.chan c ≠ .free) (is : x ≠ .free) :
    (s.withChan c x).usedChannels = s.usedChannels := by
  have each (d : ChanNo) : ((s.withChan c x).chan d != .free) = (s.chan d != .free) := by
    by_cases same : d = c
    · subst same
      have here : (s.withChan d x).chan d = x := by simp [State.withChan, State.chan]
      rw [here, bne_iff_ne.mpr was, bne_iff_ne.mpr is]
    · have other : c.val ≠ d.val := fun e => same (Fin.ext e.symm)
      have there : (s.withChan c x).chan d = s.chan d := by simp [State.withChan, State.chan, other]
      rw [there]
  simp only [State.usedChannels, each]

theorem granted_withChan {s t : State} {c : ChanNo} {x : Channel} (was : s.chan c ≠ .free) (is : x ≠ .free) (granted : s.granted)
    (release : t.release = (s.withChan c x).release) : t.granted := by
  have used : t.usedChannels = s.usedChannels := by
    rw [usedChannels_congr (t := s.withChan c x) (by rw [release]), usedChannels_withChan was is]
  rw [State.granted, used, release]
  exact granted

/-! ### The request -/

/-- A cancel that ends with its report and its notice. -/
theorem cancelled_told {s u w : State} {tag : Byte} {body : List Byte} {n : Nat} {r : ReportBody} {source : Option Source}
    (hears : s.hears) (read : readOne 4 body = some n)
    (whole : s.frameBegin.bookingCancel n = (u.told r source n .aborted, .of .ok)) (calm : Calm s.frameBegin u)
    (kiosk : u.kiosk = s.frameBegin.kiosk) (tables : u.tables = w.tables) :
    ∃ t : State, exec (.bookingCancel tag body) s = .next t ∧ Answered s t (plain 0x85 tag .ok) w ∧ t.lastReport = some r
      ∧ s.tells t source n .aborted ∧ ∀ m dir c, u.latchAsked m dir c → t.latchAsked m dir c := by
  have begun := frameBegin_tx s
  have held : u.link.tx ≠ .idle := by rw [(calm.held begun).1]; exact begun
  have ends : (s.frameBegin.bookingCancel n).1 = u.told r source n .aborted := congrArg Prod.fst whole
  have keptCalm := bookingCancel_calm s.frameBegin n
  obtain ⟨reached, answered⟩ := answered_of_owner (i := .bookingCancel tag body) (kind := 0x05) (tag := tag)
    (owner := fun n s => s.bookingCancel n) (r := .of .ok) (u := w) hears rfl read (keptCalm.linkKept begun) (congrArg Prod.snd whole)
    (by rw [ends, told_tables, tables])
  have heldTold : (s.frameBegin.bookingCancel n).1.link.tx ≠ .idle := by rw [(keptCalm.held begun).1]; exact begun
  refine ⟨_, reached, answered, ?_, ?_, fun m dir c asked => ?_⟩
  · rw [finish_lastReport _ heldTold, ends]
    exact told_lastReport _ _ _ _ _ held
  · refine tells_congr (finish_kiosk _ _) ?_
    rw [ends]
    exact told_tells (kiosk.trans (frameBegin_ports s).1) _ _ _ _
  · refine latchAsked_finish _ ?_
    rw [ends]
    exact latchAsked_congr (told_bus _ _ _ _ _) asked

theorem bookingCancel_loaded {s : State} {n : Nat} {b : Booking} (found : s.booking? n = some b) (loaded : b.state = .loaded) :
    s.bookingCancel n = (s.toCancelled n).accept := by
  simp only [State.bookingCancel, found, loaded]

theorem bookingCancel_releasing {s : State} {n : Nat} {b : Booking} (found : s.booking? n = some b) (releasing : b.state = .releasing) :
    s.bookingCancel n = (s.cancelReleasing n).accept := by
  simp only [State.bookingCancel, found, releasing]

theorem bookingCancel_other {s : State} {n : Nat} {b : Booking} (found : s.booking? n = some b) (unloaded : b.state ≠ .loaded)
    (unreleased : b.state ≠ .releasing) : s.bookingCancel n = s.refuse .wrongState := by
  simp only [State.bookingCancel, found]

/-- What a withdrawal reports of a booking that is there. -/
theorem relInfo_found {s : State} {n : Nat} {b : Booking} (found : s.booking? n = some b) (m : SlotNo) :
    s.relInfo n m = { booking := n, slot := m, key := some b.key } ∧ s.sourceOf n = b.source := by
  rw [State.relInfo, State.sourceOf, found]
  exact ⟨rfl, rfl⟩

theorem openSent_congr {s t : State} (h : s.bus = t.bus) (c : ChanNo) : s.openSent c = t.openSent c := by
  simp only [State.openSent, h]

theorem granted_congr {s t : State} (h : t.release = s.release) (granted : s.granted) : t.granted := by
  rw [State.granted, usedChannels_congr (t := s) (by rw [h]), h]
  exact granted

theorem cancelled_release (s : State) (n : Nat) : (s.cancelled n).release = s.release := rfl

theorem freed_queue (s : State) (c : ChanNo) (n : SlotNo) : (s.freed c n).release.queue = s.release.queue := by
  unfold State.freed
  dsimp only
  split <;> rfl

theorem tables_release (s : State) : s.tables.release = s.release := rfl

theorem closingCancelled_release (s : State) (c : ChanNo) (n : SlotNo) (b : Nat) :
    (s.closingCancelled c n b).release = (s.withChan c (.closing n b .withdrawn)).release := by
  have tables := congrArg State.release (closingCancelled_tables s c n b)
  rw [cancelled_release, tables_release] at tables
  rw [tables]
  rfl

theorem freedCancelled_queue {s : State} {c : ChanNo} {n : SlotNo} {b : Nat} (chan : s.chan c = .opening n b) :
    (s.freedCancelled c b).release.queue = s.release.queue := by
  have tables := congrArg State.release (freedCancelled_tables s c b chan)
  rw [cancelled_release, tables_release] at tables
  rw [tables, freed_queue, tables_release]

/-- A cancel of a booking that holds channel `ch`, once the channel's part is known and leaves the arbiter nothing to do. -/
theorem bookingCancel_channel {s u : State} {n : Nat} {b : Booking} {ch : ChanNo} {m : SlotNo} {phase : ReleasePhase}
    (found : s.booking? n = some b) (releasing : b.state = .releasing)
    (unqueued : (s.release.queue.find? fun e => e.booking == n) = none) (chan : s.chanOfBooking n = some ch)
    (part : s.cancelChannel ch = u.told (.releaseWithdrawn (s.relInfo n m) (s.sourceOf n) phase) (s.sourceOf n) n .aborted)
    (granted : u.granted) :
    s.bookingCancel n =
      (u.told (.releaseWithdrawn { booking := n, slot := m, key := some b.key } b.source phase) b.source n .aborted, .of .ok) := by
  have cancel : s.cancelReleasing n = (s.cancelChannel ch).arbiter := by simp only [State.cancelReleasing, unqueued, chan]
  obtain ⟨info, source⟩ := relInfo_found found m
  rw [bookingCancel_releasing found releasing, cancel, part,
    arbiter_granted (granted_congr (release_tables (told_tables _ _ _ _ _)) granted), info, source]
  rfl

/-- The same where the channel goes to CLOSING. -/
theorem cancelled_closing {s w : State} {tag : Byte} {body : List Byte} {n : Nat} {b : Booking} {ch : ChanNo} {m : SlotNo} {x : Channel}
    {phase : ReleasePhase} (hears : s.hears) (read : readOne 4 body = some n) (found : s.frameBegin.booking? n = some b)
    (releasing : b.state = .releasing) (unqueued : (s.frameBegin.release.queue.find? fun e => e.booking == n) = none)
    (chan : s.frameBegin.chanOfBooking n = some ch) (held : s.frameBegin.chan ch = x) (was : x ≠ .free)
    (granted : s.frameBegin.granted)
    (part : s.frameBegin.cancelChannel ch = (s.frameBegin.closingCancelled ch m n).told
      (.releaseWithdrawn (s.frameBegin.relInfo n m) (s.frameBegin.sourceOf n) phase) (s.frameBegin.sourceOf n) n .aborted)
    (tables : (s.frameBegin.tables.withChan ch (.closing m n .withdrawn)).cancelled n = w.tables) :
    ∃ t : State, exec (.bookingCancel tag body) s = .next t ∧ Answered s t (plain 0x85 tag .ok) w
      ∧ t.lastReport = some (.releaseWithdrawn { booking := n, slot := m, key := some b.key } b.source phase)
      ∧ s.tells t b.source n .aborted ∧ (s.slotOnline m = true → t.latchAsked m .closeIt (some ch)) := by
  have idle : (s.frameBegin.closingCancelled ch m n).granted :=
    granted_withChan (s := s.frameBegin) (c := ch) (x := .closing m n .withdrawn) (by rw [held]; exact was) Channel.noConfusion granted
      (closingCancelled_release _ _ _ _)
  obtain ⟨t, reached, answered, reported, tells, asked⟩ := cancelled_told (tag := tag) hears read
    (bookingCancel_channel found releasing unqueued chan part idle) (closingCancelled_calm _ _ _ _) (closingCancelled_kiosk _ _ _ _)
    ((closingCancelled_tables _ _ _ _).trans tables)
  refine ⟨t, reached, answered, reported, tells, fun online => asked _ _ _ (closingCancelled_asked ?_ ch n)⟩
  rw [slotOnline_congr (frameBegin_tables s), heard_eq]
  exact online

/-- Settles O13: the cancel of each kind of booking is a state with its report and notice (`cancelled_told`); the arbiter behind a
channel's cancel finds nothing to do. -/
theorem bookingCancelWithdrawsTheRelease : Obligations.BookingCancelWithdrawsTheRelease := by
  intro s tag body n hears read cancel
  have same := frameBegin_tables s
  obtain ⟨-, -, -, release, -⟩ := frameBegin_blocks s
  have cancels (u : State) : cancel u = u.cancelled n := rfl
  refine ⟨fun missing => ?_, fun b found => ?_⟩
  · refine served_of_refused (kind := 0x05) (owner := fun n s => s.bookingCancel n) hears rfl read ?_
    simp only [State.bookingCancel, booking?_frameBegin_eq_none missing]
  · obtain ⟨c, here, bare⟩ := booking?_frameBegin_eq_some found
    have state : c.state = b.state := show c.bare.state = b.bare.state from congrArg Booking.state bare
    have key : c.key = b.key := show c.bare.key = b.bare.key from congrArg Booking.key bare
    have source : c.source = b.source := show c.bare.source = b.bare.source from congrArg Booking.source bare
    have info (m : SlotNo) := relInfo_found here m
    rw [key, source] at info
    refine ⟨fun unloaded unreleased => ?_, fun loaded => ?_, fun e releasing queued => ?_, fun ch m releasing unqueued chan => ?_⟩
    · exact served_of_refused (kind := 0x05) (owner := fun n s => s.bookingCancel n) hears rfl read
        (bookingCancel_other here (by rw [state]; exact unloaded) (by rw [state]; exact unreleased))
    · have whole := bookingCancel_loaded here (state.trans loaded)
      refine served_of_owner (kind := 0x05) (owner := fun n s => s.bookingCancel n) (r := .of .ok) hears rfl read
        ((bookingCancel_calm _ _).linkKept (frameBegin_tx s)) (congrArg Prod.snd whole) ((congrArg (·.1.tables) whole).trans ?_)
      rw [cancels, cancelled_form, ← same]
      exact toCancelled_tables _ _
    · have number : e.booking = n := by simpa using List.find?_some queued
      have whole := bookingCancel_releasing here (state.trans releasing)
      rw [State.cancelReleasing, release, queued] at whole
      have told : s.frameBegin.bookingCancel n = ((s.frameBegin.queuedCancelled e).told
          (.releaseWithdrawn { booking := n, slot := e.slot, key := some b.key } b.source .queued) b.source n .aborted, .of .ok) := by
        rw [whole, State.accept]
        dsimp only
        rw [cancelQueued_eq, number, (info _).1, (info e.slot).2]
      obtain ⟨t, reached, answered, reported, tells, -⟩ := cancelled_told (tag := tag) (w := (s.heard.dequeued e).cancelled n) hears read
        told (queuedCancelled_calm _ e) (queuedCancelled_kiosk _ e) (by
          rw [queuedCancelled_tables, number, cancelled_form, same]
          exact congrArg (·.cancelled n) (modSlot_form
            { s.heard with release := { s.heard.release with queue := s.heard.release.queue.erase e } } e.slot
            (fun r => { r with queued := false }) fun _ => rfl).symm)
      have queue : s.heard.release = s.release := by rw [heard_eq]
      refine ⟨t, reached, ?_, reported, tells⟩
      have form : (s.heard.dequeued e).cancelled n = cancel
          { s.heard.withSlot e.slot fun r => { r with queued := false } with
            release := { s.release with queue := s.release.queue.erase e } } := by
        rw [cancels, State.dequeued, queue]; rfl
      rw [← form]
      exact answered
    · have chanNow : s.frameBegin.chanOfBooking n = some ch := by
        rw [← chan]
        simp only [State.chanOfBooking, State.chan, release]
      rw [← release] at unqueued
      have chanIs {x : Channel} (h : s.chan ch = x) : s.frameBegin.chan ch = x := by rw [State.chan, release]; exact h
      have sentIs {q : Bool} (h : s.openSent ch = q) : s.frameBegin.openSent ch = q :=
        (openSent_congr (frameBegin_ports s).2 ch).trans h
      have closed : (s.frameBegin.tables.withChan ch (.closing m n .withdrawn)).cancelled n =
          (cancel (s.heard.withChan ch (.closing m n .withdrawn))).tables := by
        rw [same, cancels, cancelled_form, withChan_form]
      rw [← key, ← source]
      refine ⟨fun open_ granted => ?_, fun opening sent granted => ?_, fun opening unsent empty free => ?_⟩
      · obtain ⟨d, opened⟩ := open_
        exact cancelled_closing hears read here (state.trans releasing) unqueued chanNow (chanIs opened) Channel.noConfusion
          (granted_congr release granted) (cancelChannel_opened (chanIs opened)) closed
      · exact cancelled_closing hears read here (state.trans releasing) unqueued chanNow (chanIs opening) Channel.noConfusion
          (granted_congr release granted) (cancelChannel_sent (chanIs opening) (sentIs sent)) closed
      · have service : (s.frameBegin.tables.slot m).service ≠ .quarantinePending := by
          rw [same, tables_slot, heard_eq]; exact free
        have freed : (s.frameBegin.freedCancelled ch n).tables =
            (cancel ((s.heard.withChan ch .free).withSlot m fun r => { r with channel := none })).tables := by
          rw [freedCancelled_tables _ _ _ (chanIs opening), State.freed, if_neg service, same, cancels, cancelled_form,
            withSlot_form _ _ (fun r => { r with channel := none }) fun _ => rfl, withChan_form]
        have idle : (s.frameBegin.freedCancelled ch n).granted :=
          Or.inl ((freedCancelled_queue (chanIs opening)).trans (by rw [release]; exact empty))
        obtain ⟨t, reached, answered, reported, tells, -⟩ := cancelled_told (tag := tag) hears read
          (bookingCancel_channel here (state.trans releasing) unqueued chanNow
            (cancelChannel_unsent (chanIs opening) (sentIs unsent)) idle)
          (freedCancelled_calm _ _ _) (freedCancelled_kiosk _ _ _) freed
        exact ⟨t, reached, answered, reported, tells⟩

end Sys2Proof.Machine
end

section
/-! SUPPORT. A supply change between GOOD and LOW (R164) and the exit from HOLD (R167). -/

namespace Sys2Proof.Machine

/-! ### SUPPLY_CHANGE -/

/-- The state once the level and the budget are those of a new level. -/
def State.levelled (s : State) (level : SupplyLevel) : State :=
  { s with mode := { s.mode with level }, release := { s.release with budget := budgetOf level } }

theorem supplyTo_same {s : State} {supa supb : Bool} (same : s.mode.level = supplyLevel supa supb) :
    s.supplyTo supa supb = s.setPins { s.pins with supa, supb } := if_pos same.symm

/-- SUPPLY_STATE of a level not LOST, before its condition. -/
theorem supplyShift_eq {s : State} {new : SupplyLevel} (lost : new ≠ .lost) (granted : (s.levelled new).granted) :
    s.supplyShift new =
      (if new = .low then State.beginCond else State.endCond)
        ((s.levelled new).queueReport (.supplyState (some s.mode.level) new false (budgetOf new) s.usedChannels)) .supply := by
  have hold : (s.levelled new).hold = false := beq_false_of_ne lost
  have arbiter := arbiter_granted granted
  unfold State.supplyShift State.supplyState
  rw [show (s.setLevel new).setBudget (budgetOf new) = s.levelled new from rfl, arbiter, hold]
  dsimp only
  split <;> rfl

theorem supplyShift_tables {s : State} {new : SupplyLevel} (lost : new ≠ .lost) (granted : (s.levelled new).granted) :
    (s.supplyShift new).tables = ((s.levelled new).condTo .supply (new == .low)).tables := by
  rw [supplyShift_eq lost granted, condTo_form]
  cases new with
  | low => exact beginCond_form _ _
  | good => exact endCond_form _ _
  | lost => exact absurd rfl lost

theorem supplyShift_front {s : State} {new : SupplyLevel} (lost : new ≠ .lost) (granted : (s.levelled new).granted)
    (busy : s.linkBusy) (room : s.link.reports.length ≤ 24) :
    s.link.reports ++
        [{ time := s.time, gap := false, body := .supplyState (some s.mode.level) new false (budgetOf new) s.usedChannels }] <+:
      (s.supplyShift new).link.reports := by
  let r : Report := { time := s.time, gap := false, body := .supplyState (some s.mode.level) new false (budgetOf new) s.usedChannels }
  have link := queueReport_link_busy (s := s.levelled new) busy (show s.link.reports.length < 32 by omega) r.body
  let u := (s.levelled new).queueReport r.body
  have reported : u.waitsBehind (s.link.reports ++ [r]) 25 := by
    rw [State.waitsBehind, State.linkBusy, link]
    exact ⟨busy, List.prefix_rfl, by simp only [List.length_append, List.length_singleton]; exact Nat.succ_le_succ room⟩
  have rule := alert_waitsBehind (s.link.reports ++ [r])
  rw [supplyShift_eq lost granted]
  cases new with
  | low => exact (rule.raise (k := 0) (s := u.putCond .supply { u.cond .supply with active := true }) (.cabinet .supply) _
      (fun _ => reported) (by omega)).2.1
  | good => exact (rule.withdraw (k := 0) (s := u.putCond .supply { u.cond .supply with active := false }) (.cabinet .supply) _
      (fun _ => reported) (by omega)).2.1
  | lost => exact absurd rfl lost

/-- Settles O30: with no grant to make, the change is SUPPLY_STATE and the condition. -/
theorem supplyChangeSetsBudgetAndCondition : Obligations.SupplyChangeSetsBudgetAndCondition := by
  intro s supb running new budget
  have level : supplyLevel true supb = new := rfl
  have budgetIs : budgetOf new = budget := by cases supb <;> rfl
  have lost : new ≠ .lost := by cases supb <;> exact SupplyLevel.noConfusion
  let noted : State := s.setPins { s.pins with supa := true, supb }
  refine ⟨fun same => gives_event _ rfl running (supplyTo_same same), fun changed inRun idle => ?_⟩
  have granted : (noted.levelled new).granted := by
    rw [State.granted]
    rcases idle with empty | full
    · exact Or.inl empty
    · exact Or.inr (show budgetOf new ≤ s.usedChannels by rw [budgetIs]; exact full)
  have whole : s.supplyTo true supb = noted.supplyShift new :=
    (if_neg (Ne.symm changed)).trans ((if_neg lost).trans (if_neg inRun))
  refine ⟨(s.supplyTo true supb).chooseCommand, gives_event _ rfl running rfl, ?_, fun busy room => ?_⟩
  · rw [chooseCommand_tables, whole, supplyShift_tables lost granted]
    cases supb <;> rfl
  · rw [(chooseCommand_records _).2.2.2.2.2, whole]
    have front := supplyShift_front (s := noted) lost granted busy room
    rw [budgetIs] at front
    exact front

/-! ### HOLD_EXIT -/

/-- A unit's record on leaving HOLD (R40, R38). -/
def UnitRec.lit (r : UnitRec) : UnitRec :=
  if r.state = .dark then
    if r.retireMark then { r with state := .retired, cause := none, retireMark := false } else { r with state := .probing }
  else r

theorem UnitRec.lit_lit (r : UnitRec) : r.lit.lit = r.lit := by
  unfold UnitRec.lit
  by_cases dark : r.state = .dark
  · by_cases mark : r.retireMark = true <;> simp [dark, mark]
  · simp [dark]

theorem UnitRec.lit_bare (r : UnitRec) : r.lit.bare = r.bare.lit := by
  unfold UnitRec.lit
  by_cases dark : r.state = .dark
  · by_cases mark : r.retireMark = true <;> simp [dark, mark]
  · simp [dark]

/-- The START report's mark, set or as it was. -/
def State.startMarked (s : State) (reported : Bool) : State := { s with mode := { s.mode with startReported := reported } }

theorem startCheck_tables (s : State) : ∃ reported : Bool, s.startCheck.tables = (s.startMarked reported).tables := by
  unfold State.startCheck
  split
  · exact ⟨s.mode.startReported, rfl⟩
  · exact ⟨true, rfl⟩

/-- One unit on leaving HOLD; without a mark it does not come to the START report. -/
theorem lightUnit_tables (s : State) (u : UnitIx) :
    ∃ reported : Bool, (s.lightUnit u).tables = ((s.withUnit u UnitRec.lit).startMarked reported).tables
      ∧ ((s.unit u).retireMark = false → reported = s.mode.startReported) := by
  unfold State.lightUnit
  dsimp only
  split
  · next dark =>
    by_cases mark : (s.unit u).retireMark = true
    · rw [if_pos mark]
      obtain ⟨reported, same⟩ := startCheck_tables
        ((s.putUnit u { s.unit u with state := .retired, cause := none, retireMark := false }).moduleState u .dark)
      refine ⟨reported, same.trans ?_, fun none => by rw [mark] at none; cases none⟩
      have lit : (s.unit u).lit = { s.unit u with state := .retired, cause := none, retireMark := false } := by
        rw [UnitRec.lit, if_pos dark, if_pos mark]
      rw [State.withUnit, show s.units[u].lit = _ from lit]
      rfl
    · rw [if_neg mark]
      refine ⟨s.mode.startReported, ?_, fun _ => rfl⟩
      have lit : (s.unit u).lit = { s.unit u with state := .probing } := by rw [UnitRec.lit, if_pos dark, if_neg mark]
      rw [State.withUnit, show s.units[u].lit = _ from lit]
      rfl
  · next notDark =>
    refine ⟨s.mode.startReported, ?_, fun _ => rfl⟩
    have lit : (s.unit u).lit = s.unit u := if_neg notDark
    have same : s.withUnit u UnitRec.lit = s := by
      rw [State.withUnit, show s.units[u].lit = s.units[u] from lit]
      exact congrArg s.setUnits (vector_set_self s.units u)
    rw [same]
    rfl

/-- The units `l`, changed. -/
def State.withUnits (s : State) (l : List UnitIx) (f : UnitRec → UnitRec) : State :=
  { s with units := Vector.ofFn fun k : UnitIx => if k ∈ l then f (s.unit k) else s.unit k }

theorem withUnits_nil (s : State) (f : UnitRec → UnitRec) : s.withUnits [] f = s := by
  have same : (Vector.ofFn fun k : UnitIx => s.unit k) = s.units := by ext k hk; simp [State.unit]
  simp [State.withUnits, same]

theorem withUnits_withUnit (s : State) (l : List UnitIx) (n : UnitIx) (f : UnitRec → UnitRec) (hf : ∀ r, f (f r) = f r) :
    (s.withUnit n f).withUnits l f = s.withUnits (n :: l) f := by
  simp only [State.withUnits, State.withUnit, State.unit, State.mk.injEq, true_and, and_true]
  ext k hk
  by_cases here : n.val = k
  · subst here
    by_cases again : n ∈ l <;> simp [again, hf]
  · have there : n ≠ ⟨k, hk⟩ := fun e => here (congrArg Fin.val e)
    simp [Vector.getElem_set, here, there.symm]

theorem withUnits_form (s : State) (l : List UnitIx) (f : UnitRec → UnitRec) (hf : ∀ r, (f r).bare = f r.bare) :
    (s.withUnits l f).tables = s.tables.withUnits l f := by
  simp only [State.withUnits, State.tables, State.mk.injEq, true_and, and_true]
  ext k hk
  simp only [Vector.getElem_map, Vector.getElem_ofFn, State.unit, Fin.getElem_fin]
  split
  · exact hf _
  · rfl

/-- Every unit changed. -/
theorem withUnits_all (s : State) (f : UnitRec → UnitRec) : s.withUnits allUnits f = { s with units := s.units.map f } := by
  simp only [State.withUnits, mem_allUnits, if_true, State.mk.injEq, true_and, and_true]
  ext k hk
  simp [State.unit]

theorem startMarked_form (s : State) (reported : Bool) : (s.startMarked reported).tables = s.tables.startMarked reported := rfl

theorem unit_withUnit (s : State) (u v : UnitIx) (f : UnitRec → UnitRec) :
    (s.withUnit u f).unit v = if v = u then f (s.unit u) else s.unit v :=
  unit_putUnit s u v (f (s.unit u))

theorem UnitRec.lit_unmarked {r : UnitRec} (h : r.retireMark = false) : r.lit.retireMark = false := by
  unfold UnitRec.lit
  split
  · split
    · rfl
    · exact h
  · exact h

theorem lightUnit_unmarked {s : State} (unmarked : ∀ v, (s.unit v).retireMark = false) (u v : UnitIx) :
    ((s.lightUnit u).unit v).retireMark = false := by
  obtain ⟨first, one, -⟩ := lightUnit_tables s u
  have mark : ((s.lightUnit u).unit v).retireMark = ((s.withUnit u UnitRec.lit).unit v).retireMark :=
    show ((s.lightUnit u).unit v).bare.retireMark = ((s.withUnit u UnitRec.lit).unit v).bare.retireMark from
      congrArg UnitRec.retireMark (unit_bare one v)
  rw [mark, unit_withUnit]
  split
  · exact UnitRec.lit_unmarked (unmarked u)
  · exact unmarked v

theorem foldl_lightUnit_tables (l : List UnitIx) (s : State) :
    ∃ reported : Bool, (l.foldl State.lightUnit s).tables = ((s.withUnits l UnitRec.lit).startMarked reported).tables
      ∧ ((∀ u, (s.unit u).retireMark = false) → reported = s.mode.startReported) := by
  induction l generalizing s with
  | nil => exact ⟨s.mode.startReported, by rw [withUnits_nil]; rfl, fun _ => rfl⟩
  | cons u l ih =>
    obtain ⟨first, one, kept⟩ := lightUnit_tables s u
    obtain ⟨reported, rest, still⟩ := ih (s.lightUnit u)
    refine ⟨reported, ?_, fun unmarked => ?_⟩
    · rw [List.foldl_cons, rest, startMarked_form, withUnits_form _ _ _ UnitRec.lit_bare, one, startMarked_form, startMarked_form,
        ← withUnits_withUnit s l u UnitRec.lit UnitRec.lit_lit, withUnits_form _ _ _ UnitRec.lit_bare]
      rfl
    · have mode : (s.lightUnit u).mode = ((s.withUnit u UnitRec.lit).startMarked first).mode :=
        show (s.lightUnit u).tables.mode = ((s.withUnit u UnitRec.lit).startMarked first).tables.mode from congrArg State.mode one
      rw [still (lightUnit_unmarked unmarked u), mode]
      exact kept (unmarked u)

/-- The state once the units are lit. -/
theorem leaveHold_tables {s : State} (new : SupplyLevel) (empty : s.release.queue = []) :
    ∃ reported : Bool,
      (s.leaveHold new).tables =
          (if new = .good then
            (({ s.levelled new with units := s.units.map UnitRec.lit } : State).startMarked reported).condTo .supply false
          else ({ s.levelled new with units := s.units.map UnitRec.lit } : State).startMarked reported).tables
        ∧ ((∀ u, (s.unit u).retireMark = false) → reported = s.mode.startReported) := by
  have arbiter : (s.levelled new).arbiter = s.levelled new := arbiter_granted (Or.inl empty)
  obtain ⟨reported, lit, still⟩ := foldl_lightUnit_tables allUnits (s.levelled new)
  rw [withUnits_all] at lit
  refine ⟨reported, ?_, still⟩
  unfold State.leaveHold State.unitsLight State.supplyState
  rw [show (s.setLevel new).setBudget (budgetOf new) = s.levelled new from rfl, arbiter]
  dsimp only
  split
  · rw [endCond_form, queueReport_tables, lit, condTo_form]
    rfl
  · rw [queueReport_tables, lit]
    rfl

/-- Settles O32: the units are lit one after the other (`foldl_lightUnit_tables`). -/
theorem holdExitProbesDarkUnits : Obligations.HoldExitProbesDarkUnits := by
  intro s supb running lost empty
  let noted : State := s.setPins { s.pins with supa := true, supb }
  obtain ⟨reported, tables, still⟩ := leaveHold_tables (s := noted) (supplyLevel true supb) empty
  have changed : supplyLevel true supb ≠ s.mode.level := by rw [lost]; cases supb <;> exact SupplyLevel.noConfusion
  have inRun : supplyLevel true supb ≠ .lost := by cases supb <;> exact SupplyLevel.noConfusion
  have whole : s.supplyTo true supb = noted.leaveHold (supplyLevel true supb) :=
    (if_neg changed).trans ((if_neg inRun).trans (if_pos lost))
  refine ⟨(s.supplyTo true supb).chooseCommand, reported, gives_event _ rfl running rfl, ?_, still⟩
  rw [chooseCommand_tables, whole, tables]
  cases supb <;> rfl

end Sys2Proof.Machine
end

section
/-! SUPPORT. The choice of the next bus command (R31): the first candidate in the order of the pending set, told by what stands
in the set. -/

namespace Sys2Proof.Machine

/-! ### Lowest candidates -/

theorem allUnits_ascending : allUnits.Pairwise (· < ·) := by decide

/-- The first of an ascending list with a property is its lowest. -/
theorem lowest_of_find? {l : List UnitIx} {p : UnitIx → Bool} {u : UnitIx} (ascending : l.Pairwise (· < ·))
    (found : l.find? p = some u) : p u = true ∧ ∀ x ∈ l, x < u → p x = false := by
  induction l with
  | nil => simp at found
  | cons a l ih =>
    obtain ⟨first, rest⟩ := List.pairwise_cons.mp ascending
    rw [List.find?_cons] at found
    cases hit : p a with
    | true =>
      simp only [hit, Option.some.injEq] at found
      subst found
      refine ⟨hit, fun x at_ lt => ?_⟩
      rcases List.mem_cons.mp at_ with rfl | at_
      · exact absurd lt (lt_irrefl _)
      · exact absurd lt (not_lt.mpr (first x at_).le)
    | false =>
      simp only [hit] at found
      obtain ⟨holds, below⟩ := ih rest found
      refine ⟨holds, fun x at_ lt => ?_⟩
      rcases List.mem_cons.mp at_ with rfl | at_
      · exact hit
      · exact below x at_ lt

/-- The first unit with a property is the lowest one. -/
theorem lowest_unit {p : UnitIx → Bool} {u : UnitIx} (found : allUnits.find? p = some u) :
    p u = true ∧ ∀ x : UnitIx, x < u → p x = false := by
  obtain ⟨holds, below⟩ := lowest_of_find? allUnits_ascending found
  exact ⟨holds, fun x => below x (mem_allUnits x)⟩

/-- A unit with a property exists where `any` says so, and is then found. -/
theorem find?_of_any {p : UnitIx → Bool} (some_ : allUnits.any p = true) : ∃ u : UnitIx, allUnits.find? p = some u := by
  exact Option.isSome_iff_exists.mp (List.find?_isSome.mpr (List.any_eq_true.mp some_))

theorem find?_of_not_any {p : UnitIx → Bool} (none_ : allUnits.any p = false) : allUnits.find? p = none := by
  rw [List.find?_eq_none]
  intro u _ holds
  rw [List.any_eq_false] at none_
  exact none_ u (mem_allUnits u) holds

/-! ### What is sent -/

theorem chooseCommand_sends {s : State} {u : UnitIx} {c : BusCmd} (idle : s.bus.flight = none) (running : s.mode.level ≠ .lost)
    (next : s.nextCommand = some (u, c)) : s.chooseCommand = s.send u c := by
  have open_ : (s.bus.flight.isSome || s.hold) = false := by simp [idle, State.hold, running]
  unfold State.chooseCommand
  rw [if_neg (by rw [open_]; exact Bool.false_ne_true), next]

theorem chooseCommand_waits {s : State} (next : s.nextCommand = none) : s.chooseCommand = s := by
  unfold State.chooseCommand
  split
  · rfl
  · rw [next]

/-! ### The order of the pending set -/

/-- The LATCH commands that may be sent (R31). -/
def State.openLatches (s : State) : List LatchCmd := s.bus.latches.filter fun l => s.eligible (modUnit (moduleOf l.slot))

theorem nextLatch_eq (s : State) : s.nextLatch = (match s.openLatches.find? fun l => l.tries == 1 with
    | some l => some l
    | none => s.openLatches.head?) := rfl

theorem nextLatch_some {s : State} (waits : s.openLatches ≠ []) :
    ∃ l ∈ s.openLatches, s.nextLatch = some l ∧ ((∃ x ∈ s.openLatches, x.tries = 1) → l.tries = 1)
      ∧ ((∀ x ∈ s.openLatches, x.tries ≠ 1) → s.openLatches.head? = some l) := by
  rw [nextLatch_eq]
  cases again : s.openLatches.find? fun l => l.tries == 1 with
  | some l =>
    have tried : l.tries = 1 := beq_iff_eq.mp (List.find?_some (p := fun l : LatchCmd => l.tries == 1) again)
    exact ⟨l, List.mem_of_find?_eq_some again, rfl, fun _ => tried,
      fun fresh => absurd tried (fresh l (List.mem_of_find?_eq_some again))⟩
  | none =>
    rw [List.find?_eq_none] at again
    obtain ⟨l, rest, cut⟩ := List.exists_cons_of_ne_nil waits
    refine ⟨l, by simp [cut], by rw [cut]; rfl, fun ⟨x, at_, tried⟩ => absurd (beq_iff_eq.mpr tried) (again x at_), fun _ => by
      rw [cut]; rfl⟩

theorem nextLatch_none {s : State} (none_ : s.openLatches = []) : s.nextLatch = none := by
  rw [nextLatch_eq, none_]
  rfl

/-- The units whose LAMPS may be sent. -/
def State.lampsPending (s : State) (u : UnitIx) : Bool := u != chuteIx && (s.unit u).lampsWanted && s.eligible u

/-- The module whose LAMPS go next is the lowest unit whose LAMPS may be sent. -/
theorem find?_modules (s : State) :
    (modules.find? fun m => (s.unit (modUnit m)).lampsWanted && s.eligible (modUnit m)).map modUnit
      = allUnits.find? s.lampsPending := by
  have last : [chuteIx].find? s.lampsPending = none := by simp [State.lampsPending]
  have same : (s.lampsPending ∘ modUnit) = fun m => (s.unit (modUnit m)).lampsWanted && s.eligible (modUnit m) := by
    funext m
    have module_ : (modUnit m != chuteIx) = true := bne_iff_ne.mpr (modUnit_ne_chute m)
    simp only [Function.comp_apply, State.lampsPending, module_, Bool.true_and]
  rw [allUnits, List.find?_append, List.find?_map, last, Option.or_none, same]

/-- The commands below the LATCHes, in the order of R31. -/
theorem nextCommand_flap {s : State} (latches : s.nextLatch = none) (flap : s.flapPending = true) :
    s.nextCommand = some (chuteIx, .flap s.chute.wanted) := by
  simp only [State.nextCommand, latches, flap, if_true]

theorem nextCommand_status {s : State} {u : UnitIx} (latches : s.nextLatch = none) (flap : s.flapPending = false)
    (status : allUnits.find? s.statusPending = some u) : s.nextCommand = some (u, .status) := by
  simp only [State.nextCommand, latches, flap, Bool.false_eq_true, if_false, status]

theorem nextCommand_probe {s : State} {u : UnitIx} (latches : s.nextLatch = none) (flap : s.flapPending = false)
    (status : allUnits.find? s.statusPending = none) (probe : allUnits.find? s.probePending = some u) :
    s.nextCommand = some (u, .probe) := by
  simp only [State.nextCommand, latches, flap, Bool.false_eq_true, if_false, status, probe]

theorem nextCommand_lamps {s : State} {m : ModIx} (latches : s.nextLatch = none) (flap : s.flapPending = false)
    (status : allUnits.find? s.statusPending = none) (probe : allUnits.find? s.probePending = none)
    (lamps : (modules.find? fun m => (s.unit (modUnit m)).lampsWanted && s.eligible (modUnit m)) = some m) :
    s.nextCommand = some (modUnit m, .lamps (positions.map fun p => (s.slot (slotAt m p)).lamp)) := by
  simp only [State.nextCommand, latches, flap, Bool.false_eq_true, if_false, status, probe, lamps]

theorem nextCommand_poll {s : State} (latches : s.nextLatch = none) (flap : s.flapPending = false)
    (status : allUnits.find? s.statusPending = none) (probe : allUnits.find? s.probePending = none)
    (lamps : (modules.find? fun m => (s.unit (modUnit m)).lampsWanted && s.eligible (modUnit m)) = none) :
    s.nextCommand = s.nextPoll.map fun u => (u, .poll) := by
  simp only [State.nextCommand, latches, flap, Bool.false_eq_true, if_false, status, probe, lamps]

/-! ### The poll rotation (R32) -/

theorem eligible_mem_of_any {s : State} (some_ : allUnits.any s.eligible = true) : ∃ u : UnitIx, s.nextPoll = some u := by
  obtain ⟨u, at_, open_⟩ := List.any_eq_true.mp some_
  refine Option.isSome_iff_exists.mp (List.find?_isSome.mpr ⟨u, ?_, open_⟩)
  unfold rotationAfter
  split
  · exact at_
  · rename_i last _
    rcases lt_or_ge last u with above | below
    · exact List.mem_append_left _ (List.mem_filter.mpr ⟨at_, decide_eq_true above⟩)
    · exact List.mem_append_right _ (List.mem_filter.mpr ⟨at_, decide_eq_true below⟩)

theorem nextPoll_none {s : State} (none_ : allUnits.any s.eligible = false) : s.nextPoll = none := by
  rw [List.any_eq_false] at none_
  exact List.find?_eq_none.mpr fun u _ => none_ u (mem_allUnits u)

/-- The next POLL goes to the lowest open unit above the last one polled, else to the lowest open unit. -/
theorem nextPoll_after {s : State} {u last : UnitIx} (polled : s.bus.lastPolled = some last) (next : s.nextPoll = some u) :
    if allUnits.any fun x => s.eligible x && decide (last < x) then
      (s.eligible u && decide (last < u)) = true ∧ ∀ x : UnitIx, x < u → (s.eligible x && decide (last < x)) = false
    else s.eligible u = true ∧ ∀ x : UnitIx, x < u → s.eligible x = false := by
  have turn : ((allUnits.filter fun x => decide (last < x)).find? s.eligible).or
      ((allUnits.filter fun x => decide (x ≤ last)).find? s.eligible) = some u := by
    rw [← List.find?_append, ← next, State.nextPoll, polled]
    rfl
  rw [List.find?_filter, List.find?_filter] at turn
  have swap : (fun x => decide (decide (last < x) = true ∧ s.eligible x = true)) = fun x => s.eligible x && decide (last < x) := by
    funext x
    by_cases above : last < x <;> simp [above]
  rw [swap] at turn
  split
  · rename_i some_
    obtain ⟨v, found⟩ := find?_of_any some_
    rw [found, Option.some_or, Option.some.injEq] at turn
    exact turn ▸ lowest_unit found
  · rename_i none_
    rw [find?_of_not_any (Bool.eq_false_iff.mpr none_), Option.none_or] at turn
    obtain ⟨holds, below⟩ := lowest_unit turn
    simp only [decide_eq_true_eq, decide_eq_false_iff_not, not_and] at holds below
    refine ⟨holds.2, fun x lt => Bool.eq_false_iff.mpr (below x lt (lt.le.trans holds.1))⟩

theorem nextPoll_first {s : State} {u : UnitIx} (polled : s.bus.lastPolled = none) (next : s.nextPoll = some u) :
    s.eligible u = true ∧ ∀ x : UnitIx, x < u → s.eligible x = false := by
  rw [State.nextPoll, polled] at next
  exact lowest_unit next

/-! ### The obligation -/

/-- Settles O38: the candidates are looked through in the order of R31, and the first of an ascending list is its lowest. -/
theorem theBusTakesCommandsInOrder : Obligations.TheBusTakesCommandsInOrder := by
  intro s idle running open_ latches flap sent lowest status probe lamps t
  have sends : ∀ {u : UnitIx} {c : BusCmd}, s.nextCommand = some (u, c) → t = s.send u c := chooseCommand_sends idle running
  split
  · rename_i waits
    obtain ⟨l, at_, next, again, head⟩ := nextLatch_some waits
    have command : s.nextCommand = some (modUnit (moduleOf l.slot), .latch l) := by simp only [State.nextCommand, next]
    rw [sends command]
    exact ⟨l, at_, rfl, rfl, again, head⟩
  rename_i waits
  have none_ : s.nextLatch = none := nextLatch_none (not_not.mp waits)
  split
  · rename_i toFlap
    rw [sends (nextCommand_flap none_ toFlap)]
    rfl
  rename_i toFlap
  have noFlap : s.flapPending = false := Bool.eq_false_iff.mpr toFlap
  split
  · rename_i someStatus
    obtain ⟨u, found⟩ := find?_of_any someStatus
    rw [sends (nextCommand_status none_ noFlap found)]
    exact ⟨u, lowest_unit found, rfl⟩
  rename_i someStatus
  have noStatus : allUnits.find? s.statusPending = none := find?_of_not_any (Bool.eq_false_iff.mpr someStatus)
  split
  · rename_i someProbe
    obtain ⟨u, found⟩ := find?_of_any someProbe
    rw [sends (nextCommand_probe none_ noFlap noStatus found)]
    exact ⟨u, lowest_unit found, rfl⟩
  rename_i someProbe
  have noProbe : allUnits.find? s.probePending = none := find?_of_not_any (Bool.eq_false_iff.mpr someProbe)
  split
  · rename_i someLamps
    obtain ⟨u, found⟩ := find?_of_any someLamps
    obtain ⟨m, module_, rfl⟩ := Option.map_eq_some_iff.mp ((find?_modules s).trans found)
    rw [sends (nextCommand_lamps none_ noFlap noStatus noProbe module_)]
    exact ⟨_, m, rfl, lowest_unit found, congrArg UnitRec.lampsWanted (Vector.getElem_set_self ..), rfl⟩
  rename_i someLamps
  have noLamps : (modules.find? fun m => (s.unit (modUnit m)).lampsWanted && s.eligible (modUnit m)) = none :=
    Option.map_eq_none_iff.mp ((find?_modules s).trans (find?_of_not_any (Bool.eq_false_iff.mpr someLamps)))
  have poll := nextCommand_poll none_ noFlap noStatus noProbe noLamps
  split
  · rename_i someOpen
    obtain ⟨u, next⟩ := eligible_mem_of_any someOpen
    rw [sends (poll.trans (congrArg (Option.map fun u => (u, BusCmd.poll)) next))]
    refine ⟨u, List.find?_some next, rfl, rfl, ?_⟩
    cases polled : s.bus.lastPolled with
    | some last => exact nextPoll_after polled next
    | none => exact nextPoll_first polled next
  · rename_i someOpen
    exact chooseCommand_waits (poll.trans (congrArg (Option.map fun u => (u, BusCmd.poll))
      (nextPoll_none (Bool.eq_false_iff.mpr someOpen))))

end Sys2Proof.Machine
end

section
/-! SUPPORT. The layouts of the bus payloads (R24, R25, R181): a payload that is read has the length and the field values of its
layout. -/

namespace Sys2Proof.Machine

/-- The value of a payload's byte at a place, 0 behind its end. -/
def byteAt (bs : List Byte) (k : Nat) : Nat := (bs.getD k 0).toNat

theorem readFlag_some {bs rest : List Byte} {b : Bool} (h : readFlag bs = some (b, rest)) :
    ∃ x : Byte, bs = x :: rest ∧ x.toNat ≤ 1 := by
  simp only [readFlag, Option.bind_eq_bind, Option.bind_eq_some_iff, Prod.exists] at h
  obtain ⟨n, tail, head, h⟩ := h
  obtain ⟨x, rfl, rfl⟩ := readNat_head head
  split at h
  · cases h
  · cases h
    exact ⟨x, rfl, by omega⟩

theorem readMany_length {α : Type} {rd : List Byte → Option (α × List Byte)} {size : Nat}
    (one : ∀ {bs rest : List Byte} {a : α}, rd bs = some (a, rest) → bs.length = size + rest.length) {k : Nat}
    {bs rest : List Byte} {as : List α} (h : readMany rd k bs = some (as, rest)) : bs.length = size * k + rest.length := by
  induction k generalizing bs as with
  | zero => cases h; simp
  | succ k ih =>
    simp only [readMany, Option.bind_eq_bind, Option.bind_eq_some_iff, Prod.exists] at h
    obtain ⟨a, tail, first, as', rest', more, last⟩ := h
    cases last
    rw [one first, ih more, Nat.mul_succ]
    omega

theorem readSlotStatus_length {bs rest : List Byte} {x : SlotStatus} (h : readSlotStatus bs = some (x, rest)) :
    bs.length = 5 + rest.length := by
  simp only [readSlotStatus, Option.bind_eq_bind, Option.bind_eq_some_iff, Prod.exists] at h
  obtain ⟨b, tail, status, tag, rest', last, h⟩ := h
  have same : rest' = rest := by
    split at h
    · split at h <;> cases h
      rfl
    · split at h <;> cases h
      rfl
  rw [readNat_length status, readNat_length last, same]
  omega

theorem readModuleEntry_length {bs rest : List Byte} {x : ModuleEntry} (h : readModuleEntry bs = some (x, rest)) :
    bs.length = 5 + rest.length := by
  simp only [readModuleEntry, Option.bind_eq_bind, Option.bind_eq_some_iff, Prod.exists] at h
  obtain ⟨b, tail, status, tag, rest', last, h⟩ := h
  have same : rest' = rest := by
    split at h
    case h_4 => cases h
    all_goals
      split at h <;> cases h
      rfl
  rw [readNat_length status, readNat_length last, same]
  omega

theorem readChuteEntry_length {bs rest : List Byte} {x : ChuteEntry} (h : readChuteEntry bs = some (x, rest)) :
    bs.length = 5 + rest.length := by
  simp only [readChuteEntry, Option.bind_eq_bind, Option.bind_eq_some_iff, Prod.exists] at h
  obtain ⟨b, tail, status, tag, rest', last, h⟩ := h
  have same : rest' = rest := by
    split at h
    case h_5 => cases h
    all_goals
      split at h <;> cases h
      rfl
  rw [readNat_length status, readNat_length last, same]
  omega

theorem readStatus_some {u : UnitIx} {bs : List Byte} {x : UnitStatus} (h : readStatus u bs = some x) :
    bs.length = (if u = chuteIx then 2 else 80) ∧ (u = chuteIx → byteAt bs 0 ≤ 1 ∧ byteAt bs 1 ≤ 1) := by
  unfold readStatus at h
  split at h
  · rename_i chute
    simp only [Option.bind_eq_bind, Option.bind_eq_some_iff, Prod.exists] at h
    obtain ⟨flap, tail, first, hatch, last, -⟩ := h
    obtain ⟨a, rfl, flapIn⟩ := readFlag_some first
    obtain ⟨b, rfl, hatchIn⟩ := readFlag_some (whole_eq_some last)
    exact ⟨by simp [chute], fun _ => ⟨flapIn, hatchIn⟩⟩
  · rename_i module_
    obtain ⟨st, read, -⟩ := Option.map_eq_some_iff.mp h
    rw [if_neg module_, readMany_length readSlotStatus_length (whole_eq_some read)]
    exact ⟨rfl, fun chute => absurd chute module_⟩

theorem readProbe_some {u : UnitIx} {bs : List Byte} {x : UnitStatus} (h : readProbe u bs = some x) :
    bs.length = (if u = chuteIx then 3 else 81) ∧ byteAt bs 0 = (if u = chuteIx then 1 else 0)
      ∧ (u = chuteIx → byteAt bs 1 ≤ 1 ∧ byteAt bs 2 ≤ 1) := by
  simp only [readProbe, Option.bind_eq_bind, Option.bind_eq_some_iff, Prod.exists] at h
  obtain ⟨kind, tail, first, h⟩ := h
  obtain ⟨a, rfl, rfl⟩ := readNat_head first
  by_cases kindOf : a.toNat = if u = chuteIx then 1 else 0
  · rw [if_pos kindOf] at h
    obtain ⟨len, values⟩ := readStatus_some h
    refine ⟨?_, kindOf, values⟩
    rw [List.length_cons, len]
    split <;> rfl
  · rw [if_neg kindOf] at h
    cases h

theorem readPoll_some {α : Type} {rd : List Byte → Option (α × List Byte)}
    (one : ∀ {bs rest : List Byte} {a : α}, rd bs = some (a, rest) → bs.length = 5 + rest.length) {bs : List Byte} {x : Poll α}
    (h : readPoll rd bs = some x) : byteAt bs 0 % 32 ≤ 16 ∧ bs.length = 1 + 5 * (byteAt bs 0 % 32) := by
  simp only [readPoll, Option.bind_eq_bind, Option.bind_eq_some_iff, Prod.exists] at h
  obtain ⟨b, tail, first, h⟩ := h
  obtain ⟨a, rfl, rfl⟩ := readNat_head first
  split at h
  · cases h
  · rename_i count
    obtain ⟨entries, read, -⟩ := Option.bind_eq_some_iff.mp h
    have tailLength := readMany_length one (whole_eq_some read)
    rw [List.length_nil, Nat.add_zero] at tailLength
    exact ⟨not_lt.mp count, by rw [List.length_cons, tailLength, Nat.add_comm]; rfl⟩

theorem readLatch_some {bs : List Byte} {x : LatchReply} (h : readLatch bs = some x) : bs.length = 2 ∧ byteAt bs 0 ≤ 2 := by
  simp only [readLatch, Option.bind_eq_bind, Option.bind_eq_some_iff, Prod.exists] at h
  obtain ⟨c, tail, first, travel, last, h⟩ := h
  have len : bs.length = 2 := by rw [readNat_length first, readNat_length (whole_eq_some last)]; rfl
  obtain ⟨a, rfl, rfl⟩ := readNat_head first
  refine ⟨len, ?_⟩
  show a.toNat ≤ 2
  split at h
  case h_4 => cases h
  all_goals
    rename_i coil
    omega

theorem readFlapReply_some {bs : List Byte} {x : FlapPos} (h : readFlapReply bs = some x) : bs.length = 1 ∧ byteAt bs 0 ≤ 1 := by
  obtain ⟨b, read, -⟩ := Option.map_eq_some_iff.mp h
  obtain ⟨a, rfl, value⟩ := readFlag_some (whole_eq_some read)
  exact ⟨rfl, value⟩

end Sys2Proof.Machine
end

section
/-! SUPPORT. A frame from the bus against the transaction in flight (R23, R26): the reply that belongs is delivered, every other is a
miss, and nothing is taken from a unit that has left the state R26 asks for. -/

namespace Sys2Proof.Machine

/-! ### The end of a transaction -/

theorem takeReply_idle {s : State} (idle : s.bus.flight = none) (addr : Byte) (read : Flight → Option (State → State)) :
    s.takeReply addr read = s := by
  simp only [State.takeReply, idle]

theorem miss_idle {s : State} (idle : s.bus.flight = none) : s.miss = s := by
  simp only [State.miss, idle]

theorem takeReply_elsewhere {s : State} {f : Flight} {addr : Byte} (flies : s.bus.flight = some f)
    (elsewhere : unitAddr f.unit ≠ addr.toNat) (read : Flight → Option (State → State)) : s.takeReply addr read = s.miss := by
  simp only [State.takeReply, flies, if_neg elsewhere]

theorem takeReply_unread {s : State} {f : Flight} {read : Flight → Option (State → State)} (flies : s.bus.flight = some f)
    (unread : read f = none) (addr : Byte) : s.takeReply addr read = s.miss := by
  simp only [State.takeReply, flies, unread, ite_self]

theorem event_congr {s : State} {f g : State → State} (same : f s = g s) : s.event f = s.event g := by
  unfold State.event
  rw [same]

/-- A frame of another address, or one that is not read, is missed. -/
theorem takeReply_foreign {s : State} {f : Flight} {read : Flight → Option (State → State)} {addr : Byte}
    (flies : s.bus.flight = some f)
    (foreign : ∀ deliver : State → State, read f = some deliver → unitAddr f.unit ≠ addr.toNat) :
    s.takeReply addr read = s.miss := by
  cases reads : read f with
  | none => exact takeReply_unread flies reads addr
  | some deliver => exact takeReply_elsewhere flies (foreign deliver reads) read

/-- The unit has left the state in which a reply to the command is taken (R26, R38). -/
def State.hasLeft (s : State) (f : Flight) : Prop := f.stale = true ∨ (s.unit f.unit).state ≠ f.cmd.needs

theorem miss_left {s : State} {f : Flight} (flies : s.bus.flight = some f) (left : s.hasLeft f) : s.miss = s.endFlight := by
  simp only [State.miss, flies]
  by_cases stale : f.stale = true
  · rw [if_pos stale]
  · rw [if_neg stale]
    have away : (s.endFlight.unit f.unit).state ≠ f.cmd.needs := left.resolve_left stale
    cases cmd : f.cmd <;> cases state : (s.endFlight.unit f.unit).state <;> simp_all [BusCmd.needs]

theorem answered_left {s : State} {f : Flight} (left : s.hasLeft f) (deliver : State → State) :
    s.answered f deliver = s.endFlight := by
  refine if_neg fun ⟨fresh, state⟩ => ?_
  rcases left with stale | away
  · exact Bool.false_ne_true (fresh.symm.trans stale)
  · exact away state

theorem takeReply_left {s : State} {f : Flight} (flies : s.bus.flight = some f) (left : s.hasLeft f) (addr : Byte)
    (read : Flight → Option (State → State)) : s.takeReply addr read = s.endFlight := by
  simp only [State.takeReply, flies]
  split
  · cases read f with
    | some deliver => exact answered_left left deliver
    | none => exact miss_left flies left
  · exact miss_left flies left

theorem replyDeadline_idle {s : State} (idle : s.bus.flight = none) (clock : Nat) : s.replyDeadline clock = s := by
  simp only [State.replyDeadline, idle]

/-- Before the 25 ms are over the deadline is not reached (R23). -/
theorem replyDeadline_early {s : State} {f : Flight} {clock : Nat} (flies : s.bus.flight = some f)
    (early : f.phase = .transmitting ∨ ∃ since : Nat, f.phase = .awaiting since ∧ clock < since + 25) :
    s.replyDeadline clock = s := by
  rcases early with sending | ⟨since, waits, before⟩
  · simp only [State.replyDeadline, flies, sending]
  · simp only [State.replyDeadline, flies, waits]
    exact if_neg (not_le.mpr before)

/-! ### The rows of the replies -/

/-- The row that brings the reply to a command. -/
def Flight.ownReply (f : Flight) (addr : Byte) (payload : List Byte) : Instr :=
  match f.cmd with
  | .probe => .probeReply addr payload
  | .poll => .pollReply addr payload
  | .status => .statusReply addr payload
  | .latch l => if l.dir = .openIt then .latchOpenReply addr payload else .latchCloseReply addr payload
  | .lamps _ => .lampsReply addr payload
  | .flap _ => .flapReply addr payload

/-- A payload has the layout of the reply to a command. -/
def Flight.fits (f : Flight) (payload : List Byte) : Bool :=
  match f.cmd with
  | .probe => (readProbe f.unit payload).isSome
  | .poll => if f.unit = chuteIx then (readPoll readChuteEntry payload).isSome else (readPoll readModuleEntry payload).isSome
  | .status => (readStatus f.unit payload).isSome
  | .latch _ => (readLatch payload).isSome
  | .lamps _ => payload.isEmpty
  | .flap _ => (readFlapReply payload).isSome

theorem unitMod_eq_none {u : UnitIx} : unitMod u = none ↔ u = chuteIx := by revert u; decide

section
variable {payload : List Byte} {f : Flight} {deliver : State → State} (addr : Byte)

theorem readProbeReply_own (read : readProbeReply payload f = some deliver) :
    f.ownReply addr payload = .probeReply addr payload ∧ f.fits payload = true := by
  unfold readProbeReply at read
  cases cmd : f.cmd <;> simp only [cmd, reduceCtorEq] at read
  obtain ⟨_, read, -⟩ := Option.map_eq_some_iff.mp read
  simp only [Flight.ownReply, Flight.fits, cmd, read, Option.isSome_some, and_self]

theorem readPollReply_own (read : readPollReply payload f = some deliver) :
    f.ownReply addr payload = .pollReply addr payload ∧ f.fits payload = true := by
  unfold readPollReply at read
  cases cmd : f.cmd <;> simp only [cmd, reduceCtorEq] at read
  simp only [Flight.ownReply, Flight.fits, cmd, true_and]
  cases module_ : unitMod f.unit with
  | some m =>
    have other : f.unit ≠ chuteIx := fun chute => by rw [unitMod_eq_none.mpr chute] at module_; cases module_
    simp only [module_] at read
    obtain ⟨_, read, -⟩ := Option.map_eq_some_iff.mp read
    rw [if_neg other, read]
    rfl
  | none =>
    simp only [module_] at read
    obtain ⟨_, read, -⟩ := Option.map_eq_some_iff.mp read
    rw [if_pos (unitMod_eq_none.mp module_), read]
    rfl

theorem readStatusReply_own (read : readStatusReply payload f = some deliver) :
    f.ownReply addr payload = .statusReply addr payload ∧ f.fits payload = true := by
  unfold readStatusReply at read
  cases cmd : f.cmd <;> simp only [cmd, reduceCtorEq] at read
  obtain ⟨_, read, -⟩ := Option.map_eq_some_iff.mp read
  simp only [Flight.ownReply, Flight.fits, cmd, read, Option.isSome_some, and_self]

theorem readLatchReply_own {dir : LatchDir} (read : readLatchReply dir payload f = some deliver) :
    f.ownReply addr payload = (if dir = .openIt then .latchOpenReply addr payload else .latchCloseReply addr payload)
      ∧ f.fits payload = true := by
  unfold readLatchReply at read
  cases cmd : f.cmd <;> simp only [cmd, reduceCtorEq] at read
  split at read
  · rename_i same
    obtain ⟨_, read, -⟩ := Option.map_eq_some_iff.mp read
    simp only [Flight.ownReply, Flight.fits, cmd, same, read, Option.isSome_some, and_self]
  · cases read

theorem readLampsReply_own (read : readLampsReply payload f = some deliver) :
    f.ownReply addr payload = .lampsReply addr payload ∧ f.fits payload = true := by
  unfold readLampsReply at read
  cases cmd : f.cmd <;> simp only [cmd, reduceCtorEq] at read
  obtain ⟨_, read, -⟩ := Option.map_eq_some_iff.mp read
  simp only [Flight.ownReply, Flight.fits, cmd, true_and]
  by_contra filled
  rw [readNone, if_neg filled] at read
  cases read

theorem readFlapFrame_own (read : readFlapFrame payload f = some deliver) :
    f.ownReply addr payload = .flapReply addr payload ∧ f.fits payload = true := by
  unfold readFlapFrame at read
  cases cmd : f.cmd <;> simp only [cmd, reduceCtorEq] at read
  obtain ⟨_, read, -⟩ := Option.map_eq_some_iff.mp read
  simp only [Flight.ownReply, Flight.fits, cmd, read, Option.isSome_some, and_self]

end

/-- The rows that bring a reply from the bus. -/
def replyRows (addr : Byte) (payload : List Byte) : List Instr :=
  [.probeReply addr payload, .pollReply addr payload, .statusReply addr payload, .latchOpenReply addr payload,
   .latchCloseReply addr payload, .lampsReply addr payload, .flapReply addr payload]

/-- A reply row takes a reply, and reads only the reply to its own command. -/
theorem replyRow_reads {i : Instr} {addr : Byte} {payload : List Byte} (row : i ∈ replyRows addr payload) :
    ∃ read : Flight → Option (State → State),
      (∀ s : State, exec i s = .next (s.event fun s => s.takeReply addr read))
        ∧ ∀ (f : Flight) (deliver : State → State), read f = some deliver → f.ownReply addr payload = i ∧ f.fits payload = true := by
  simp only [replyRows, List.mem_cons, List.not_mem_nil, or_false] at row
  rcases row with rfl | rfl | rfl | rfl | rfl | rfl | rfl
  · exact ⟨_, fun _ => rfl, fun _ _ => readProbeReply_own addr⟩
  · exact ⟨_, fun _ => rfl, fun _ _ => readPollReply_own addr⟩
  · exact ⟨_, fun _ => rfl, fun _ _ => readStatusReply_own addr⟩
  · exact ⟨_, fun _ => rfl, fun _ _ => readLatchReply_own addr⟩
  · exact ⟨_, fun _ => rfl, fun _ _ => readLatchReply_own addr⟩
  · exact ⟨_, fun _ => rfl, fun _ _ => readLampsReply_own addr⟩
  · exact ⟨_, fun _ => rfl, fun _ _ => readFlapFrame_own addr⟩

/-! ### The layouts of the replies -/

/-- The length R24 gives the reply to a command, where it is fixed. -/
def Flight.replySize (f : Flight) : Option Nat :=
  match f.cmd with
  | .probe => some (if f.unit = chuteIx then 3 else 81)
  | .poll => none
  | .status => some (if f.unit = chuteIx then 2 else 80)
  | .latch _ => some 2
  | .lamps _ => some 0
  | .flap _ => some 1

/-- A payload has a value that its field does not have. -/
def Flight.misvalued (f : Flight) (payload : List Byte) : Bool :=
  match f.cmd with
  | .probe =>
    byteAt payload 0 != (if f.unit = chuteIx then 1 else 0)
      || (f.unit == chuteIx && (decide (1 < byteAt payload 1) || decide (1 < byteAt payload 2)))
  | .poll => decide (16 < byteAt payload 0 % 32) || payload.length != 1 + 5 * (byteAt payload 0 % 32)
  | .status => f.unit == chuteIx && (decide (1 < byteAt payload 0) || decide (1 < byteAt payload 1))
  | .latch _ => decide (2 < byteAt payload 0)
  | .lamps _ => false
  | .flap _ => decide (1 < byteAt payload 0)

theorem laid_out_of_fits {f : Flight} {payload : List Byte} (fits : f.fits payload = true) :
    (∀ k : Nat, f.replySize = some k → payload.length = k) ∧ f.misvalued payload = false := by
  cases cmd : f.cmd with
  | probe =>
    simp only [Flight.fits, cmd] at fits
    obtain ⟨len, kind, values⟩ := readProbe_some (Option.some_get fits).symm
    simp only [Flight.replySize, Flight.misvalued, cmd, Option.some.injEq, forall_eq']
    refine ⟨len, ?_⟩
    by_cases chute : f.unit = chuteIx
    · simp [kind, chute, (values chute).1, (values chute).2]
    · simp [kind, chute]
  | poll =>
    simp only [Flight.fits, cmd] at fits
    have counted : byteAt payload 0 % 32 ≤ 16 ∧ payload.length = 1 + 5 * (byteAt payload 0 % 32) := by
      split at fits
      · exact readPoll_some readChuteEntry_length (Option.some_get fits).symm
      · exact readPoll_some readModuleEntry_length (Option.some_get fits).symm
    simp [Flight.replySize, Flight.misvalued, cmd, counted.1, ← counted.2]
  | status =>
    simp only [Flight.fits, cmd] at fits
    obtain ⟨len, values⟩ := readStatus_some (Option.some_get fits).symm
    simp only [Flight.replySize, Flight.misvalued, cmd, Option.some.injEq, forall_eq']
    refine ⟨len, ?_⟩
    by_cases chute : f.unit = chuteIx
    · simp [chute, (values chute).1, (values chute).2]
    · simp [chute]
  | latch l =>
    simp only [Flight.fits, cmd] at fits
    obtain ⟨len, coil⟩ := readLatch_some (Option.some_get fits).symm
    simp [Flight.replySize, Flight.misvalued, cmd, len, coil]
  | lamps ps =>
    simp only [Flight.fits, cmd] at fits
    simp [Flight.replySize, Flight.misvalued, cmd, List.isEmpty_iff.mp fits]
  | flap want =>
    simp only [Flight.fits, cmd] at fits
    obtain ⟨len, value⟩ := readFlapReply_some (Option.some_get fits).symm
    simp [Flight.replySize, Flight.misvalued, cmd, len, value]

theorem needs_eq (c : BusCmd) : c.needs = if c = .probe then .probing else .online := by
  cases c <;> rfl

/-- Settles O39: what is not the reply to the command in flight is read as none, and what is ended is discarded where the unit has
left. -/
theorem aReplyThatDoesNotBelongIsMissed : Obligations.AReplyThatDoesNotBelongIsMissed := by
  intro s addr payload i clock running rows row
  obtain ⟨read, meaning, own⟩ := replyRow_reads (i := i) (addr := addr) (payload := payload) row
  refine ⟨fun idle => ⟨gives_event _ (meaning s) running (takeReply_idle idle addr read),
      gives_event _ rfl running (miss_idle idle), gives_event _ rfl running (replyDeadline_idle idle clock)⟩,
    fun f flies => ⟨fun early => gives_event _ rfl running (replyDeadline_early flies early), ?_⟩⟩
  refine ⟨fun foreign => ?_, fun left => ?_⟩
  · rw [meaning s]
    refine congrArg Host.Outcome.next (event_congr (takeReply_foreign flies fun deliver reads => ?_))
    obtain ⟨mine, fits⟩ := own f deliver reads
    obtain ⟨len, valued⟩ := laid_out_of_fits fits
    rcases foreign with elsewhere | other | ⟨k, size, short⟩ | wrong | unread
    · exact elsewhere
    · exact absurd mine.symm other
    · exact absurd (len k size) short
    · exact absurd (valued.symm.trans wrong) Bool.false_ne_true
    · exact absurd (unread.symm.trans fits) Bool.false_ne_true
  · have gone : s.hasLeft f := left.imp_right fun away => needs_eq f.cmd ▸ away
    exact ⟨gives_event _ (meaning s) running (takeReply_left flies gone addr read), gives_event _ rfl running (miss_left flies gone)⟩

end Sys2Proof.Machine
end

section
/-! SUPPORT. A missed transaction (R23, R27, R28, R35): counted below three, and a failed probe taken by its cause. -/

namespace Sys2Proof.Machine

theorem putUnit_eq (s : State) (u : UnitIx) (f : UnitRec → UnitRec) : s.putUnit u (f (s.unit u)) = s.withUnit u f := rfl

theorem withUnit_withUnit (s : State) (u : UnitIx) (f g : UnitRec → UnitRec) :
    (s.withUnit u f).withUnit u g = s.withUnit u fun r => g (f r) := by
  unfold State.withUnit
  congr 1
  show (s.units.set u (f s.units[u])).set u (g (s.units.set u (f s.units[u]))[u]) = s.units.set u (g (f s.units[u]))
  have read : (s.units.set u (f s.units[u]))[u] = f s.units[u] := Vector.getElem_set_self ..
  rw [read, Vector.set_set]

/-- What a miss comes to in a state whose unit takes it: the failed probe, or the miss of an ONLINE unit. -/
theorem missedBy_event {s : State} {u : UnitIx} {c : BusCmd} {i : Instr} (missed : s.missedBy u c i) :
    ∃ f : State → State, exec i s = .next (s.event f) ∧ f s = s.miss := by
  obtain ⟨-, f, flies, -, -, -, rfl | ⟨since, clock, waits, due, rfl⟩⟩ := missed
  · exact ⟨_, rfl, rfl⟩
  · refine ⟨_, rfl, ?_⟩
    simp only [State.replyDeadline, flies, waits]
    exact if_pos due

theorem miss_online {s : State} {u : UnitIx} {c : BusCmd} {i : Instr} (missed : s.missedBy u c i) (noProbe : c ≠ .probe)
    (online : (s.unit u).state = .online) : s.miss = s.endFlight.missOnline u c := by
  obtain ⟨-, f, flies, rfl, rfl, fresh, -⟩ := missed
  have state : (s.endFlight.unit f.unit).state = .online := online
  simp only [State.miss, flies, fresh, Bool.false_eq_true, if_false, state]

theorem miss_probing {s : State} {u : UnitIx} {i : Instr} (missed : s.missedBy u .probe i)
    (probing : (s.unit u).state = .probing) : s.miss = s.endFlight.probeFailed u := by
  obtain ⟨-, f, flies, rfl, cmd, fresh, -⟩ := missed
  have state : (s.endFlight.unit f.unit).state = .probing := probing
  simp only [State.miss, flies, fresh, Bool.false_eq_true, if_false, state, cmd]

theorem missOnline_below {s : State} {u : UnitIx} (below : (s.unit u).misses < 2) (c : BusCmd) :
    s.missOnline u c = (s.withUnit u fun r => { r with misses := r.misses + 1 }).missEffect u c :=
  if_neg (show ¬ 3 ≤ (s.unit u).misses + 1 by omega)

/-- The LATCH commands after a miss: a LATCH goes back to its place with one more miss. -/
def BusCmd.putBack (c : BusCmd) (latches : List LatchCmd) : List LatchCmd :=
  match c with
  | .latch l => insertBy LatchCmd.older { l with tries := l.tries + 1 } latches
  | _ => latches

/-- The command leaves its LAMPS wanted where it is missed. -/
def BusCmd.lamps? (c : BusCmd) : Bool :=
  match c with
  | .lamps _ => true
  | _ => false

/-- What a miss leaves on the unit's record besides the count (R27). -/
def UnitRec.missed (r : UnitRec) (c : BusCmd) : UnitRec :=
  { r with resync := r.resync || c == .poll, lampsWanted := r.lampsWanted || c.lamps? }

theorem UnitRec.missed_poll (r : UnitRec) : r.missed .poll = { r with resync := true } := by
  simp [UnitRec.missed, BusCmd.lamps?]

theorem UnitRec.missed_lamps (r : UnitRec) (ps : List Lamp) : r.missed (.lamps ps) = { r with lampsWanted := true } := by
  simp [UnitRec.missed, BusCmd.lamps?]

theorem UnitRec.missed_other {c : BusCmd} (noPoll : c ≠ .poll) (noLamps : c.lamps? = false) (r : UnitRec) : r.missed c = r := by
  have resync : (r.resync || c == .poll) = r.resync := by rw [beq_eq_false_iff_ne.mpr noPoll, Bool.or_false]
  rw [UnitRec.missed, resync, noLamps, Bool.or_false]

theorem missEffect_eq (s : State) (u : UnitIx) (c : BusCmd) :
    s.missEffect u c = (s.withUnit u fun r => r.missed c).setBus { s.bus with latches := c.putBack s.bus.latches } := by
  have other (noPoll : c ≠ .poll) (noLamps : c.lamps? = false) : (s.withUnit u fun r => r.missed c) = s := by
    have same : (fun r : UnitRec => r.missed c) = fun r => r := funext fun r => r.missed_other noPoll noLamps
    rw [same, withUnit_id]
  cases c with
  | poll =>
    have same : (fun r : UnitRec => r.missed .poll) = fun r => { r with resync := true } := funext UnitRec.missed_poll
    rw [same]
    rfl
  | lamps ps =>
    have same : (fun r : UnitRec => r.missed (.lamps ps)) = fun r => { r with lampsWanted := true } :=
      funext fun r => r.missed_lamps ps
    rw [same]
    rfl
  | probe => rw [other nofun rfl]; rfl
  | status => rw [other nofun rfl]; rfl
  | latch l => rw [other nofun rfl]; rfl
  | flap want => rw [other nofun rfl]; rfl

/-- Settles O40: the miss is counted, and leaves its effect on the record or on the pending set. -/
theorem aMissBelowThreeIsCounted : Obligations.AMissBelowThreeIsCounted := by
  intro s u c i missed noProbe online below
  obtain ⟨f, meaning, event⟩ := missedBy_event missed
  refine gives_event f meaning missed.1 ?_
  rw [event, miss_online missed noProbe online, missOnline_below (s := s.endFlight) below, missEffect_eq, withUnit_withUnit]
  cases c <;> rfl

/-! ### A failed probe (R35) -/

/-- The unit's state and attempts after a failed probe, by its cause. -/
def ProbeCause.failed (c : ProbeCause) (attempts : Nat) : UnitState × Nat :=
  match c with
  | .start => (.absent, attempts)
  | .reviveAbsent => (.absent, attempts)
  | .reviveRetired => (.recovery, 1)
  | .retry => (if 5 ≤ attempts + 1 then .retired else .recovery, attempts + 1)
  | .holdEnd => (if 5 ≤ attempts + 1 then .retired else .recovery, attempts + 1)

/-- A unit's record after a failed probe. -/
def UnitRec.probeLost (state : UnitState) (attempts : Nat) (r : UnitRec) : UnitRec :=
  { r with state, attempts, cause := none, retry := if state = .recovery then some 2 else none }

theorem moduleState_tables (s : State) (u : UnitIx) (old : UnitState) : (s.moduleState u old).tables = s.tables := rfl

theorem startProbesLeft_eq (s : State) : s.startProbesLeft = !(allUnits.all fun x => (s.unit x).cause != some .start) := by
  rw [State.startProbesLeft, List.not_all_eq_any_not]
  congr 1
  funext x
  exact (Bool.not_not _).symm

theorem startProbesLeft_withUnit {s : State} (u : UnitIx) {f : UnitRec → UnitRec} (none_ : (f (s.unit u)).cause = none) :
    (s.withUnit u f).startProbesLeft = !(allUnits.all fun x => x == u || (s.unit x).cause != some .start) := by
  rw [startProbesLeft_eq]
  congr 2
  funext x
  rw [unit_withUnit]
  by_cases same : x = u
  · subst same
    simp [none_]
  · simp [same]

theorem startMarked_same {s : State} {reported : Bool} (same : reported = s.mode.startReported) : s.startMarked reported = s := by
  subst same
  rfl

theorem startCheck_marked (s : State) :
    s.startCheck.tables = (s.startMarked (s.mode.startReported || !s.startProbesLeft)).tables := by
  unfold State.startCheck
  split
  · rename_i over_
    rw [startMarked_same]
    cases reported : s.mode.startReported
    · have left : s.startProbesLeft = true := by rwa [reported, Bool.false_or] at over_
      rw [left]
      rfl
    · rfl
  · rename_i pending
    rw [Bool.not_eq_true, Bool.or_eq_false_iff] at pending
    rw [pending.1, pending.2]
    rfl

theorem startProbesLeft_congr {s t : State} (same : t.tables = s.tables) : t.startProbesLeft = s.startProbesLeft := by
  unfold State.startProbesLeft
  congr 1
  funext x
  have cause : (t.unit x).cause = (s.unit x).cause :=
    show (t.unit x).bare.cause = (s.unit x).bare.cause from congrArg UnitRec.cause (unit_bare same x)
  rw [cause]

/-- START is queued once the last START probe has ended, that of `u` here. -/
theorem startCheck_done {s : State} {u : UnitIx} {f : UnitRec → UnitRec} (none_ : (f (s.unit u)).cause = none) :
    (s.withUnit u f).startCheck.tables = ((s.withUnit u f).startMarked (s.startDone u .start)).tables := by
  rw [startCheck_marked, startProbesLeft_withUnit u none_, Bool.not_not]
  rfl

theorem startDone_other {s : State} {c : ProbeCause} (noStart : c ≠ .start) (u : UnitIx) :
    s.startDone u c = s.mode.startReported := by
  rw [State.startDone, beq_false_of_ne noStart, Bool.false_and, Bool.or_false]

theorem afterAttempts_eq (k : Nat) : afterAttempts k = if 5 ≤ k then .retired else .recovery := rfl

/-- A failed probe, by its cause: the record, and the mark of the START report. -/
theorem probeFailed_tables {s : State} {u : UnitIx} {c : ProbeCause} (cause : (s.unit u).cause = some c) :
    (s.probeFailed u).tables =
      ((s.withUnit u (UnitRec.probeLost (c.failed (s.unit u).attempts).1 (c.failed (s.unit u).attempts).2)).startMarked
        (s.startDone u c)).tables := by
  cases c <;> simp only [State.probeFailed, cause]
  case start => exact startCheck_done (f := UnitRec.probeLost .absent (s.unit u).attempts) rfl
  case reviveAbsent => rw [startDone_other (c := .reviveAbsent) (by decide)]; rfl
  case reviveRetired =>
    rw [startDone_other (c := .reviveRetired) (by decide), moduleState_tables, raiseAlert_tables]
    rfl
  case retry =>
    rw [startDone_other (c := .retry) (by decide)]
    split <;> rfl
  case holdEnd =>
    rw [startDone_other (c := .holdEnd) (by decide), moduleState_tables]
    split
    · rfl
    · rw [raiseAlert_tables]
      rfl

/-- Settles O42: the record goes by the cause of the probe. -/
theorem aFailedProbeGoesByItsCause : Obligations.AFailedProbeGoesByItsCause := by
  intro s u i c missed probing cause r attempts state
  obtain ⟨f, meaning, event⟩ := missedBy_event missed
  refine makes_event f meaning missed.1 ?_
  rw [event, miss_probing missed probing]
  refine (probeFailed_tables (s := s.endFlight) cause).trans ?_
  cases c <;> rfl

end Sys2Proof.Machine
end

section
/-! SUPPORT. A reply that is delivered (R23, R26), and what the LAMPS, FLAP and chute PROBE replies bring (R35, R42, R108). -/

namespace Sys2Proof.Machine

/-- The state in which the reply of a unit is delivered: the transaction has ended and the unit's misses are 0. -/
def State.landed (s : State) (u : UnitIx) : State := { s.replied u with bus := { s.bus with flight := none } }

theorem landed_tables (s : State) (u : UnitIx) : (s.landed u).tables = (s.replied u).tables := rfl

/-- The reply a unit owes is delivered. -/
theorem takeReply_delivers {s : State} {u : UnitIx} {c : BusCmd} {addr : Byte} {read : Flight → Option (State → State)}
    {deliver : State → State} (awaits : s.awaits u c addr) (reads : ∀ f : Flight, f.unit = u → f.cmd = c → read f = some deliver) :
    s.takeReply addr read = deliver (s.landed u) := by
  obtain ⟨-, ⟨f, flies, rfl, rfl, fresh⟩, here, state⟩ := awaits
  simp only [State.takeReply, flies, if_pos here, reads f rfl rfl]
  exact if_pos ⟨fresh, state.trans (needs_eq f.cmd).symm⟩

theorem gives_reply {s t : State} {i : Instr} {u : UnitIx} {c : BusCmd} {addr : Byte} {read : Flight → Option (State → State)}
    {deliver : State → State} (awaits : s.awaits u c addr) (meaning : exec i s = .next (s.event fun s => s.takeReply addr read))
    (reads : ∀ f : Flight, f.unit = u → f.cmd = c → read f = some deliver) (comes : deliver (s.landed u) = t) : Gives s i t :=
  gives_event _ meaning awaits.1 ((takeReply_delivers awaits reads).trans comes)

theorem makes_reply {s t : State} {i : Instr} {u : UnitIx} {c : BusCmd} {addr : Byte} {read : Flight → Option (State → State)}
    {deliver : State → State} (awaits : s.awaits u c addr) (meaning : exec i s = .next (s.event fun s => s.takeReply addr read))
    (reads : ∀ f : Flight, f.unit = u → f.cmd = c → read f = some deliver) (comes : (deliver (s.landed u)).tables = t.tables) :
    Makes s i t :=
  makes_event _ meaning awaits.1 ((congrArg State.tables (takeReply_delivers awaits reads)).trans comes)

/-! ### The chute unit's flap (R42, R108) -/

/-- The flap position a byte of a reply gives. -/
def flapAt (flap : Byte) : FlapPos := if flap = 0 then .locked else .unlocked

theorem readFlapReply_byte {flap : Byte} (value : flap = 0 ∨ flap = 1) : readFlapReply [flap] = some (flapAt flap) := by
  rcases value with rfl | rfl <;> rfl

@[simp] theorem judgeChuteLocked_form (s : State) :
    s.judgeChuteLocked.tables = s.tables.condTo .chuteLocked (s.chute.wanted == .locked || s.chute.refused) := judgeCond_form s _ _

/-- The refused mark after a flap reported, to an UNLOCK or not. -/
def State.refusedAfter (s : State) (flap : FlapPos) (unlockSent : Bool) : Bool := flap == .locked && (s.chute.refused || unlockSent)

theorem confirmFlap_tables (s : State) (flap : FlapPos) (unlockSent : Bool) :
    (s.confirmFlap flap unlockSent).tables =
      (State.condTo { s with chute := { s.chute with confirmed := flap, refused := s.refusedAfter flap unlockSent } } .chuteLocked
        (s.chute.wanted == .locked || s.refusedAfter flap unlockSent)).tables := by
  have refused : (match flap with
      | .unlocked => false
      | .locked => s.chute.refused || unlockSent) = s.refusedAfter flap unlockSent := by
    cases flap <;> rfl
  rw [← refused]
  exact (judgeChuteLocked_form _).trans (condTo_form _ _ _).symm

/-! ### The hatch (R42, R110) -/

/-- The hatch is recorded OPEN or CLOSED. -/
def State.hatchSet (s : State) (isOpen : Bool) : State := { s with chute := { s.chute with hatchOpen := isOpen } }

/-- Every IN_BIN entry of the list handed over. -/
def State.binHanded (s : State) : State := { s with bin := { s.bin with entries := s.bin.entries.map fun e => e.hand s.time } }

theorem handedOver_eq (s : State) : s.handedOver = s.binHanded.nearFullJudged.flapJudged := rfl

theorem hand_bare (e : DropEntry) (time : Option Nat) : (e.hand time).bare = e.bare.hand time := by
  by_cases here : e.state = .inBin
  · have bare : e.bare.state = .inBin := here
    rw [DropEntry.hand, DropEntry.hand, if_pos here, if_pos bare]
    rfl
  · have bare : ¬ e.bare.state = .inBin := here
    rw [DropEntry.hand, DropEntry.hand, if_neg here, if_neg bare]

theorem binHanded_form (s : State) : s.binHanded.tables = s.tables.binHanded := by
  have entries : (s.bin.entries.map fun e => e.hand s.time).map DropEntry.bare
      = (s.bin.entries.map DropEntry.bare).map fun e : DropEntry => e.hand s.time := by
    rw [List.map_map, List.map_map]
    exact List.map_congr_left fun e _ => hand_bare e s.time
  show { s.tables with bin := { s.bin with entries := (s.bin.entries.map fun e : DropEntry => e.hand s.time).map DropEntry.bare } } = _
  rw [entries]
  rfl

theorem handedOver_form (s : State) : s.handedOver.tables = s.tables.handedOver := by
  rw [handedOver_eq, handedOver_eq, flapJudged_form, nearFullJudged_form, binHanded_form]

theorem hatchOpened_tables (s : State) : s.hatchOpened.tables = s.handedOver.tables := by
  unfold State.hatchOpened
  dsimp only
  rw [queueReport_tables, judgeFlap_form, judgeNearFull_form, handedOver_eq, flapJudged_form, nearFullJudged_form]
  rfl

theorem seeHatch_tables (s : State) (isOpen : Bool) :
    (s.seeHatch isOpen).tables =
      (if isOpen = true ∧ s.chute.hatchOpen = false then (s.hatchSet isOpen).handedOver else s.hatchSet isOpen).tables := by
  by_cases same : isOpen = s.chute.hatchOpen
  · have kept : s.seeHatch isOpen = s.hatchSet isOpen := by
      subst same
      exact if_pos rfl
    have unmoved : ¬ (isOpen = true ∧ s.chute.hatchOpen = false) := fun ⟨now, before⟩ =>
      Bool.false_ne_true (before.symm.trans (same.symm.trans now))
    rw [kept, if_neg unmoved]
  · cases isOpen with
    | false => exact congrArg State.tables (if_neg same)
    | true =>
      have shut : s.chute.hatchOpen = false := Bool.eq_false_iff.mpr (Ne.symm same)
      rw [if_pos ⟨rfl, shut⟩]
      exact (congrArg State.tables (if_neg same)).trans (hatchOpened_tables _)

/-- The chute unit's record brought up to date by a full status. -/
def State.chuteAt (s : State) (flap hatch : Byte) : State :=
  State.condTo
    { s with
      chute := { s.chute with confirmed := flapAt flap, hatchOpen := hatch == 0, refused := s.chute.refused && flap == 0 } }
    .chuteLocked (s.chute.wanted == .locked || (s.chute.refused && flap == 0))

theorem chuteSeen_eq (s : State) (flap hatch : Byte) :
    s.chuteSeen flap hatch =
      if hatch = 0 ∧ s.chute.hatchOpen = false then (s.chuteAt flap hatch).handedOver else s.chuteAt flap hatch := rfl

theorem chuteStatus_tables (s : State) {flap hatch : Byte} (value : flap = 0 ∨ flap = 1) :
    (s.chuteStatus (flapAt flap) (hatch == 0)).tables = (s.chuteSeen flap hatch).tables := by
  have refused : s.refusedAfter (flapAt flap) false = (s.chute.refused && flap == 0) := by
    rw [State.refusedAfter, Bool.or_false, Bool.and_comm]
    rcases value with rfl | rfl <;> rfl
  have same : ((s.confirmFlap (flapAt flap) false).hatchSet (hatch == 0)).tables = (s.chuteAt flap hatch).tables := by
    rw [State.chuteAt, ← refused]
    exact congrArg (fun t : State => t.hatchSet (hatch == 0)) (confirmFlap_tables s (flapAt flap) false)
  have before : (s.confirmFlap (flapAt flap) false).chute.hatchOpen = s.chute.hatchOpen :=
    show (s.confirmFlap (flapAt flap) false).tables.chute.hatchOpen = s.chute.hatchOpen by rw [confirmFlap_tables]; rfl
  rw [State.chuteStatus, seeHatch_tables, before, chuteSeen_eq]
  by_cases opens : hatch = 0 ∧ s.chute.hatchOpen = false
  · rw [if_pos opens, if_pos ⟨beq_iff_eq.mpr opens.1, opens.2⟩, handedOver_form, same, ← handedOver_form]
  · rw [if_neg opens, if_neg fun ⟨now, shut⟩ => opens ⟨beq_iff_eq.mp now, shut⟩]
    exact same

/-! ### LAMPS and FLAP replies, and the last byte of a command -/

theorem readLampsReply_lamps {f : Flight} {ps : List Lamp} (cmd : f.cmd = .lamps ps) : readLampsReply [] f = some fun s => s := by
  simp only [readLampsReply, cmd]
  rfl

theorem readFlapFrame_flap {f : Flight} {want : FlapPos} {flap : Byte} (cmd : f.cmd = .flap want) (value : flap = 0 ∨ flap = 1) :
    readFlapFrame [flap] f = some fun s => s.confirmFlap (flapAt flap) (want == .unlocked) := by
  simp only [readFlapFrame, cmd, readFlapReply_byte value]
  rfl

theorem sbde_eq {s : State} {f : Flight} (flies : s.bus.flight = some f) : s.sbde = (f.phase == .transmitting) := by
  simp only [State.sbde, flies]

theorem commandSent_sending {s : State} {f : Flight} (flies : s.bus.flight = some f) (sending : f.phase = .transmitting)
    (clock : Nat) : s.commandSent clock = s.setBus { s.bus with flight := some { f with phase := .awaiting clock } } := by
  simp only [State.commandSent, flies, sending]

theorem commandSent_sent {s : State} {f : Flight} (flies : s.bus.flight = some f) (sent : f.phase ≠ .transmitting)
    (clock : Nat) : s.commandSent clock = s := by
  simp only [State.commandSent, flies]
  cases phase : f.phase with
  | transmitting => exact absurd phase sent
  | awaiting since => rfl

theorem chooseCommand_busy {s : State} {f : Flight} (flies : s.bus.flight = some f) : s.chooseCommand = s :=
  if_pos (by rw [flies]; rfl)

theorem exec_commandLastByteSent {s : State} {f : Flight} {clock : Nat} {t : State} (running : s.power.stopped = false)
    (comes : s.commandSent clock = t) (flies : t.bus.flight = some f) : exec (.commandLastByteSent clock) s = .next t := by
  have gives : Gives s (.commandLastByteSent clock) t := gives_event _ rfl running comes
  rwa [Gives, chooseCommand_busy flies] at gives

/-- Settles O52: each reply ends its command; a LAMPS reply brings nothing more, a FLAP reply the flap. -/
theorem lampsFlapAndTheLastByte : Obligations.LampsFlapAndTheLastByte := by
  intro s addr
  refine ⟨fun u ps awaits => ?_, ?_, fun clock f running flies => ⟨fun sending => ?_, fun sent => ?_⟩⟩
  · exact gives_reply (deliver := fun s => s) awaits rfl (fun f _ cmd => readLampsReply_lamps cmd) rfl
  · intro want flap awaits value refused
    refine makes_reply (deliver := fun s => s.confirmFlap (flapAt flap) (want == .unlocked)) awaits rfl
      (fun f _ cmd => readFlapFrame_flap cmd value) ?_
    have mark : (s.landed chuteIx).refusedAfter (flapAt flap) (want == .unlocked) = refused := by
      show (flapAt flap == .locked && (s.chute.refused || want == .unlocked)) = (flap == 0 && (s.chute.refused || want == .unlocked))
      rcases value with rfl | rfl <;> rfl
    rw [confirmFlap_tables, mark]
    rfl
  · refine ⟨(sbde_eq flies).trans (beq_iff_eq.mpr sending), _,
      exec_commandLastByteSent running (commandSent_sending flies sending clock) rfl, rfl, rfl⟩
  · exact ⟨(sbde_eq flies).trans (beq_false_of_ne sent), exec_commandLastByteSent running (commandSent_sent flies sent clock) flies⟩

/-! ### The chute unit's PROBE reply (R35) -/

/-- A unit's record at its entry to ONLINE. -/
def UnitRec.entered (r : UnitRec) : UnitRec :=
  { r with state := .online, cause := none, misses := 0, attempts := 0, retry := none, resync := false }

theorem withUnit_tables_congr {s : State} {u : UnitIx} {f g : UnitRec → UnitRec} (same : (f (s.unit u)).bare = (g (s.unit u)).bare) :
    (s.withUnit u f).tables = (s.withUnit u g).tables := by
  have units : (s.units.set u (f (s.unit u))).map UnitRec.bare = (s.units.set u (g (s.unit u))).map UnitRec.bare := by
    rw [Vector.map_set, Vector.map_set, same]
  exact congrArg (fun v : Vector UnitRec 25 => { s.tables with units := v }) units

theorem enterOnline_tables (s : State) (u : UnitIx) (cause : ProbeCause) :
    (s.enterOnline u cause).tables = (s.withUnit u UnitRec.entered).tables := by
  have entered : ((s.withUnit u fun r => { r.entered with lampsWanted := u != chuteIx }).withdrawAlert (.module u)
      [.moduleLost]).tables = (s.withUnit u UnitRec.entered).tables :=
    (withdrawAlert_tables _ _ _).trans (withUnit_tables_congr rfl)
  unfold State.enterOnline
  dsimp only
  split
  · exact (moduleState_tables _ _ _).trans entered
  · exact entered

/-- The state of a probe's unit once it has entered ONLINE, before its slots or the chute's record are looked at. -/
def State.probed (s : State) (u : UnitIx) (cause : ProbeCause) : State :=
  { s.withUnit u UnitRec.entered with
    mode := { s.mode with startOnline := if cause = .start then s.mode.startOnline + 1 else s.mode.startOnline } }

theorem countStart_eq (s : State) (cause : ProbeCause) :
    s.countStart cause =
      { s with mode := { s.mode with startOnline := if cause = .start then s.mode.startOnline + 1 else s.mode.startOnline } } := by
  unfold State.countStart
  split <;> rfl

theorem entered_landed (s : State) (u : UnitIx) (cause : ProbeCause) :
    (((s.landed u).countStart cause).enterOnline u cause).tables = (s.probed u cause).tables := by
  rw [enterOnline_tables, countStart_eq]
  have twice : (s.replied u).withUnit u UnitRec.entered = s.withUnit u UnitRec.entered := withUnit_withUnit ..
  exact congrArg (fun t : State => (State.tables
    { t with mode := { s.mode with startOnline := if cause = .start then s.mode.startOnline + 1 else s.mode.startOnline } })) twice

theorem probed_startProbesLeft (s : State) (u : UnitIx) (cause : ProbeCause) :
    (s.probed u cause).startProbesLeft = !(allUnits.all fun x => x == u || (s.unit x).cause != some .start) :=
  startProbesLeft_withUnit (s := s) u (f := UnitRec.entered) rfl

/-- START behind a probe whose unit has entered ONLINE: the mark is that of the last START probe. -/
theorem startCheck_probed {s t : State} {u : UnitIx} {cause : ProbeCause}
    (causes : ∀ x : UnitIx, (t.unit x).cause = ((s.probed u cause).unit x).cause)
    (reported : t.mode.startReported = s.mode.startReported) :
    (if cause = .start then t.startCheck else t).tables = (t.startMarked (s.startDone u cause)).tables := by
  split
  · rename_i start
    have left : t.startProbesLeft = (s.probed u cause).startProbesLeft := by
      unfold State.startProbesLeft
      congr 1
      funext x
      rw [causes x]
    rw [startCheck_marked, left, probed_startProbesLeft, Bool.not_not, reported, start]
    rfl
  · rename_i other
    rw [startDone_other other, ← reported]
    rfl

theorem readProbeReply_chute {f : Flight} {flap hatch : Byte} (unit : f.unit = chuteIx) (cmd : f.cmd = .probe)
    (flapIn : flap = 0 ∨ flap = 1) (hatchIn : hatch = 0 ∨ hatch = 1) :
    readProbeReply [1, flap, hatch] f = some fun s => s.deliverProbe chuteIx (.chute (flapAt flap) (hatch == 0)) := by
  have read : readProbe chuteIx [1, flap, hatch] = some (.chute (flapAt flap) (hatch == 0)) := by
    rcases flapIn with rfl | rfl <;> rcases hatchIn with rfl | rfl <;> rfl
  simp only [readProbeReply, cmd, unit, read]
  rfl

theorem deliverProbe_chute {s : State} {cause : ProbeCause} (held : (s.unit chuteIx).cause = some cause) (flap : FlapPos)
    (isOpen : Bool) :
    s.deliverProbe chuteIx (.chute flap isOpen) =
      (let t := ((s.countStart cause).enterOnline chuteIx cause).chuteStatus flap isOpen
      if cause = .start then t.startCheck else t) := by
  have noModule : unitMod chuteIx = none := rfl
  simp only [State.deliverProbe, held, noModule, State.thenGrant, Option.isSome_none, Bool.false_eq_true, if_false]

theorem condTo_startMarked (s : State) (c : Condition) (b reported : Bool) :
    (s.startMarked reported).condTo c b = (s.condTo c b).startMarked reported := rfl

theorem flapJudged_startMarked (s : State) (reported : Bool) :
    (s.startMarked reported).flapJudged = s.flapJudged.startMarked reported := by
  rw [flapJudged_eq, flapJudged_eq]
  by_cases same : s.flapWanted = s.chute.wanted
  · rw [State.flapTo, if_pos (show (s.startMarked reported).flapWanted = (s.startMarked reported).chute.wanted from same),
      State.flapTo, if_pos same]
  · rw [State.flapTo, if_neg (show ¬ (s.startMarked reported).flapWanted = (s.startMarked reported).chute.wanted from same),
      State.flapTo, if_neg same]
    rfl

theorem handedOver_startMarked (s : State) (reported : Bool) :
    (s.startMarked reported).handedOver = s.handedOver.startMarked reported :=
  flapJudged_startMarked s.binHanded.nearFullJudged reported

theorem chuteSeen_startMarked (s : State) (flap hatch : Byte) (reported : Bool) :
    (s.startMarked reported).chuteSeen flap hatch = (s.chuteSeen flap hatch).startMarked reported := by
  rw [chuteSeen_eq, chuteSeen_eq]
  by_cases opens : hatch = 0 ∧ s.chute.hatchOpen = false
  · rw [if_pos opens, if_pos (show hatch = 0 ∧ (s.startMarked reported).chute.hatchOpen = false from opens)]
    exact handedOver_startMarked (s.chuteAt flap hatch) reported
  · rw [if_neg opens, if_neg (show ¬ (hatch = 0 ∧ (s.startMarked reported).chute.hatchOpen = false) from opens)]
    rfl

theorem flapJudged_units (s : State) : s.flapJudged.units = s.units ∧ s.flapJudged.mode = s.mode := by
  rw [flapJudged_eq]
  unfold State.flapTo
  split <;> exact ⟨rfl, rfl⟩

theorem chuteSeen_units (s : State) (flap hatch : Byte) :
    (s.chuteSeen flap hatch).units = s.units ∧ (s.chuteSeen flap hatch).mode = s.mode := by
  rw [chuteSeen_eq]
  split
  · exact flapJudged_units _
  · exact ⟨rfl, rfl⟩

theorem chuteSeen_form (s : State) (flap hatch : Byte) : (s.chuteSeen flap hatch).tables = s.tables.chuteSeen flap hatch := by
  have form : (s.chuteAt flap hatch).tables = s.tables.chuteAt flap hatch := condTo_form _ _ _
  rw [chuteSeen_eq, chuteSeen_eq]
  by_cases opens : hatch = 0 ∧ s.chute.hatchOpen = false
  · rw [if_pos opens, if_pos (show hatch = 0 ∧ s.tables.chute.hatchOpen = false from opens), handedOver_form, form]
  · rw [if_neg opens, if_neg (show ¬ (hatch = 0 ∧ s.tables.chute.hatchOpen = false) from opens), form]

/-- Settles O43: the unit enters ONLINE, its record is brought up to date, and the START report is judged. -/
theorem aChuteProbeReplyBringsItOnline : Obligations.AChuteProbeReplyBringsItOnline := by
  intro s addr flap hatch cause awaits held flapIn hatchIn
  refine makes_reply (deliver := fun s => s.deliverProbe chuteIx (.chute (flapAt flap) (hatch == 0))) awaits rfl
    (fun f unit cmd => readProbeReply_chute unit cmd flapIn hatchIn) ?_
  have landed : ((s.landed chuteIx).unit chuteIx).cause = some cause := by
    have unit : (s.landed chuteIx).unit chuteIx = { s.unit chuteIx with misses := 0 } :=
      (unit_withUnit s chuteIx chuteIx fun r => { r with misses := 0 }).trans (if_pos rfl)
    rw [unit]
    exact held
  have seen : ((((s.landed chuteIx).countStart cause).enterOnline chuteIx cause).chuteStatus (flapAt flap) (hatch == 0)).tables
      = ((s.probed chuteIx cause).chuteSeen flap hatch).tables := by
    rw [chuteStatus_tables _ flapIn, chuteSeen_form, entered_landed, ← chuteSeen_form]
  obtain ⟨units, mode⟩ := chuteSeen_units (s.probed chuteIx cause) flap hatch
  rw [deliverProbe_chute landed]
  dsimp only
  rw [startCheck_probed (s := s) (u := chuteIx) ?_ ?_, startMarked_form, seen, ← startMarked_form, ← chuteSeen_startMarked]
  · rfl
  · intro x
    show (((((s.landed chuteIx).countStart cause).enterOnline chuteIx cause).chuteStatus (flapAt flap) (hatch == 0)).unit x).bare.cause
      = ((s.probed chuteIx cause).unit x).bare.cause
    rw [unit_bare seen, State.unit, units]
    rfl
  · exact (congrArg (fun t : State => t.mode.startReported) seen).trans
      (show ((s.probed chuteIx cause).chuteSeen flap hatch).mode.startReported = (s.probed chuteIx cause).mode.startReported by
        rw [mode])

end Sys2Proof.Machine
end

section
/-! SUPPORT. Where a key is looked up before it comes back (R8, R12, R101), and what its return does to the tables (R102, R106). -/

namespace Sys2Proof.Machine

/-! ### A key that is nowhere in the cabinet -/

theorem slotList_any (s : State) (p : SlotNo × SlotRec → Bool) : s.slotList.any p = true ↔ ∃ n : SlotNo, p (n, s.slot n) = true := by
  rw [slotList_eq, List.any_map, List.any_eq_true]
  exact ⟨fun ⟨n, _, holds⟩ => ⟨n, holds⟩, fun ⟨n, holds⟩ => ⟨n, List.mem_finRange n, holds⟩⟩

theorem heldLive_iff (s : State) (k : Nat) (but : Option SlotNo) :
    s.heldLive k but = true ↔
      ∃ n : SlotNo, (s.slot n).occ = .held ∧ (s.slot n).tag = some k ∧ s.slotOnline n = true ∧ but ≠ some n := by
  simp only [State.heldLive, slotList_any, Bool.and_eq_true, beq_iff_eq, bne_iff_ne, and_assoc]

theorem heldLive_of_untagged {s : State} {k : Nat} {but : Option SlotNo}
    (untagged : ∀ n : SlotNo, but ≠ some n → (s.slot n).tag ≠ some k) : s.heldLive k but = false := by
  rw [Bool.eq_false_iff, Ne, heldLive_iff]
  rintro ⟨n, -, tag, -, other⟩
  exact untagged n other tag

theorem lastSeenElsewhere_of_untagged {s : State} {k : Nat} {n : SlotNo}
    (untagged : ∀ m : SlotNo, m ≠ n → (s.slot m).tag ≠ some k) : s.lastSeenElsewhere k n = false := by
  rw [Bool.eq_false_iff, Ne, State.lastSeenElsewhere, slotList_any]
  simp only [Bool.and_eq_true, beq_iff_eq, bne_iff_ne]
  rintro ⟨m, ⟨-, tag⟩, other⟩
  exact untagged m (Ne.symm other) tag

theorem clearLastSeen_of_untagged {s : State} {k : Nat} {but : Option SlotNo}
    (untagged : ∀ m : SlotNo, but ≠ some m → (s.slot m).tag ≠ some k) : s.clearLastSeen k but = s := by
  have none_ : (s.slotList.filter fun p => p.2.occ == .unknown && p.2.tag == some k && but != some p.1) = [] := by
    rw [List.filter_eq_nil_iff]
    intro p at_
    rw [slotList_eq] at at_
    obtain ⟨m, -, rfl⟩ := List.mem_map.mp at_
    simp only [Bool.and_eq_true, beq_iff_eq, bne_iff_ne]
    rintro ⟨⟨-, tag⟩, other⟩
    exact untagged m other tag
  rw [State.clearLastSeen, none_]
  rfl

theorem dropOfKey_eq_none {s : State} {k : Nat} : s.dropOfKey k = none ↔ ∀ e ∈ s.bin.entries, e.tag ≠ some k := by
  simp only [State.dropOfKey, List.find?_eq_none, beq_iff_eq, ne_eq]

theorem dropOfKey_none_congr {s t : State} (same : s.tables = t.tables) (k : Nat) :
    s.dropOfKey k = none ↔ t.dropOfKey k = none := by
  rw [← Option.not_isSome_iff_eq_none, ← Option.not_isSome_iff_eq_none, dropOfKey_isSome_congr same]

theorem reslot_of_none {s : State} {k : Nat} (none_ : s.dropOfKey k = none) (n : SlotNo) : s.reslot n k = s := by
  simp only [State.reslot, none_]

/-! ### The OUT booking of a key -/

/-- The number of the OUT booking of a key. -/
def State.outNumber (s : State) (k : Nat) : Option Nat := (s.outBooking k).map (·.number)

theorem outNumber_congr {s t : State} (same : s.tables = t.tables) (k : Nat) : s.outNumber k = t.outNumber k := by
  have bookings : s.bookings.map Booking.bare = t.bookings.map Booking.bare := congrArg State.bookings same
  have through (u : State) : u.outNumber k =
      ((u.bookings.map Booking.bare).find? fun b => b.key == k && b.state == .out).map (·.number) := by
    rw [find_map_bare Booking.bare (fun b => b.key == k && b.state == .out) _ _ fun _ => rfl, Option.map_map]
    rfl
  rw [through, bookings, ← through]

/-- A booking RETURNED at a place, and out of the Due List. -/
def State.returnedAt (s : State) (b : Nat) (place : Place) : State :=
  { s.withBooking b fun x =>
      { x with
        state := .returned
        returned := some { time := s.time, place }
        lateness := s.time.map fun t => min ((t - x.due + 59) / 60) 65535 } with
    dueList := s.dueList.filter fun e => e.booking != b }

theorem returnedAt_form (s : State) (b : Nat) (place : Place) : (s.returnedAt b place).tables = s.tables.returnedAt b place := by
  have bookings := withBooking_form s b (fun x =>
    { x with
      state := .returned
      returned := some { time := s.time, place }
      lateness := s.time.map fun t => min ((t - x.due + 59) / 60) 65535 }) fun _ => rfl
  exact congrArg (fun t : State => { t with dueList := s.dueList.filter fun e => e.booking != b }) bookings

theorem dueReturn_form (s : State) (n : Nat) :
    (s.dueReturn n).tables = s.tables.setDueList (s.dueList.filter fun e => e.booking != n) :=
  withdrawAlert_tables _ _ _

/-- The return of a booking, the report of it between the record and the Due List. -/
theorem returned_reported (s : State) (b : Booking) (place : Place) (misplaced : Bool) :
    (((s.toReturned b.number place).reportReturn b place misplaced).dueReturn b.number).tables
      = (s.returnedAt b.number place).tables := by
  rw [dueReturn_form, returnedAt_form]
  exact congrArg (fun t : State => { t with dueList := s.dueList.filter fun e => e.booking != b.number }) (toReturned_form s _ _)

/-! ### A key back in a slot (R101, R102) -/

/-- The state once a key has come to a slot and is not missing, with the booking that ends there, if there is one. -/
def State.cameHome (s : State) (k : Nat) (n : SlotNo) (b : Option Nat) : State :=
  match b with
  | some b => ((s.withMissing k false).struck k).returnedAt b (.slot n)
  | none => (s.withMissing k false).struck k

theorem cameBack_eq (s : State) (k : Nat) (n : SlotNo) : s.cameBack k n = s.cameHome k n (s.outNumber k) := by
  unfold State.cameBack State.outNumber
  cases s.outBooking k <;> rfl

theorem cameHome_form (s : State) (k : Nat) (n : SlotNo) (b : Option Nat) :
    (s.cameHome k n b).tables = s.tables.cameHome k n b := by
  have struck : ((s.withMissing k false).struck k).tables = (s.tables.withMissing k false).struck k :=
    congrArg (fun t : State => t.struck k) (withMissing_form s k false)
  cases b with
  | some b => exact (returnedAt_form _ b _).trans (congrArg (fun t : State => t.returnedAt b (.slot n)) struck)
  | none => exact struck

theorem cameBack_form (s : State) (k : Nat) (n : SlotNo) : (s.cameBack k n).tables = s.tables.cameBack k n := by
  rw [cameBack_eq, cameBack_eq, cameHome_form, outNumber_congr (tables_idem s)]

theorem handOn_tables {s : State} {k : Nat} (outside : s.dropOfKey k = none) (n : SlotNo) (duplicate : Bool) :
    (s.handOn n (some k) duplicate).tables =
      (match s.outNumber k with
        | some b => s.returnedAt b (.slot n)
        | none => s).tables.struck k := by
  unfold State.handOn State.outNumber
  dsimp only
  rw [strikeRemoval_form, reslot_of_none outside]
  cases s.outBooking k with
  | none => rfl
  | some b => exact congrArg (fun t : State => t.struck k) (returned_reported s b (.slot n) (s.misplaced n))

/-- A key that stands in no entry of the list comes back to a slot. -/
theorem handOn_cameBack {s : State} {k : Nat} (outside : s.dropOfKey k = none) (n : SlotNo) (duplicate : Bool) :
    ((s.clearMissing k).handOn n (some k) duplicate).tables = (s.cameBack k n).tables := by
  have found := clearMissing_form s k
  rw [← withMissing_form] at found
  rw [handOn_tables ((dropOfKey_none_congr found k).mpr outside), outNumber_congr found k, cameBack_form, cameBack_eq,
    outNumber_congr (tables_idem s)]
  have out : (s.withMissing k false).outNumber k = s.outNumber k := rfl
  rw [out]
  cases s.outNumber k with
  | none => rw [found, withMissing_form]; rfl
  | some b =>
    dsimp only
    rw [returnedAt_form, found, withMissing_form]
    rfl

end Sys2Proof.Machine
end

section
/-! SUPPORT. A presence change counted against sensor chatter (R50, R51): the count, and the seventh change in the window. -/

namespace Sys2Proof.Machine

theorem withSlot_withSlot (s : State) (n : SlotNo) (f g : SlotRec → SlotRec) :
    (s.withSlot n f).withSlot n g = s.withSlot n fun r => g (f r) := by
  have read : (s.slots.set n (f s.slots[n]))[n] = f s.slots[n] := Vector.getElem_set_self ..
  show s.setSlots ((s.slots.set n (f s.slots[n])).set n (g (s.slots.set n (f s.slots[n]))[n])) = _
  rw [read, Vector.set_set]
  rfl

theorem withSlot_id (s : State) (n : SlotNo) : (s.withSlot n fun r => r) = s := congrArg s.setSlots (vector_set_self s.slots n)

theorem modSlot_eq (s : State) (n : SlotNo) (f : SlotRec → SlotRec) : s.modSlot n f = s.withSlot n f := rfl

/-! ### The count -/

theorem SlotRec.counted_bare (r : SlotRec) (t : Nat) : (r.counted t).bare = r.bare.counted t := by
  unfold SlotRec.counted
  cases start : r.chatterStart with
  | none => simp only [SlotRec.bare, start]
  | some w =>
    simp only [SlotRec.bare, start]
    split <;> rfl

theorem SlotRec.changed_bare (r : SlotRec) (time : Option Nat) : (r.changed time).bare = r.bare.changed time := by
  cases time with
  | none => rfl
  | some t =>
    by_cases faulty : r.faults.sensorChatter = true
    · simp only [SlotRec.changed, faulty, SlotRec.bare_faults, if_true]
    · simp only [SlotRec.changed, faulty, SlotRec.bare_faults, Bool.false_eq_true, if_false, SlotRec.counted_bare]

/-- A slot with a change counted. -/
def State.counted (s : State) (n : SlotNo) : State := s.withSlot n fun r => r.changed s.time

theorem counted_form (s : State) (n : SlotNo) : (s.counted n).tables = s.tables.counted n :=
  withSlot_form s n (fun r => r.changed s.time) fun r => r.changed_bare s.time

theorem SlotRec.counted_faults (r : SlotRec) (t : Nat) : (r.counted t).faults = r.faults := by
  unfold SlotRec.counted
  split
  · rfl
  · split <;> rfl

theorem SlotRec.changed_faults (r : SlotRec) (time : Option Nat) : (r.changed time).faults = r.faults := by
  unfold SlotRec.changed
  split
  · split
    · rfl
    · exact r.counted_faults _
  · rfl

theorem slot_counted (s : State) (n : SlotNo) : (s.counted n).slot n = (s.slot n).changed s.time := slot_withSlot_self s n _

/-- A change is counted, and the seventh makes the fault. -/
theorem countChange_eq (s : State) (n : SlotNo) :
    s.countChange n = if (s.counted n).chattered n then (s.counted n).chatterFault n else s.counted n := by
  have read := slot_counted s n
  cases time : s.time with
  | none =>
    have same : s.counted n = s := by
      unfold State.counted
      rw [time]
      exact withSlot_id s n
    rw [same, State.countChange, time, State.chattered, time]
    rfl
  | some t =>
    have clock : (s.counted n).time = some t := time
    by_cases faulty : (s.slot n).faults.sensorChatter = true
    · have same : (s.slot n).changed s.time = s.slot n := by rw [time]; exact if_pos faulty
      have kept : s.counted n = s := by
        unfold State.counted
        have set_ : s.withSlot n (fun r => r.changed s.time) = s.withSlot n fun r => r := congrArg (s.putSlot n) same
        rw [set_, withSlot_id]
      rw [kept, State.countChange, time]
      simp [faulty, State.chattered]
    · have stepped : s.counted n = s.modSlot n fun r => r.counted t := by
        have one : (s.slot n).changed s.time = (s.slot n).counted t := by rw [time]; exact if_neg faulty
        exact congrArg (s.putSlot n) one
      have clean : ((s.counted n).slot n).faults.sensorChatter = false := by
        rw [read, SlotRec.changed_faults]
        exact Bool.eq_false_iff.mpr faulty
      have judged : (s.counted n).chattered n = decide (7 ≤ ((s.counted n).slot n).chatter) := by
        rw [State.chattered, clock, clean]
        rfl
      rw [State.countChange, time]
      simp only [if_neg faulty]
      rw [← stepped, judged]
      simp only [decide_eq_true_eq]

/-! ### The seventh change (R51) -/

/-- The entry of a slot in the Release Queue goes with its booking LOADED, if there is one. -/
def State.entryGone (s : State) (e : Option QueueEntry) : State :=
  match e with
  | some e => s.unqueued e
  | none => s

/-- SENSOR_CHATTER joins a fault set. -/
def chatterAdded (f : FaultSet) : FaultSet := { f with sensorChatter := true }

theorem chatterJudged_eq (s : State) (n : SlotNo) :
    s.chatterJudged n =
      if s.chattered n then (s.outOfService n chatterAdded).entryGone (s.release.queue.find? fun e => e.slot == n) else s := rfl

theorem unqueued_form (s : State) (e : QueueEntry) : (s.unqueued e).tables = s.tables.unqueued e := by
  have records : ((s.withBooking e.booking fun b => { b with state := .loaded }).withSlot e.slot fun r =>
      { r with queued := false }).tables = (s.tables.withBooking e.booking fun b => { b with state := .loaded }).withSlot e.slot
        fun r => { r with queued := false } := by
    rw [withSlot_form _ _ (fun r => { r with queued := false }) fun _ => rfl,
      withBooking_form _ _ (fun b => { b with state := .loaded }) fun _ => rfl]
  exact congrArg (fun t : State => { t with release := { s.release with queue := s.release.queue.erase e } }) records

theorem entryGone_form (s : State) (e : Option QueueEntry) : (s.entryGone e).tables = s.tables.entryGone e := by
  cases e with
  | some e => exact unqueued_form s e
  | none => rfl

theorem chattered_congr {s t : State} (same : s.tables = t.tables) (n : SlotNo) : s.chattered n = t.chattered n := by
  have time : s.time = t.time := show s.tables.time = t.tables.time from congrArg State.time same
  have faults : (s.slot n).faults = (t.slot n).faults :=
    show (s.slot n).bare.faults = (t.slot n).bare.faults from congrArg SlotRec.faults (slot_bare same n)
  have chatter : (s.slot n).chatter = (t.slot n).chatter :=
    show (s.slot n).bare.chatter = (t.slot n).bare.chatter from congrArg SlotRec.chatter (slot_bare same n)
  rw [State.chattered, State.chattered, time, faults, chatter]

theorem chatterJudged_form (s : State) (n : SlotNo) : (s.chatterJudged n).tables = s.tables.chatterJudged n := by
  rw [chatterJudged_eq, chatterJudged_eq, chattered_congr (tables_idem s)]
  split
  · rw [entryGone_form, outOfService_form]
    rfl
  · rfl

theorem abortEntry_tables (s : State) (e : QueueEntry) (cause : AbortCause) : (s.abortEntry e cause).tables = (s.unqueued e).tables := by
  rw [abortEntry_form, unqueued_form]
  rfl

/-- The slot's fault, its report and its alert. -/
def State.chatterOut (s : State) (n : SlotNo) : State :=
  ((s.quarantine n (some .sensorChatter)).reportFault n none .sensorChatter none).raiseAlert (.slot n) .slotFault

theorem chatterOut_tables (s : State) (n : SlotNo) : (s.chatterOut n).tables = (s.outOfService n chatterAdded).tables := by
  rw [State.chatterOut, raiseAlert_tables, State.reportFault, queueReport_tables, quarantine_form, outOfService_form]
  rfl

/-- The fault's part that comes before a retirement. -/
def State.chatterTold (s : State) (n : SlotNo) : State :=
  match s.release.queue.find? fun e => e.slot == n with
  | some e => (s.chatterOut n).abortEntry e .quarantine
  | none => s.chatterOut n

theorem chatterOut_queue (s : State) (n : SlotNo) : (s.chatterOut n).release = s.release :=
  (release_tables (chatterOut_tables s n)).trans rfl

theorem chatterFault_eq (s : State) (n : SlotNo) :
    s.chatterFault n = (s.chatterTold n).retireIfRisen (moduleOf n) (s.quarantinedOf (moduleOf n)) := by
  have entry : (s.chatterOut n).entryOf n = s.release.queue.find? fun e => e.slot == n := by
    rw [State.entryOf, chatterOut_queue]
  unfold State.chatterFault State.chatterTold
  rw [← entry]
  rfl

theorem chatterTold_tables (s : State) (n : SlotNo) :
    (s.chatterTold n).tables
      = ((s.outOfService n chatterAdded).entryGone (s.release.queue.find? fun e => e.slot == n)).tables := by
  unfold State.chatterTold
  cases s.release.queue.find? fun e => e.slot == n with
  | none => exact chatterOut_tables s n
  | some e =>
    dsimp only [State.entryGone]
    rw [abortEntry_tables, unqueued_form, chatterOut_tables, ← unqueued_form]

/-- A module whose count has not risen to 16 is not retired. -/
theorem retireIfRisen_below {s : State} {m : ModIx} (below : (s.unit (modUnit m)).quarantined < 16) (before : Nat) :
    s.retireIfRisen m before = s := by
  have notFull : s.fullNow m before = false := by
    rw [State.fullNow, Bool.and_eq_false_iff]
    exact Or.inr (decide_eq_false (not_le.mpr below))
  rw [State.retireIfRisen, notFull]
  exact if_neg Bool.false_ne_true

theorem quarantined_congr {s t : State} (same : s.tables = t.tables) (u : UnitIx) : (s.unit u).quarantined = (t.unit u).quarantined :=
  show (s.unit u).bare.quarantined = (t.unit u).bare.quarantined from congrArg UnitRec.quarantined (unit_bare same u)

theorem quarantined_outOfService (s : State) (n : SlotNo) (f : FaultSet → FaultSet) :
    ((s.outOfService n f).unit (modUnit (moduleOf n))).quarantined ≤ (s.unit (modUnit (moduleOf n))).quarantined + 1 := by
  unfold State.outOfService
  rw [unit_withUnit, if_pos rfl]
  show (if (s.slot n).service = .quarantined then (s.unit (modUnit (moduleOf n))).quarantined
    else (s.unit (modUnit (moduleOf n))).quarantined + 1) ≤ _
  split <;> omega

theorem entryGone_units (s : State) (e : Option QueueEntry) : (s.entryGone e).units = s.units := by
  cases e <;> rfl

/-- The seventh change of a slot whose module stays below sixteen. -/
theorem chatterFault_below {s : State} {n : SlotNo} (below : (s.unit (modUnit (moduleOf n))).quarantined < 15) :
    s.chatterFault n = s.chatterTold n := by
  rw [chatterFault_eq]
  refine retireIfRisen_below ?_ _
  rw [quarantined_congr (chatterTold_tables s n), State.unit, entryGone_units]
  exact lt_of_le_of_lt (quarantined_outOfService s n chatterAdded) (by omega)

/-! ### A change with its judgement -/

theorem SlotRec.counted_chatter (r : SlotRec) (t : Nat) : (r.counted t).chatter ≤ r.chatter + 1 := by
  unfold SlotRec.counted
  split
  · show 1 ≤ _
    omega
  · split
    · show 1 ≤ _
      omega
    · exact Nat.min_le_left _ _

theorem SlotRec.changed_chatter (r : SlotRec) (time : Option Nat) : (r.changed time).chatter ≤ r.chatter + 1 := by
  unfold SlotRec.changed
  split
  · split
    · omega
    · exact r.counted_chatter _
  · omega

theorem not_chattered_of_few {s : State} {n : SlotNo} (few : (s.slot n).chatter < 6) : (s.counted n).chattered n = false := by
  have count : ((s.counted n).slot n).chatter < 7 := by
    rw [slot_counted]
    exact lt_of_le_of_lt (SlotRec.changed_chatter _ _) (by omega)
  rw [State.chattered, decide_eq_false (not_le.mpr count), Bool.and_false]

/-- A change counted and judged, where the module's sixteenth slot is not in question. -/
theorem countChange_tables {s : State} {n : SlotNo}
    (room : (s.slot n).chatter < 6 ∨ (s.unit (modUnit (moduleOf n))).quarantined < 15) :
    (s.countChange n).tables = ((s.counted n).chatterJudged n).tables := by
  rw [countChange_eq, chatterJudged_eq]
  cases seventh : (s.counted n).chattered n with
  | false => rfl
  | true =>
    rcases room with few | below
    · exact absurd ((not_chattered_of_few few).symm.trans seventh) Bool.false_ne_true
    · rw [if_pos rfl, if_pos rfl, chatterFault_below (s := s.counted n) below, chatterTold_tables]

end Sys2Proof.Machine
end

section
/-! SUPPORT. The insertions of R12 and R13, and a POLL reply with one entry of a slot module (R11, R29, R51). -/

namespace Sys2Proof.Machine

/-! ### What a presence change needs of a slot -/

/-- A counted change of a slot does not make the sixteenth slot out of service of its module. -/
def State.roomToCount (s : State) (n : SlotNo) : Prop :=
  (s.slot n).chatter < 6 ∨ (s.unit (modUnit (moduleOf n))).quarantined < 15

theorem chatter_congr {s t : State} (same : s.tables = t.tables) (n : SlotNo) : (s.slot n).chatter = (t.slot n).chatter :=
  show (s.slot n).bare.chatter = (t.slot n).bare.chatter from congrArg SlotRec.chatter (slot_bare same n)

theorem roomToCount_congr {s t : State} (same : s.tables = t.tables) (n : SlotNo) : s.roomToCount n ↔ t.roomToCount n := by
  rw [State.roomToCount, State.roomToCount, chatter_congr same, quarantined_congr same]

/-- A change counted and judged in a state with known tables. -/
theorem countChange_of_tables {s t : State} {n : SlotNo} (same : s.tables = t.tables) (room : t.roomToCount n) :
    (s.countChange n).tables = ((t.counted n).chatterJudged n).tables := by
  rw [countChange_tables ((roomToCount_congr same n).mpr room), chatterJudged_form, counted_form, same, ← counted_form,
    ← chatterJudged_form]

/-! ### Filling a slot (R9, R12, R13) -/

/-- A slot's record once it has taken a key. -/
def SlotRec.taking (occ : Occupancy) (tag : Option Nat) (time : Option Nat) (r : SlotRec) : SlotRec :=
  { r with occ, tag, since := time, lastRelease := none }

/-- A slot that has taken a key. -/
def State.taking (s : State) (n : SlotNo) (occ : Occupancy) (tag : Option Nat) : State :=
  s.withSlot n (SlotRec.taking occ tag s.time)

theorem fillWith_tables (s : State) (n : SlotNo) (occ : Occupancy) (tag : Option Nat) :
    (s.fillWith n occ tag).tables = (s.taking n occ tag).tables :=
  modSlotLamp_tables s n _

theorem taking_counted (s : State) (n : SlotNo) (occ : Occupancy) (tag : Option Nat) :
    (s.taking n occ tag).counted n = s.filled n occ tag := withSlot_withSlot ..

theorem taking_roomToCount {s : State} {n : SlotNo} (room : s.roomToCount n) (occ : Occupancy) (tag : Option Nat) :
    (s.taking n occ tag).roomToCount n := by
  have read : ((s.taking n occ tag).slot n).chatter = (s.slot n).chatter := by
    rw [State.taking, slot_withSlot_self]
    rfl
  rw [State.roomToCount, read]
  exact room

theorem raiseOnSlot_tables (s : State) (n : SlotNo) (c : AlertClass) : (s.raiseOnSlot n c).tables = s.tables := by
  unfold State.raiseOnSlot
  split
  · rfl
  · exact raiseAlert_tables _ _ _

theorem reportPlaced_tables (s : State) (n : SlotNo) (tag : Option Nat) (misplaced duplicate : Bool) :
    (s.reportPlaced n tag misplaced duplicate).tables = s.tables := rfl

/-! ### The three insertions (R12) -/

theorem insertTag_fresh {s : State} {n : SlotNo} {k : Nat} (untagged : ∀ m : SlotNo, m ≠ n → (s.slot m).tag ≠ some k)
    (outside : s.dropOfKey k = none) :
    (s.insertTag n k).tables = ((s.taking n .held (some k)).cameBack k n).tables := by
  have live : s.heldLive k (some n) = false :=
    heldLive_of_untagged fun m other => untagged m fun same => other (congrArg some same.symm)
  have filled : (if (s.entry? k).isNone then (s.fillWith n .held (some k)).raiseOnSlot n .foreignKey
      else s.fillWith n .held (some k)).tables = (s.taking n .held (some k)).tables := by
    split
    · rw [raiseOnSlot_tables, fillWith_tables]
    · exact fillWith_tables s n _ _
  unfold State.insertTag
  rw [live, lastSeenElsewhere_of_untagged untagged]
  simp only [Bool.false_eq_true, if_false]
  rw [handOn_cameBack ((dropOfKey_none_congr filled k).mpr outside), cameBack_form, filled, ← cameBack_form]

theorem insertTag_duplicate {s : State} {n : SlotNo} {k : Nat} (live : s.heldLive k (some n) = true) :
    (s.insertTag n k).tables = ((s.taking n .heldNoTag none).withMissing k false).tables := by
  unfold State.insertTag
  rw [if_pos live]
  show ((((s.fillWith n .heldNoTag none).raiseOnSlot n .duplicateTag).clearMissing k).reportPlaced n none _ true).tables = _
  rw [reportPlaced_tables, clearMissing_form, raiseOnSlot_tables, fillWith_tables, withMissing_form]

theorem insertion_counts {s t : State} {n : SlotNo} {k : Nat} (channel : (s.slot n).channel = none)
    (placed : (s.insertTag n k).tables = t.tables) (room : t.roomToCount n) :
    (s.insertion n (some k)).tables = ((t.counted n).chatterJudged n).tables := by
  unfold State.insertion
  rw [channel]
  exact countChange_of_tables placed room

theorem counted_cameBack (s : State) (n m : SlotNo) (k : Nat) : (s.cameBack k m).counted n = (s.counted n).cameBack k m := by
  have out : (s.counted n).outNumber k = s.outNumber k := rfl
  rw [cameBack_eq, cameBack_eq, out]
  cases s.outNumber k <;> rfl

theorem slot_cameBack (s : State) (n m : SlotNo) (k : Nat) : (s.cameBack k m).slot n = s.slot n := by
  rw [cameBack_eq]
  cases s.outNumber k <;> rfl

theorem unit_cameBack (s : State) (u : UnitIx) (m : SlotNo) (k : Nat) : (s.cameBack k m).unit u = s.unit u := by
  rw [cameBack_eq]
  cases s.outNumber k <;> rfl

/-- The insertion of a read tag that no other record has. -/
theorem insertion_fresh {s : State} {n : SlotNo} {k : Nat} (channel : (s.slot n).channel = none)
    (untagged : ∀ m : SlotNo, m ≠ n → (s.slot m).tag ≠ some k) (outside : s.dropOfKey k = none) (room : s.roomToCount n) :
    (s.insertion n (some k)).tables = (((s.filled n .held (some k)).cameBack k n).chatterJudged n).tables := by
  have roomAfter : ((s.taking n .held (some k)).cameBack k n).roomToCount n := by
    rw [State.roomToCount, slot_cameBack, unit_cameBack]
    exact taking_roomToCount room _ _
  rw [insertion_counts channel (insertTag_fresh untagged outside) roomAfter, counted_cameBack, taking_counted]

/-- The insertion of a read tag that another slot holds live (R12, case 1). -/
theorem insertion_duplicate {s : State} {n : SlotNo} {k : Nat} (channel : (s.slot n).channel = none)
    (live : s.heldLive k (some n) = true) (room : s.roomToCount n) :
    (s.insertion n (some k)).tables = (((s.filled n .heldNoTag none).withMissing k false).chatterJudged n).tables := by
  have judged : ((s.taking n .heldNoTag none).withMissing k false).counted n = (s.filled n .heldNoTag none).withMissing k false :=
    congrArg (fun t : State => t.withMissing k false) (taking_counted s n .heldNoTag none)
  rw [insertion_counts (t := (s.taking n .heldNoTag none).withMissing k false) channel (insertTag_duplicate live)
    (taking_roomToCount room _ _), judged]

/-- The insertion of an unread key (R13). -/
theorem insertion_unread {s : State} {n : SlotNo} (channel : (s.slot n).channel = none) (room : s.roomToCount n) :
    (s.insertion n none).tables = ((s.filled n .heldNoTag none).chatterJudged n).tables := by
  have placed : ((s.fillWith n .heldNoTag none).handOn n none false).tables = (s.taking n .heldNoTag none).tables :=
    (reportPlaced_tables _ _ _ _ _).trans (fillWith_tables s n _ _)
  unfold State.insertion
  rw [channel]
  exact (countChange_of_tables placed (taking_roomToCount room _ _)).trans (by rw [taking_counted])

/-! ### A POLL reply with one entry (R11, R29) -/

/-- A unit's record under resync where the overflow flag says so. -/
def UnitRec.overflow (flag : Bool) (r : UnitRec) : UnitRec := { r with resync := r.resync || flag }

theorem overflowed_eq {s : State} {u : UnitIx} (online : (s.unit u).state = .online) (flag : Bool) :
    s.overflowed u flag = s.withUnit u (UnitRec.overflow flag) := by
  have is : s.online u = true := beq_iff_eq.mpr online
  unfold State.overflowed
  cases flag with
  | true =>
    have set_ : UnitRec.overflow true = fun r => { r with resync := true } := funext fun r => by rw [UnitRec.overflow, Bool.or_true]
    rw [is, set_]
    rfl
  | false =>
    have kept : UnitRec.overflow false = fun r => r := funext fun r => by rw [UnitRec.overflow, Bool.or_false]
    rw [kept, withUnit_id]
    rfl

theorem withUnit_comm (s : State) (u v : UnitIx) {f g : UnitRec → UnitRec} (comm : ∀ r, f (g r) = g (f r)) :
    (s.withUnit u f).withUnit v g = (s.withUnit v g).withUnit u f := by
  by_cases same : u = v
  · subst same
    rw [withUnit_withUnit, withUnit_withUnit]
    exact congrArg (s.withUnit u) (funext fun r => (comm r).symm)
  · have apart : u.val ≠ v.val := fun eq => same (Fin.ext eq)
    have left : (s.units.set u (f s.units[u]))[v] = s.units[v] := Vector.getElem_set_ne _ _ apart
    have right : (s.units.set v (g s.units[v]))[u] = s.units[u] := Vector.getElem_set_ne _ _ apart.symm
    show s.setUnits ((s.units.set u (f s.units[u])).set v (g (s.units.set u (f s.units[u]))[v]))
      = s.setUnits ((s.units.set v (g s.units[v])).set u (f (s.units.set v (g s.units[v]))[u]))
    rw [left, right]
    exact congrArg s.setUnits (Vector.set_comm _ _ apart)

theorem chatterJudged_overflow (s : State) (u : UnitIx) (n : SlotNo) (flag : Bool) :
    (s.withUnit u (UnitRec.overflow flag)).chatterJudged n = (s.chatterJudged n).withUnit u (UnitRec.overflow flag) := by
  have out : (s.withUnit u (UnitRec.overflow flag)).outOfService n chatterAdded
      = (s.outOfService n chatterAdded).withUnit u (UnitRec.overflow flag) :=
    withUnit_comm (s.withSlot n fun r => { r with service := .quarantined, faults := chatterAdded r.faults }) u
      (modUnit (moduleOf n)) (f := UnitRec.overflow flag)
      (g := fun x => { x with quarantined := if (s.slot n).service = .quarantined then x.quarantined else x.quarantined + 1 })
      fun _ => rfl
  have judged : (s.withUnit u (UnitRec.overflow flag)).chattered n = s.chattered n := rfl
  rw [chatterJudged_eq, chatterJudged_eq, judged, out]
  split
  · show (State.withUnit _ _ _).entryGone (s.release.queue.find? fun e => e.slot == n) = _
    cases s.release.queue.find? fun e => e.slot == n <;> rfl
  · rfl

theorem chatterJudged_release (s : State) (n : SlotNo) :
    (s.chatterJudged n).release.channels = s.release.channels ∧ (s.chatterJudged n).release.budget = s.release.budget
      ∧ (s.release.queue = [] → (s.chatterJudged n).release.queue = []) := by
  rw [chatterJudged_eq]
  split
  · cases found : s.release.queue.find? fun e => e.slot == n with
    | none => exact ⟨rfl, rfl, fun empty => empty⟩
    | some e => exact ⟨rfl, rfl, fun empty => by rw [empty] at found; cases found⟩
  · exact ⟨rfl, rfl, fun empty => empty⟩

/-- Nothing is granted where the queue has not grown and no channel has become FREE. -/
theorem granted_of_release {s t : State} (channels : t.release.channels = s.release.channels)
    (budget : t.release.budget = s.release.budget) (queue : s.release.queue = [] → t.release.queue = []) (granted : s.granted) :
    t.granted :=
  granted.imp queue fun enough => by rw [budget, usedChannels_congr channels]; exact enough

theorem moduleOf_slotAt (m : ModIx) (p : Fin 16) : moduleOf (slotAt m p) = m := by
  apply Fin.ext
  show (16 * m.val + p.val) / 16 = m.val
  omega

theorem unitMod_modUnit (m : ModIx) : unitMod (modUnit m) = some m := by revert m; decide

theorem readPollReply_module {f : Flight} {m : ModIx} {payload : List Byte} {p : Poll ModuleEntry} (unit : f.unit = modUnit m)
    (cmd : f.cmd = .poll) (read : readPoll readModuleEntry payload = some p) :
    readPollReply payload f = some fun s => s.deliverPollModule m p := by
  have module_ : unitMod f.unit = some m := unit ▸ unitMod_modUnit m
  simp only [readPollReply, cmd, module_, read]
  rfl

/-- What a POLL reply leaves on its unit's record: no misses, and resync where its overflow flag is set. -/
def UnitRec.polled (flag : Bool) (r : UnitRec) : UnitRec := { r with misses := 0, resync := r.resync || flag }

/-- A POLL reply with one entry: the entry, the overflow flag, and the arbiter without a turn. -/
theorem pollReply_next {s x : State} {addr : Byte} {m : ModIx} {payload : List Byte} {overflow : Bool} {e : ModuleEntry}
    (awaits : s.awaits (modUnit m) .poll addr)
    (read : readPoll readModuleEntry payload = some { overflow, entries := [e] })
    (entry : (s.landed (modUnit m)).moduleEntry m e = x) (online : (x.unit (modUnit m)).state = .online) (granted : x.granted) :
    exec (.pollReply addr payload) s = .next (x.withUnit (modUnit m) (UnitRec.overflow overflow)).chooseCommand := by
  refine gives_reply (deliver := fun s => s.deliverPollModule m { overflow, entries := [e] }) awaits rfl
    (fun f unit cmd => readPollReply_module unit cmd read) ?_
  show ((((s.landed (modUnit m)).moduleEntry m e).overflowed (modUnit m) overflow).arbiter) = _
  rw [entry, overflowed_eq online]
  exact arbiter_granted granted

theorem replied_overflow (s : State) (u : UnitIx) (flag : Bool) :
    (s.replied u).withUnit u (UnitRec.overflow flag) = s.withUnit u (UnitRec.polled flag) := withUnit_withUnit ..

theorem replied_slot (s : State) (u : UnitIx) (n : SlotNo) : (s.replied u).slot n = s.slot n := rfl

theorem replied_unit (s : State) (u : UnitIx) : (s.replied u).unit u = { s.unit u with misses := 0 } :=
  (unit_withUnit s u u fun r => { r with misses := 0 }).trans (if_pos rfl)

theorem awaits_online {s : State} {u : UnitIx} {c : BusCmd} {addr : Byte} (awaits : s.awaits u c addr) (noProbe : c ≠ .probe) :
    (s.unit u).state = .online := awaits.2.2.2.trans (if_neg noProbe)

theorem awaits_slotOnline {s : State} {m : ModIx} {c : BusCmd} {addr : Byte} (awaits : s.awaits (modUnit m) c addr)
    (noProbe : c ≠ .probe) (p : Fin 16) : (s.replied (modUnit m)).slotOnline (slotAt m p) = true := by
  rw [slotOnline_iff, moduleOf_slotAt, replied_unit]
  exact awaits_online awaits noProbe

/-- A change of the tables by an entry of unit `u`: it leaves the unit's state, and it does not look at resync. -/
structure EntryChange (u : UnitIx) (event : State → State) : Prop where
  form : ∀ t : State, (event t).tables = event t.tables
  state : ∀ t : State, ((event t).unit u).state = (t.unit u).state
  resync : ∀ (t : State) (flag : Bool), (event t).withUnit u (UnitRec.overflow flag) = event (t.withUnit u (UnitRec.overflow flag))

/-- Such a change that leaves the arbiter nothing to grant. -/
structure QuietChange (u : UnitIx) (event : State → State) : Prop extends EntryChange u event where
  granted : ∀ t : State, t.granted → (event t).granted

theorem EntryChange.comp {u : UnitIx} {f g : State → State} (outer : EntryChange u f) (inner : EntryChange u g) :
    EntryChange u fun t => f (g t) where
  form t := by rw [outer.form, inner.form]
  state t := by rw [outer.state, inner.state]
  resync t flag := by rw [outer.resync, inner.resync]

theorem QuietChange.comp {u : UnitIx} {f g : State → State} (outer : QuietChange u f) (inner : QuietChange u g) :
    QuietChange u fun t => f (g t) where
  toEntryChange := outer.toEntryChange.comp inner.toEntryChange
  granted t h := outer.granted _ (inner.granted t h)

theorem landed_overflow (s : State) (u : UnitIx) (flag : Bool) :
    ((s.landed u).tables.withUnit u (UnitRec.overflow flag)) = (s.withUnit u (UnitRec.polled flag)).tables := by
  rw [landed_tables, ← withUnit_form _ _ (UnitRec.overflow flag) fun _ => rfl, replied_overflow]

/-- A POLL reply whose one entry is the change `event` of the tables. -/
theorem pollReply_makes {s x : State} {addr : Byte} {m : ModIx} {payload : List Byte} {overflow : Bool} {e : ModuleEntry}
    {event : State → State} (change : EntryChange (modUnit m) event) (awaits : s.awaits (modUnit m) .poll addr)
    (read : readPoll readModuleEntry payload = some { overflow, entries := [e] })
    (entry : (s.landed (modUnit m)).moduleEntry m e = x) (comes : x.tables = (event (s.landed (modUnit m))).tables)
    (granted : (event (s.landed (modUnit m))).granted) :
    exec (.pollReply addr payload) s = .next (x.withUnit (modUnit m) (UnitRec.overflow overflow)).chooseCommand
      ∧ (x.withUnit (modUnit m) (UnitRec.overflow overflow)).chooseCommand.tables
        = (event (s.withUnit (modUnit m) (UnitRec.polled overflow))).tables := by
  have landed : ((s.landed (modUnit m)).unit (modUnit m)).state = .online :=
    (congrArg UnitRec.state (replied_unit s (modUnit m))).trans (awaits_online awaits nofun)
  have online : (x.unit (modUnit m)).state = .online := by rw [unit_state_congr comes, change.state, landed]
  have idle : x.granted := granted_congr (release_tables comes) granted
  refine ⟨pollReply_next awaits read entry online idle, ?_⟩
  rw [chooseCommand_tables, withUnit_form _ _ (UnitRec.overflow overflow) fun _ => rfl, comes, change.form, change.resync,
    landed_overflow, ← change.form]

/-! ### The obligation -/

theorem moduleEntry_inserted {s : State} {m : ModIx} {p : Fin 16} {latch : Bool} {k : Nat} (online : s.slotOnline (slotAt m p) = true)
    (empty : (s.slot (slotAt m p)).occ = .empty) :
    s.moduleEntry m { pos := p, change := .inserted k, latchOpen := latch } = s.insertion (slotAt m p) (some k) := by
  simp only [State.moduleEntry, online, if_true, empty]

theorem cameBack_overflow (s : State) (u : UnitIx) (k : Nat) (n : SlotNo) (flag : Bool) :
    (s.withUnit u (UnitRec.overflow flag)).cameBack k n = (s.cameBack k n).withUnit u (UnitRec.overflow flag) := by
  have out : (s.withUnit u (UnitRec.overflow flag)).outNumber k = s.outNumber k := rfl
  rw [cameBack_eq, cameBack_eq, out]
  cases s.outNumber k <;> rfl

theorem outOfService_state (s : State) (n : SlotNo) (f : FaultSet → FaultSet) (u : UnitIx) :
    ((s.outOfService n f).unit u).state = (s.unit u).state := by
  unfold State.outOfService
  rw [unit_withUnit]
  split
  · rename_i same
    subst same
    rfl
  · rfl

theorem chatterJudged_state (s : State) (n : SlotNo) (u : UnitIx) : ((s.chatterJudged n).unit u).state = (s.unit u).state := by
  rw [chatterJudged_eq]
  split
  · rw [State.unit, entryGone_units]
    exact outOfService_state s n _ u
  · rfl

theorem chatterJudged_granted {s : State} {n : SlotNo} (granted : s.granted) : (s.chatterJudged n).granted := by
  obtain ⟨channels, budget, queue⟩ := chatterJudged_release s n
  exact granted_of_release channels budget queue granted

theorem cameBack_release (s : State) (k : Nat) (n : SlotNo) : (s.cameBack k n).release = s.release := by
  rw [cameBack_eq]
  cases s.outNumber k <;> rfl

/-- A key inserted that stands nowhere else, as a change of the tables. -/
def State.keyPlaced (k : Nat) (n : SlotNo) (s : State) : State := ((s.filled n .held (some k)).cameBack k n).chatterJudged n

theorem filled_form (s : State) (n : SlotNo) (occ : Occupancy) (tag : Option Nat) :
    (s.filled n occ tag).tables = s.tables.filled n occ tag :=
  withSlot_form s n (fun r => (r.taking occ tag s.time).changed s.time) fun _ =>
    (SlotRec.changed_bare _ _).trans rfl

theorem chatterJudged_change (u : UnitIx) (n : SlotNo) : QuietChange u fun t => t.chatterJudged n where
  form t := chatterJudged_form t n
  state t := chatterJudged_state t n u
  granted _ h := chatterJudged_granted h
  resync t flag := (chatterJudged_overflow t u n flag).symm

theorem cameBack_change (u : UnitIx) (k : Nat) (n : SlotNo) : QuietChange u fun t => t.cameBack k n where
  form t := cameBack_form t k n
  state t := congrArg UnitRec.state (unit_cameBack t u n k)
  granted t h := granted_congr (cameBack_release t k n) h
  resync t flag := (cameBack_overflow t u k n flag).symm

theorem filled_change (u : UnitIx) (n : SlotNo) (occ : Occupancy) (tag : Option Nat) : QuietChange u fun t => t.filled n occ tag where
  form t := filled_form t n occ tag
  state _ := rfl
  granted _ h := h
  resync _ _ := rfl

theorem keyPlaced_change (u : UnitIx) (k : Nat) (n : SlotNo) : QuietChange u (State.keyPlaced k n) :=
  ((chatterJudged_change u n).comp (cameBack_change u k n)).comp (filled_change u n .held (some k))

/-- Settles O47: the key is inserted, its booking ends there, and the change is counted and judged. -/
theorem anInsertionReturnsTheKey : Obligations.AnInsertionReturnsTheKey := by
  intro s addr m payload p k latch overflow b awaits read n empty channel room nowhere out granted
  obtain ⟨untagged, outside⟩ := nowhere
  have here : moduleOf n = m := moduleOf_slotAt m p
  have counted : (s.landed (modUnit m)).roomToCount n := by
    rw [State.roomToCount, here]
    exact room.imp_right fun below => (congrArg UnitRec.quarantined (replied_unit s (modUnit m))).trans_lt below
  have entry := moduleEntry_inserted (k := k) (latch := latch) (s := s.landed (modUnit m)) (m := m) (p := p)
    (awaits_slotOnline awaits nofun p) empty
  have placed := insertion_fresh (s := s.landed (modUnit m)) (n := n) (k := k) channel (fun _ _ => untagged _)
    (dropOfKey_eq_none.mpr outside) counted
  have change := keyPlaced_change (modUnit m) k n
  obtain ⟨next, tables⟩ := pollReply_makes change.toEntryChange awaits read entry placed (change.granted (s.landed (modUnit m)) granted)
  refine ⟨_, next, tables.trans ?_⟩
  have number : ((s.withUnit (modUnit m) (UnitRec.polled overflow)).filled n .held (some k)).outNumber k = some b.number := by
    show (s.outBooking k).map (·.number) = some b.number
    rw [out]
    rfl
  rw [State.keyPlaced, cameBack_eq, number]
  rfl

end Sys2Proof.Machine
end

section
/-! SUPPORT. Reports that wait behind a busy transmitter (R151, R152): nothing pushes one out while there is room, whatever an event
queues behind it. -/

namespace Sys2Proof.Machine

/-- The transmitter is SENDING, each of the reports `bs` waits, and at most `n` wait in all. -/
def State.queued (bs : List ReportBody) (n : Nat) (s : State) : Prop :=
  s.linkBusy ∧ (∀ b ∈ bs, b ∈ s.link.reports.map (·.body)) ∧ s.link.reports.length ≤ n

theorem queued_start {s : State} (busy : s.linkBusy) {n : Nat} (few : s.link.reports.length ≤ n) : s.queued [] n :=
  ⟨busy, fun _ at_ => absurd at_ List.not_mem_nil, few⟩

theorem queued_congr {bs : List ReportBody} {n : Nat} {s t : State} (link : t.link = s.link) (h : s.queued bs n) : t.queued bs n := by
  rw [State.queued, State.linkBusy, link]
  exact h

theorem queued_mono {bs : List ReportBody} {n m : Nat} {s : State} (h : s.queued bs n) (le : n ≤ m) : s.queued bs m :=
  ⟨h.1, h.2.1, h.2.2.trans le⟩

theorem queued_report {bs : List ReportBody} {n : Nat} {s : State} (h : s.queued bs n) (room : n < 32) (b : ReportBody) :
    (s.queueReport b).queued (b :: bs) (n + 1) := by
  obtain ⟨busy, wait, few⟩ := h
  have link := queueReport_link_busy busy (by omega) b
  rw [State.queued, State.linkBusy, link]
  refine ⟨busy, fun x at_ => ?_, by simpa using few⟩
  simp only [List.map_append, List.map_cons, List.map_nil, List.mem_append, List.mem_singleton]
  exact (List.mem_cons.mp at_).symm.imp_left (wait x)

theorem queued_weaken {bs cs : List ReportBody} {n : Nat} {s : State} (h : s.queued bs n) (fewer : cs ⊆ bs) : s.queued cs n :=
  ⟨h.1, fun b at_ => h.2.1 b (fewer at_), h.2.2⟩

/-- Alert operations push no report out while there is room for theirs. -/
theorem alert_queued (bs : List ReportBody) (n : Nat) : AlertCounts fun k u => n + k ≤ 32 → u.queued bs (n + k) where
  fields u x f h room := queued_congr (setAlert_kept u x f).1 (h room)
  list _ _ h room := h room
  report _ b h room := queued_weaken (queued_report (h (by omega)) (by omega) b) (List.subset_cons_self _ _)
  more _ h room := queued_mono (h (by omega)) (by omega)

theorem queued_raise {bs : List ReportBody} {n : Nat} {s : State} (h : s.queued bs n) (room : n + 2 ≤ 32) (x : Subject)
    (c : AlertClass) : (s.raiseAlert x c).queued bs (n + 2) := by
  have rule := (alert_queued bs n).raise (k := 0) (s := s) x c fun _ => h
  rw [Nat.zero_add] at rule
  exact rule room

theorem queued_withdraw {bs : List ReportBody} {n : Nat} {s : State} (h : s.queued bs n) (room : n + 2 ≤ 32) (x : Subject)
    (cs : List AlertClass) : (s.withdrawAlert x cs).queued bs (n + 2) := by
  have rule := (alert_queued bs n).withdraw (k := 0) (s := s) x cs fun _ => h
  rw [Nat.zero_add] at rule
  exact rule room

theorem queued_notice {bs : List ReportBody} {n : Nat} {s : State} (h : s.queued bs n) (source : Option Source) (booking : Nat)
    (event : NoticeEvent) : (s.noticeFor source booking event).queued bs n := by
  obtain ⟨k, e⟩ := noticeFor_eq s source booking event
  exact queued_congr (by rw [e]; rfl) h

theorem queued_told {bs : List ReportBody} {n : Nat} {s : State} (h : s.queued bs n) (room : n < 32) (b : ReportBody)
    (source : Option Source) (booking : Nat) (event : NoticeEvent) : (s.told b source booking event).queued (b :: bs) (n + 1) :=
  queued_notice (queued_report h room b) source booking event

/-- A report that waits at the end of the event waits when the bus has taken its next command. -/
theorem queued_chosen {bs : List ReportBody} {n : Nat} {s : State} (h : s.queued bs n) {b : ReportBody} (at_ : b ∈ bs) :
    b ∈ s.chooseCommand.link.reports.map (·.body) := by
  rw [(chooseCommand_link s).1]
  exact h.2.1 b at_

theorem linkBusy_sends {s : State} (busy : s.linkBusy) : s.link.tx ≠ .idle := by
  obtain ⟨f, sending⟩ := busy
  rw [sending]
  exact LinkTx.noConfusion

/-! ### Operations that leave the Branch Link as it is -/

theorem relamp_link (s : State) (n : SlotNo) : (s.relamp n).link = s.link := by
  unfold State.relamp
  split
  · rfl
  · unfold State.wantLamps
    split <;> rfl

theorem modSlotLamp_link (s : State) (n : SlotNo) (f : SlotRec → SlotRec) : (s.modSlotLamp n f).link = s.link :=
  relamp_link (s.modSlot n f) n

theorem quarantine_link (s : State) (n : SlotNo) (k : Option FaultKind) : (s.quarantine n k).link = s.link := by
  unfold State.quarantine
  dsimp only
  split
  · exact modSlotLamp_link _ _ _
  · exact modSlotLamp_link _ _ _

theorem freeChannel_link (s : State) (c : ChanNo) : (s.freeChannel c).link = s.link := by
  unfold State.freeChannel
  split
  · rfl
  · dsimp only
    split
    · exact quarantine_link _ _ _
    · exact modSlotLamp_link _ _ _

theorem setPhase_link (s : State) (c : ChanNo) (x : Channel) : (s.setPhase c x).link = s.link := by
  unfold State.setPhase
  split
  · exact relamp_link _ _
  · rfl

theorem foldl_modSlotLamp_link (l : List SlotNo) (f : SlotRec → SlotRec) (s : State) :
    (l.foldl (fun s n => s.modSlotLamp n f) s).link = s.link := by
  induction l generalizing s with
  | nil => rfl
  | cons n l ih => exact (ih _).trans (modSlotLamp_link _ _ _)

end Sys2Proof.Machine
end

section
/-! SUPPORT. A removal from a slot without a channel (R15 to R17, R90, R173): the slot emptied, the removal classified, the change
counted. -/

namespace Sys2Proof.Machine

/-! ### The slot emptied (R15) -/

/-- A slot's record once its key has gone. -/
def SlotRec.vacant (time : Option Nat) (r : SlotRec) : SlotRec := { r with occ := .empty, tag := none, since := time }

theorem emptiedUncounted_eq (s : State) (n : SlotNo) : s.emptiedUncounted n = s.withSlot n (SlotRec.vacant s.time) := rfl

theorem emptiedUncounted_form (s : State) (n : SlotNo) : (s.emptiedUncounted n).tables = s.tables.emptiedUncounted n :=
  withSlot_form s n (SlotRec.vacant s.time) fun _ => rfl

theorem emptySlot_tables (s : State) (n : SlotNo) : (s.emptySlot n).tables = (s.emptiedUncounted n).tables :=
  (withdrawAlert_tables _ _ _).trans (modSlotLamp_tables s n _)

theorem emptiedUncounted_counted (s : State) (n : SlotNo) : (s.emptiedUncounted n).counted n = s.emptied n := withSlot_withSlot ..

theorem emptied_form (s : State) (n : SlotNo) : (s.emptied n).tables = s.tables.emptied n := by
  rw [← emptiedUncounted_counted, counted_form, emptiedUncounted_form]
  exact emptiedUncounted_counted s.tables n

theorem emptiedUncounted_roomToCount {s : State} {n : SlotNo} (room : s.roomToCount n) : (s.emptiedUncounted n).roomToCount n := by
  have read : ((s.emptiedUncounted n).slot n).chatter = (s.slot n).chatter := by
    rw [emptiedUncounted_eq, slot_withSlot_self]
    rfl
  rw [State.roomToCount, read]
  exact room

/-! ### The classification (R16, R17) -/

/-- The state in which a removal is noted in the session. -/
def State.noted (s : State) (n : SlotNo) (tag : Option Nat) : State :=
  { s with session := { s.session with removals := s.session.removals ++ [{ tag, slot := n, time := s.time }] } }

/-- The state in which a removal has been forced. -/
def State.gone (s : State) (tag : Option Nat) : State :=
  match tag with
  | some k => s.withMissing k true
  | none => s

theorem removedFrom_eq (s : State) (n : SlotNo) (tag : Option Nat) :
    s.removedFrom n tag =
      if s.session.remaining.isSome ∧ s.session.removals.length < 32 then s.noted n tag else s.gone tag := rfl

theorem gone_form (s : State) (tag : Option Nat) : (s.gone tag).tables = s.tables.gone tag := by
  cases tag with
  | some k => exact withMissing_form s k true
  | none => rfl

theorem removedFrom_form (s : State) (n : SlotNo) (tag : Option Nat) : (s.removedFrom n tag).tables = s.tables.removedFrom n tag := by
  rw [removedFrom_eq, removedFrom_eq]
  by_cases noted : s.session.remaining.isSome ∧ s.session.removals.length < 32
  · rw [if_pos noted, if_pos (show s.tables.session.remaining.isSome ∧ s.tables.session.removals.length < 32 from noted)]
    rfl
  · rw [if_neg noted, if_neg (show ¬ (s.tables.session.remaining.isSome ∧ s.tables.session.removals.length < 32) from noted)]
    exact gone_form s tag

theorem forced_tables (s : State) (n : SlotNo) (tag : Option Nat) : (s.forced n tag).tables = (s.gone tag).tables := by
  cases tag with
  | none => rfl
  | some k => exact (setMissing_form s k).trans (withMissing_form s k true).symm

/-- A removal that is no late take, as the model classifies it. -/
def State.unexplained (s : State) (n : SlotNo) (tag : Option Nat) : State :=
  if s.session.remaining.isSome ∧ s.session.removals.length < 32 then s.noted n tag else s.forced n tag

theorem unexplained_tables (s : State) (n : SlotNo) (tag : Option Nat) :
    (s.unexplained n tag).tables = (s.removedFrom n tag).tables := by
  rw [State.unexplained, removedFrom_eq]
  split
  · rfl
  · exact forced_tables s n tag

/-- The late booking that a removal with a latch state comes to (R16, case 1). -/
def State.lateFor (s : State) (n : SlotNo) (tag : Option Nat) (latch : Option Bool) : Option Nat :=
  if latch = some false then none else s.lateBooking n tag

theorem classify_unexplained {s : State} {n : SlotNo} {tag : Option Nat} {latch : Option Bool} (late : s.lateFor n tag latch = none) :
    s.classify n tag latch = s.unexplained n tag := by
  have late' : (if latch = some false then none else s.lateBooking n tag) = none := late
  simp only [State.classify, late', State.unexplained, State.inSession, State.noteRemoval, Config.removalCap]
  by_cases session : s.session.remaining.isSome = true
  · by_cases room : s.session.removals.length < 32
    · simp only [session, room, if_true, and_self]
      rfl
    · simp only [session, room, if_true, if_false, and_false]
  · simp only [session, Bool.false_eq_true, if_false, false_and]

theorem classify_late {s : State} {n : SlotNo} {k b : Nat} {latch : Option Bool} (late : s.lateFor n (some k) latch = some b) :
    s.classify n (some k) latch = s.lateTake n b k latch.isNone := by
  have late' : (if latch = some false then none else s.lateBooking n (some k)) = some b := late
  simp only [State.classify, late']

theorem lateBooking_iff {s : State} {n : SlotNo} {tag : Option Nat} {b : Nat} :
    s.lateBooking n tag = some b ↔
      ∃ x : Booking, (s.slot n).lastRelease = some b ∧ s.booking? b = some x ∧ x.state = .loaded ∧ tag = some x.key := by
  unfold State.lateBooking
  cases tag with
  | none => simp
  | some t =>
    cases release : (s.slot n).lastRelease with
    | none => simp
    | some c =>
      cases found : s.booking? c with
      | none =>
        simp only [found, reduceCtorEq, false_iff, Option.some.injEq, not_exists]
        rintro x ⟨rfl, held, -⟩
        rw [found] at held
        cases held
      | some x =>
        simp only [found]
        constructor
        · intro h
          split at h
          · rename_i both
            cases h
            exact ⟨x, rfl, found, both.1, congrArg some both.2.symm⟩
          · cases h
        · rintro ⟨y, same, held, loaded, key⟩
          cases same
          rw [found] at held
          cases held
          rw [if_pos ⟨loaded, (Option.some.inj key).symm⟩]

/-- What a late booking is read from is in the tables. -/
theorem lateBooking_congr {s t : State} (same : s.tables = t.tables) (n : SlotNo) (tag : Option Nat) :
    s.lateBooking n tag = t.lateBooking n tag := by
  have one {s t : State} (same : s.tables = t.tables) {b : Nat} (late : s.lateBooking n tag = some b) :
      t.lateBooking n tag = some b := by
    obtain ⟨x, release, found, loaded, key⟩ := lateBooking_iff.mp late
    obtain ⟨y, there, bare⟩ := booking?_some_congr same.symm found
    have read : (t.slot n).lastRelease = (s.slot n).lastRelease :=
      show (t.slot n).bare.lastRelease = (s.slot n).bare.lastRelease from congrArg SlotRec.lastRelease (slot_bare same.symm n)
    have state : y.state = x.state := show y.bare.state = x.bare.state from congrArg Booking.state bare
    have keys : y.key = x.key := show y.bare.key = x.bare.key from congrArg Booking.key bare
    exact lateBooking_iff.mpr ⟨y, read.trans release, there, state.trans loaded, by rw [keys]; exact key⟩
  exact Option.ext fun b => ⟨one same, one same.symm⟩

theorem lateFor_emptied (s : State) (n : SlotNo) (tag : Option Nat) (latch : Option Bool) :
    (s.emptySlot n).lateFor n tag latch = s.lateFor n tag latch := by
  have read : ((s.emptiedUncounted n).slot n).lastRelease = (s.slot n).lastRelease := by
    rw [emptiedUncounted_eq, slot_withSlot_self]
    rfl
  have same : (s.emptiedUncounted n).lateBooking n tag = s.lateBooking n tag := by
    unfold State.lateBooking
    rw [read]
    rfl
  rw [State.lateFor, State.lateFor, lateBooking_congr (emptySlot_tables s n), same]

/-! ### A late take (R71, R90, R121) -/

theorem withBooking_withBooking (s : State) (n : Nat) (f g : Booking → Booking) (number : ∀ b, (f b).number = b.number) :
    (s.withBooking n f).withBooking n g = s.withBooking n fun b => g (f b) := by
  have maps : (s.bookings.map fun b => if b.number = n then f b else b).map (fun b => if b.number = n then g b else b)
      = s.bookings.map fun b => if b.number = n then g (f b) else b := by
    rw [List.map_map]
    refine List.map_congr_left fun b _ => ?_
    by_cases same : b.number = n
    · simp only [Function.comp_apply, if_pos same, if_pos ((number b).trans same)]
    · simp only [Function.comp_apply, if_neg same]
  exact congrArg s.setBookings maps

/-- A booking that goes OUT and to the stage of its due time, with its place in the Due List (R71, R121). -/
def State.outAt (s : State) (b : Booking) (now : Nat) : State :=
  { s.withBooking b.number fun y => { y with state := .out, taken := some now, stage := some (b.stageAt now) } with
    dueList := dueAfter b.number (b.nextDeadline (b.stageAt now)) s.dueList }

theorem takenLate_eq (s : State) (b : Booking) (now : Nat) : s.takenLate b now = (s.outAt b now).lastReleaseCleared b.number := by
  unfold State.takenLate State.outAt dueAfter
  cases b.nextDeadline (b.stageAt now) <;> rfl

theorem outAt_form (s : State) (b : Booking) (now : Nat) : (s.outAt b now).tables = s.tables.outAt b now :=
  congrArg (fun t : State => { t with dueList := dueAfter b.number (b.nextDeadline (b.stageAt now)) s.dueList })
    (withBooking_form s b.number (fun y => { y with state := .out, taken := some now, stage := some (b.stageAt now) }) fun _ => rfl)

theorem takenLate_form (s : State) (b : Booking) (now : Nat) : (s.takenLate b now).tables = s.tables.takenLate b now := by
  rw [takenLate_eq, takenLate_eq, lastReleaseCleared_form, outAt_form]

/-- A booking's record OUT at a cabinet time, before its stage is set. -/
def Booking.outSince (time : Option Nat) (b : Booking) : Booking := { b with state := .out, taken := time }

/-- The deadlines of a booking rest on its due time, its grace and its escalation only. -/
theorem stageAt_congr {a b : Booking} (due : a.due = b.due) (grace : a.grace = b.grace) (escalation : a.escalation = b.escalation)
    (t : Nat) : a.stageAt t = b.stageAt t ∧ ∀ st : Stage, a.nextDeadline st = b.nextDeadline st := by
  have overdueAt : a.overdueAt = b.overdueAt := by rw [Booking.overdueAt, Booking.overdueAt, due, grace]
  have escalationAt : a.escalationAt = b.escalationAt := by rw [Booking.escalationAt, Booking.escalationAt, escalation, overdueAt]
  refine ⟨by rw [Booking.stageAt, Booking.stageAt, escalationAt, overdueAt, due], fun st => ?_⟩
  cases st <;> simp only [Booking.nextDeadline, escalationAt, overdueAt, due]

/-- A booking handed to the Due Watch. -/
theorem dueStart_tables {s : State} {b x : Booking} {now : Nat} (found : s.booking? b.number = some x)
    (same : x.bare = (b.outSince (some now)).bare) (time : s.time = some now) :
    (s.dueStart b.number).tables =
      (s.tables.withBooking b.number fun y => { y with stage := some (b.stageAt now) }).setDueList
        (dueAfter b.number (b.nextDeadline (b.stageAt now)) s.dueList) := by
  have number : x.number = b.number := booking?_number_eq found
  obtain ⟨stage, deadline⟩ := stageAt_congr (a := x) (b := b)
    (show x.bare.due = (b.outSince (some now)).bare.due from congrArg Booking.due same)
    (show x.bare.grace = (b.outSince (some now)).bare.grace from congrArg Booking.grace same)
    (show x.bare.escalation = (b.outSince (some now)).bare.escalation from congrArg Booking.escalation same) now
  have start : s.dueStart b.number = s.toStage x (x.stageAt now) := by
    simp only [State.dueStart, found, time]
  rw [start, toStage_form, number, stage, deadline]

theorem toOutLate_tables {s : State} {b : Booking} {now : Nat} (found : s.booking? b.number = some b) (time : s.time = some now) :
    (s.toOutLate b.number).tables = (s.takenLate b now).tables := by
  let out : State := (s.withBooking b.number (Booking.outSince s.time)).lastReleaseCleared b.number
  let left : State := (s.mapBooking b.number (Booking.outSince s.time)).leftLoaded b.number
  have tables : left.tables = out.tables := by
    rw [show left.tables = (s.mapBooking b.number (Booking.outSince s.time)).tables.lastReleaseCleared b.number from leftLoaded_form _ _,
      mapBooking_form _ _ (Booking.outSince s.time) fun _ => rfl, lastReleaseCleared_form,
      withBooking_form _ _ (Booking.outSince s.time) fun _ => rfl]
  have inOut : out.booking? b.number = some (b.outSince s.time) := by
    show (s.withBooking b.number (Booking.outSince s.time)).booking? b.number = _
    rw [booking?_withBooking_self _ _ (Booking.outSince s.time) fun _ => rfl, found]
    rfl
  obtain ⟨x, inLeft, bare⟩ := booking?_some_congr tables inOut
  have clock : left.time = some now := (show left.tables.time = out.tables.time from congrArg State.time tables).trans time
  have due : left.dueList = s.dueList := (dueList_congr tables).trans rfl
  have started := dueStart_tables inLeft (by rw [bare, time]) clock
  show (left.dueStart b.number).tables = _
  rw [started, tables, due, takenLate_form, takenLate_eq]
  have twice := withBooking_withBooking s.tables b.number (Booking.outSince s.time) (fun y => { y with stage := some (b.stageAt now) })
    fun _ => rfl
  have formed : out.tables = (s.tables.withBooking b.number (Booking.outSince s.time)).lastReleaseCleared b.number := by
    rw [lastReleaseCleared_form, withBooking_form _ _ (Booking.outSince s.time) fun _ => rfl]
  rw [formed]
  have merged : ((s.tables.withBooking b.number (Booking.outSince s.time)).lastReleaseCleared b.number).withBooking b.number
        (fun y => { y with stage := some (b.stageAt now) })
      = ((s.tables.withBooking b.number (Booking.outSince s.time)).withBooking b.number
        fun y => { y with stage := some (b.stageAt now) }).lastReleaseCleared b.number := rfl
  rw [merged, twice, time]
  rfl

theorem abortCustody_empty {s : State} (empty : s.release.queue = []) (b key : Nat) : s.abortCustody b key = s := by
  simp only [State.abortCustody, empty, List.find?_nil]

theorem lateTake_tables {s : State} {b : Booking} {now : Nat} (empty : s.release.queue = [])
    (found : s.booking? b.number = some b) (time : s.time = some now) (n : SlotNo) (key : Nat) (reconciled : Bool) :
    (s.lateTake n b.number key reconciled).tables = (s.takenLate b now).tables := by
  unfold State.lateTake
  rw [abortCustody_empty empty]
  exact toOutLate_tables found time

/-! ### The removal of a slot without a channel -/

theorem removal_eq {s : State} {n : SlotNo} (channel : (s.slot n).channel = none) (latch : Option Bool) :
    s.removal n latch = ((s.emptySlot n).classify n (s.slot n).tag latch).countChange n := by
  simp only [State.removal, State.removalWith, channel]
  rfl

theorem counted_removedFrom (s : State) (n : SlotNo) (tag : Option Nat) :
    (s.removedFrom n tag).counted n = (s.counted n).removedFrom n tag := by
  rw [removedFrom_eq, removedFrom_eq]
  by_cases noted : s.session.remaining.isSome ∧ s.session.removals.length < 32
  · rw [if_pos noted, if_pos (show (s.counted n).session.remaining.isSome ∧ (s.counted n).session.removals.length < 32 from noted)]
    rfl
  · rw [if_neg noted,
      if_neg (show ¬ ((s.counted n).session.remaining.isSome ∧ (s.counted n).session.removals.length < 32) from noted)]
    cases tag <;> rfl

theorem removedFrom_kept (s : State) (n : SlotNo) (tag : Option Nat) :
    (s.removedFrom n tag).slots = s.slots ∧ (s.removedFrom n tag).units = s.units ∧ (s.removedFrom n tag).release = s.release := by
  rw [removedFrom_eq]
  split
  · exact ⟨rfl, rfl, rfl⟩
  · cases tag <;> exact ⟨rfl, rfl, rfl⟩

theorem removedFrom_roomToCount {s : State} {n : SlotNo} (room : s.roomToCount n) (tag : Option Nat) :
    (s.removedFrom n tag).roomToCount n := by
  obtain ⟨slots, units, -⟩ := removedFrom_kept s n tag
  rw [State.roomToCount, State.slot, State.unit, slots, units]
  exact room

/-- A removal that is no late take: forced, or noted in a session. -/
theorem removal_unexplained {s : State} {n : SlotNo} {latch : Option Bool} (channel : (s.slot n).channel = none)
    (late : s.lateFor n (s.slot n).tag latch = none) (room : s.roomToCount n) :
    (s.removal n latch).tables = (((s.emptied n).removedFrom n (s.slot n).tag).chatterJudged n).tables := by
  have classified : ((s.emptySlot n).classify n (s.slot n).tag latch).tables
      = ((s.emptiedUncounted n).removedFrom n (s.slot n).tag).tables := by
    rw [classify_unexplained ((lateFor_emptied s n _ latch).trans late), unexplained_tables, removedFrom_form, emptySlot_tables,
      ← removedFrom_form]
  rw [removal_eq channel, countChange_of_tables classified (removedFrom_roomToCount (emptiedUncounted_roomToCount room) _),
    counted_removedFrom, emptiedUncounted_counted]

/-- A record changed and the last releases cleared, in either order. -/
theorem withSlot_lastReleaseCleared (s : State) (n : SlotNo) (b : Nat) {f : SlotRec → SlotRec}
    (kept : ∀ r : SlotRec, (f r).lastRelease = r.lastRelease) (comm : ∀ r : SlotRec, f { r with lastRelease := none } = { f r with lastRelease := none }) :
    (s.lastReleaseCleared b).withSlot n f = (s.withSlot n f).lastReleaseCleared b := by
  let clear : SlotRec → SlotRec := fun r => if r.lastRelease = some b then { r with lastRelease := none } else r
  have through (r : SlotRec) : f (clear r) = clear (f r) := by
    by_cases named : r.lastRelease = some b
    · rw [show clear r = _ from if_pos named, show clear (f r) = _ from if_pos ((kept r).trans named), comm]
    · rw [show clear r = _ from if_neg named, show clear (f r) = _ from if_neg fun same => named ((kept r).symm.trans same)]
  have read : (s.slots.map clear)[n] = clear s.slots[n] := Vector.getElem_map ..
  have slots : (s.slots.map clear).set n (f (s.slots.map clear)[n]) = (s.slots.set n (f s.slots[n])).map clear := by
    rw [read, through, Vector.map_set]
  exact congrArg s.setSlots slots

theorem changed_lastRelease (r : SlotRec) (time : Option Nat) : (r.changed time).lastRelease = r.lastRelease := by
  unfold SlotRec.changed SlotRec.counted
  split
  · split
    · rfl
    · split
      · rfl
      · split <;> rfl
  · rfl

theorem changed_forgotten (r : SlotRec) (time : Option Nat) :
    ({ r with lastRelease := none } : SlotRec).changed time = { r.changed time with lastRelease := none } := by
  unfold SlotRec.changed SlotRec.counted
  split
  · dsimp only
    split
    · rfl
    · split
      · rfl
      · split <;> rfl
  · rfl

theorem counted_takenLate (s : State) (b : Booking) (now : Nat) (n : SlotNo) :
    (s.takenLate b now).counted n = (s.counted n).takenLate b now := by
  rw [takenLate_eq, takenLate_eq]
  exact withSlot_lastReleaseCleared (s.outAt b now) n b.number (fun r => changed_lastRelease r s.time) fun r => changed_forgotten r s.time

theorem takenLate_roomToCount {s : State} {n : SlotNo} (room : s.roomToCount n) (b : Booking) (now : Nat) :
    (s.takenLate b now).roomToCount n := by
  have read : ((s.takenLate b now).slot n).chatter = (s.slot n).chatter := by
    rw [takenLate_eq, slot_lastReleaseCleared]
    split <;> rfl
  rw [State.roomToCount, read]
  exact room

/-- A late take rests on what the tables keep of the booking. -/
theorem takenLate_bare (s : State) {b c : Booking} (same : b.bare = c.bare) (now : Nat) : s.takenLate b now = s.takenLate c now := by
  obtain ⟨stage, deadline⟩ := stageAt_congr (a := b) (b := c) (show b.bare.due = c.bare.due from congrArg Booking.due same)
    (show b.bare.grace = c.bare.grace from congrArg Booking.grace same)
    (show b.bare.escalation = c.bare.escalation from congrArg Booking.escalation same) now
  have number : b.number = c.number := show b.bare.number = c.bare.number from congrArg Booking.number same
  rw [takenLate_eq, takenLate_eq, State.outAt, State.outAt, stage, deadline, number]

theorem lateFor_latched {s : State} {n : SlotNo} {x : Booking} {b : Nat} {latch : Option Bool} (latched : latch ≠ some false)
    (release : (s.slot n).lastRelease = some b) (found : s.booking? b = some x) (loaded : x.state = .loaded) :
    s.lateFor n (some x.key) latch = some b :=
  (if_neg latched).trans (lateBooking_iff.mpr ⟨x, release, found, loaded, rfl⟩)

/-- What classifies a removal as a late take. -/
theorem classify_late_tables {s t : State} {n : SlotNo} {x : Booking} {b now : Nat} {latch : Option Bool} (same : s.tables = t.tables)
    (latched : latch ≠ some false) (release : (t.slot n).lastRelease = some b) (found : t.booking? b = some x)
    (loaded : x.state = .loaded) (empty : t.release.queue = []) (time : t.time = some now) :
    (s.classify n (some x.key) latch).tables = (t.takenLate x now).tables := by
  obtain ⟨y, there, bare⟩ := booking?_some_congr same found
  have read : (s.slot n).lastRelease = (t.slot n).lastRelease :=
    show (s.slot n).bare.lastRelease = (t.slot n).bare.lastRelease from congrArg SlotRec.lastRelease (slot_bare same n)
  have state : y.state = x.state := show y.bare.state = x.bare.state from congrArg Booking.state bare
  have key : y.key = x.key := show y.bare.key = x.bare.key from congrArg Booking.key bare
  have number : y.number = b := booking?_number_eq there
  have queue : s.release.queue = [] := (congrArg ReleaseUnit.queue (release_tables same)).trans empty
  have clock : s.time = some now := (show s.tables.time = t.tables.time from congrArg State.time same).trans time
  subst number
  rw [classify_late (key ▸ lateFor_latched latched (read.trans release) there (state.trans loaded)),
    lateTake_tables queue there clock, takenLate_bare s bare, takenLate_form, same, ← takenLate_form]

/-- A late take, as a removal. -/
theorem removal_late {s : State} {n : SlotNo} {x : Booking} {b now : Nat} {latch : Option Bool}
    (channel : (s.slot n).channel = none) (latched : latch ≠ some false) (tag : (s.slot n).tag = some x.key)
    (release : (s.slot n).lastRelease = some b) (found : s.booking? b = some x) (loaded : x.state = .loaded)
    (empty : s.release.queue = []) (time : s.time = some now) (room : s.roomToCount n) :
    (s.removal n latch).tables = (((s.emptied n).takenLate x now).chatterJudged n).tables := by
  have kept : ((s.emptiedUncounted n).slot n).lastRelease = some b := by
    rw [emptiedUncounted_eq, slot_withSlot_self]
    exact release
  have classified : ((s.emptySlot n).classify n (s.slot n).tag latch).tables = ((s.emptiedUncounted n).takenLate x now).tables := by
    rw [tag]
    exact classify_late_tables (emptySlot_tables s n) latched kept found loaded empty time
  rw [removal_eq channel, countChange_of_tables classified (takenLate_roomToCount (emptiedUncounted_roomToCount room) x now),
    counted_takenLate, emptiedUncounted_counted]

/-! ### As the change of a POLL reply's entry -/

theorem emptied_change (u : UnitIx) (n : SlotNo) : QuietChange u fun t => t.emptied n where
  form t := emptied_form t n
  state _ := rfl
  granted _ h := h
  resync _ _ := rfl

theorem removedFrom_change (u : UnitIx) (n : SlotNo) (tag : Option Nat) : QuietChange u fun t => t.removedFrom n tag where
  form t := removedFrom_form t n tag
  state t := by rw [State.unit, (removedFrom_kept t n tag).2.1]; rfl
  granted t h := granted_congr (removedFrom_kept t n tag).2.2 h
  resync t flag := by
    rw [removedFrom_eq, removedFrom_eq]
    by_cases noted : t.session.remaining.isSome ∧ t.session.removals.length < 32
    · rw [if_pos noted, if_pos (show (t.withUnit u (UnitRec.overflow flag)).session.remaining.isSome
        ∧ (t.withUnit u (UnitRec.overflow flag)).session.removals.length < 32 from noted)]
      rfl
    · rw [if_neg noted, if_neg (show ¬ ((t.withUnit u (UnitRec.overflow flag)).session.remaining.isSome
        ∧ (t.withUnit u (UnitRec.overflow flag)).session.removals.length < 32) from noted)]
      cases tag <;> rfl

theorem takenLate_change (u : UnitIx) (b : Booking) (now : Nat) : QuietChange u fun t => t.takenLate b now where
  form t := takenLate_form t b now
  state t := by rw [takenLate_eq]; rfl
  granted t h := granted_congr (s := t) (by rw [takenLate_eq]; rfl) h
  resync t flag := by rw [takenLate_eq, takenLate_eq]; rfl

theorem moduleEntry_removed {s : State} {m : ModIx} {p : Fin 16} {latch : Bool} (online : s.slotOnline (slotAt m p) = true)
    (held : (s.slot (slotAt m p)).occ = .held) :
    s.moduleEntry m { pos := p, change := .removed, latchOpen := latch } = s.removal (slotAt m p) (some latch) := by
  simp only [State.moduleEntry, online, if_true, held]

end Sys2Proof.Machine
end

section
/-! SUPPORT. What a removal reports and raises (R17, R51), and a POLL reply with one removal from a slot without a channel. -/

namespace Sys2Proof.Machine

/-! ### Alert fields through a removal -/

theorem alertOf_modSlotLamp (s : State) (n : SlotNo) {f : SlotRec → SlotRec} (kept : ∀ r, (f r).alert = r.alert) (x : Subject) :
    (s.modSlotLamp n f).alertOf x = s.alertOf x :=
  (alertOf_relamp (s.modSlot n f) n x).trans (alertOf_putSlot s n (f (s.slot n)) (kept _) x)

theorem alertOf_withSlot (s : State) (n : SlotNo) {f : SlotRec → SlotRec} (kept : ∀ r, (f r).alert = r.alert) (x : Subject) :
    (s.withSlot n f).alertOf x = s.alertOf x := alertOf_putSlot s n (f (s.slot n)) (kept _) x

theorem alertOf_withUnit (s : State) (u : UnitIx) {f : UnitRec → UnitRec} (kept : ∀ r, (f r).alert = r.alert) (x : Subject) :
    (s.withUnit u f).alertOf x = s.alertOf x := alertOf_putUnit s u (f (s.unit u)) (kept _) x

/-- A slot's record as it goes out of service. -/
def SlotRec.out (k : Option FaultKind) (r : SlotRec) : SlotRec := { r with service := .quarantined, faults := joinFault k r.faults }

theorem quarantine_eq (s : State) (n : SlotNo) (k : Option FaultKind) :
    s.quarantine n k =
      if (s.slot n).service = .quarantined then s.modSlotLamp n (SlotRec.out k)
      else (s.modSlotLamp n (SlotRec.out k)).withUnit (modUnit (moduleOf n)) fun x => { x with quarantined := x.quarantined + 1 } := by
  cases k <;> rfl

theorem alertOf_quarantine (s : State) (n : SlotNo) (k : Option FaultKind) (x : Subject) :
    (s.quarantine n k).alertOf x = s.alertOf x := by
  have slots : (s.modSlotLamp n (SlotRec.out k)).alertOf x = s.alertOf x := alertOf_modSlotLamp s n (by intro _; rfl) x
  rw [quarantine_eq]
  split
  · exact slots
  · rw [alertOf_withUnit _ _ (by intro _; rfl), slots]

theorem alertOf_abortEntry_slot (s : State) (e : QueueEntry) (cause : AbortCause) (n : SlotNo) :
    (s.abortEntry e cause).alertOf (.slot n) = s.alertOf (.slot n) := by
  have dequeued : (s.dequeue e).alertOf (.slot n) = s.alertOf (.slot n) :=
    alertOf_withSlot (f := fun r => { r with queued := false }) (s.setRelease { s.release with queue := s.release.queue.erase e })
      e.slot (fun _ => rfl) (.slot n)
  have loaded : ((s.dequeue e).toLoaded e.booking).alertOf (.slot n) = (s.dequeue e).alertOf (.slot n) := rfl
  exact (told_alertOf ((s.dequeue e).toLoaded e.booking) _ _ _ _ (.slot n)).trans (loaded.trans dequeued)

/-- A withdrawal keeps an acknowledged class of its subject, or clears it. -/
theorem withdrawAlert_acked {s : State} {x : Subject} {f : AlertFields} (h : s.alertOf x = some f) (cs : List AlertClass) :
    ∃ g : AlertFields, (s.withdrawAlert x cs).alertOf x = some g ∧ g.acked = ackedAfter f.acked cs := by
  have only : ∃ g : AlertFields, (s.ackWithdrawn x f (ackedAfter f.acked cs)).alertOf x = some g ∧ g.acked = ackedAfter f.acked cs :=
    ⟨_, (ackWithdrawn_self h _).1, rfl⟩
  unfold State.withdrawAlert
  rw [h]
  dsimp only
  split
  · split
    · exact ⟨_, (leaveList_self h f _ _ _).1, rfl⟩
    · exact only
  · rename_i unlisted
    split
    · split
      · exact ⟨_, (clearMark_self h unlisted f _ _ _).1, rfl⟩
      · exact only
    · exact only

theorem ackedAfter_of_ne {acked : Option AlertClass} {c : AlertClass} (h : acked ≠ some c) (cs : List AlertClass) :
    ackedAfter acked cs ≠ some c := by
  unfold ackedAfter
  split
  · split
    · exact Option.some_ne_none c |>.symm
    · exact h
  · exact Option.some_ne_none c |>.symm

/-- The slot's acknowledged class is not `c`. -/
def State.unacked (s : State) (n : SlotNo) (c : AlertClass) : Prop := ∃ f : AlertFields, s.alertOf (.slot n) = some f ∧ f.acked ≠ some c

theorem unacked_congr {s t : State} {n : SlotNo} {c : AlertClass} (same : t.alertOf (.slot n) = s.alertOf (.slot n))
    (h : s.unacked n c) : t.unacked n c := by
  rw [State.unacked, same]
  exact h

theorem emptySlot_unacked {s : State} {n : SlotNo} {c : AlertClass} (h : s.unacked n c) : (s.emptySlot n).unacked n c := by
  obtain ⟨f, fields, fresh⟩ := h
  have same : (s.modSlotLamp n fun r => { r with occ := .empty, tag := none, since := s.time }).alertOf (.slot n) = some f :=
    (alertOf_modSlotLamp s n (by intro _; rfl) _).trans fields
  obtain ⟨g, after, acked⟩ := withdrawAlert_acked same [.foreignKey, .duplicateTag]
  exact ⟨g, after, acked ▸ ackedAfter_of_ne fresh _⟩

theorem setMissing_alertOf_slot (s : State) (k : Nat) (n : SlotNo) : (s.setMissing k).alertOf (.slot n) = s.alertOf (.slot n) := by
  unfold State.setMissing
  split
  · exact raiseAlert_alertOf_ne (s.mapEntry k fun e => { e with missing := true }) Subject.noConfusion _
  · rfl

theorem unexplained_alertOf_slot (s : State) (n : SlotNo) (tag : Option Nat) :
    (s.unexplained n tag).alertOf (.slot n) = s.alertOf (.slot n) := by
  unfold State.unexplained
  split
  · rfl
  · cases tag with
    | none => rfl
    | some k => exact setMissing_alertOf_slot s k n

theorem SlotRec.changed_alert (r : SlotRec) (time : Option Nat) : (r.changed time).alert = r.alert := by
  unfold SlotRec.changed SlotRec.counted
  split
  · split
    · rfl
    · split
      · rfl
      · split <;> rfl
  · rfl

/-! ### What a forced removal reports (R17) -/

/-- KEY_REMOVED_FORCED of a tagged key, with no removal time of its own. -/
def State.goneReport (s : State) (n : SlotNo) (k : Nat) : ReportBody :=
  .keyRemovedForced n ((s.entry? k).map (·.tag)) ((s.entry? k).map (·.unit)) none false

theorem forced_eq (s : State) (n : SlotNo) (k : Nat) : s.forced n (some k) = (s.setMissing k).queueReport (s.goneReport n k) := by
  have tag : (if (s.entry? k).isSome then some k else none) = (s.entry? k).map (·.tag) := by
    cases found : s.entry? k with
    | none => rfl
    | some e =>
      have own : e.tag = k := beq_iff_eq.mp (List.find?_some (p := fun e : KeyEntry => e.tag == k) found)
      exact congrArg some own.symm
  have report : State.goneReport s n k
      = .keyRemovedForced n (if (s.entry? k).isSome then some k else none) (s.unitOfKey k) none false := by
    rw [tag]
    rfl
  rw [report]
  rfl

theorem goneReport_congr {s t : State} (same : s.tables = t.tables) (n : SlotNo) (k : Nat) : s.goneReport n k = t.goneReport n k := by
  have through {β : Type} (f : KeyEntry → β) (bare : ∀ e : KeyEntry, f e.bare = f e) :
      (s.entry? k).map f = (t.entry? k).map f := by
    have step (o : Option KeyEntry) : o.map f = (o.map KeyEntry.bare).map f := by cases o <;> simp [bare]
    rw [step, entry?_bare same, ← step]
  rw [State.goneReport, State.goneReport, through (·.tag) fun _ => rfl, through (·.unit) fun _ => rfl]

theorem setMissing_queued {bs : List ReportBody} {m : Nat} {s : State} (h : s.queued bs m) (room : m + 2 ≤ 32) (k : Nat) :
    (s.setMissing k).queued bs (m + 2) := by
  unfold State.setMissing
  split
  · have marked : (s.mapEntry k fun e => { e with missing := true }).queued bs m := queued_congr rfl h
    exact queued_raise marked room _ _
  · exact queued_mono h (by omega)

theorem forced_queued {bs : List ReportBody} {m : Nat} {s : State} (h : s.queued bs m) (room : m + 3 ≤ 32) (n : SlotNo) (k : Nat) :
    (s.forced n (some k)).queued (s.goneReport n k :: bs) (m + 3) := by
  rw [forced_eq]
  exact queued_report (setMissing_queued h (by omega) k) (by omega) _

theorem unexplained_queued {bs : List ReportBody} {m : Nat} {s : State} (h : s.queued bs m) (room : m + 3 ≤ 32) (n : SlotNo) (k : Nat) :
    (s.unexplained n (some k)).queued bs (m + 3) := by
  unfold State.unexplained
  split
  · exact queued_mono (queued_congr rfl h) (by omega)
  · exact queued_weaken (forced_queued h room n k) (List.subset_cons_self _ _)

theorem emptySlot_queued {bs : List ReportBody} {m : Nat} {s : State} (h : s.queued bs m) (room : m + 2 ≤ 32) (n : SlotNo) :
    (s.emptySlot n).queued bs (m + 2) := queued_withdraw (queued_congr (modSlotLamp_link s n _) h) room _ _

/-! ### What the seventh change reports and raises (R51, R54) -/

/-- SLOT_FAULT of sensor chatter. -/
def State.chatterReport (s : State) (n : SlotNo) : ReportBody :=
  .slotFault
    { slot := n, booking := none, kind := .sensorChatter, service := .quarantined, slow := (s.slot n).slow, latch := none }

/-- RELEASE_ABORTED of a queue entry. -/
def State.abortReport (s : State) (e : QueueEntry) (cause : AbortCause) : ReportBody :=
  .releaseAborted (s.relInfo e.booking e.slot) (some e.source) .queued cause

theorem quarantine_slot (s : State) (n : SlotNo) (k : Option FaultKind) :
    ((s.quarantine n k).slot n).service = .quarantined ∧ ((s.quarantine n k).slot n).slow = (s.slot n).slow := by
  have form := slot_bare ((quarantine_form s n k).trans (outOfService_form s n (joinFault k)).symm) n
  have out : (s.outOfService n (joinFault k)).slot n = { s.slot n with service := .quarantined, faults := joinFault k (s.slot n).faults } :=
    slot_withSlot_self s n fun r => { r with service := .quarantined, faults := joinFault k r.faults }
  rw [out] at form
  exact ⟨show ((s.quarantine n k).slot n).bare.service = .quarantined from congrArg SlotRec.service form,
    (show ((s.quarantine n k).slot n).bare.slow = _ from congrArg SlotRec.slow form).trans rfl⟩

theorem chatterOut_eq (s : State) (n : SlotNo) :
    s.chatterOut n =
      ((s.quarantine n (some .sensorChatter)).queueReport (s.chatterReport n)).raiseAlert (.slot n) .slotFault := by
  obtain ⟨service, slow⟩ := quarantine_slot s n (some .sensorChatter)
  rw [State.chatterOut, State.reportFault, service, slow]
  rfl

theorem chatterOut_queued {bs : List ReportBody} {m : Nat} {s : State} (h : s.queued bs m) (room : m + 3 ≤ 32) (n : SlotNo) :
    (s.chatterOut n).queued (s.chatterReport n :: bs) (m + 3) := by
  rw [chatterOut_eq]
  exact queued_raise (queued_report (queued_congr (quarantine_link _ _ _) h) (by omega) _) (by omega) _ _

theorem abortEntry_queued {bs : List ReportBody} {m : Nat} {s : State} (h : s.queued bs m) (room : m + 1 ≤ 32) (e : QueueEntry)
    (cause : AbortCause) : (s.abortEntry e cause).queued (s.abortReport e cause :: bs) (m + 1) :=
  queued_told (s := (s.dequeue e).toLoaded e.booking) h (by omega) _ _ _ _

theorem relInfo_congr {s t : State} (same : s.tables = t.tables) (b : Nat) (n : SlotNo) : s.relInfo b n = t.relInfo b n := by
  have step (o : Option Booking) : o.map (·.key) = (o.map Booking.bare).map (·.key) := by cases o <;> rfl
  have key : (s.booking? b).map (·.key) = (t.booking? b).map (·.key) := by rw [step, booking?_bare same, ← step]
  rw [State.relInfo, State.relInfo, key]

theorem chatterOut_relInfo (s : State) (n m : SlotNo) (b : Nat) : (s.chatterOut n).relInfo b m = s.relInfo b m :=
  (relInfo_congr (chatterOut_tables s n) b m).trans rfl

/-- The reports of the fault, the entry's own behind the slot's. -/
def State.chatterReports (s : State) (n : SlotNo) : List ReportBody :=
  ((s.release.queue.find? fun e => e.slot == n).map fun e => s.abortReport e .quarantine).toList ++ [s.chatterReport n]

theorem chatterTold_queued {bs : List ReportBody} {m : Nat} {s : State} (h : s.queued bs m) (room : m + 4 ≤ 32) (n : SlotNo) :
    (s.chatterTold n).queued (s.chatterReports n ++ bs) (m + 4) := by
  have out := chatterOut_queued h (by omega) n
  unfold State.chatterTold State.chatterReports
  cases s.release.queue.find? fun e => e.slot == n with
  | none => exact queued_mono out (by omega)
  | some e =>
    have aborted := abortEntry_queued out (by omega) e .quarantine
    rwa [State.abortReport, chatterOut_relInfo] at aborted

theorem counted_queued {bs : List ReportBody} {m : Nat} {s : State} (h : s.queued bs m) (n : SlotNo) : (s.counted n).queued bs m := h

theorem counted_lastReport (s : State) (n : SlotNo) : (s.counted n).lastReport = s.lastReport := rfl

/-- The seventh change makes the fault, and no retirement where the module stays below sixteen. -/
theorem countChange_seventh {s : State} {n : SlotNo} (room : s.roomToCount n) (seventh : (s.counted n).chattered n = true) :
    s.countChange n = (s.counted n).chatterTold n := by
  have below : (s.unit (modUnit (moduleOf n))).quarantined < 15 := by
    refine room.resolve_left fun few => ?_
    exact Bool.false_ne_true ((not_chattered_of_few few).symm.trans seventh)
  rw [countChange_eq, if_pos seventh, chatterFault_below (s := s.counted n) below]

theorem countChange_uncounted {s : State} {n : SlotNo} (no : (s.counted n).chattered n = false) : s.countChange n = s.counted n := by
  rw [countChange_eq, if_neg (Bool.eq_false_iff.mp no)]

theorem countChange_queued {bs : List ReportBody} {m : Nat} {s : State} {n : SlotNo} (h : s.queued bs m) (room : m + 4 ≤ 32)
    (count : s.roomToCount n) : (s.countChange n).queued bs (m + 4) := by
  cases seventh : (s.counted n).chattered n with
  | true =>
    rw [countChange_seventh count seventh]
    exact queued_weaken (chatterTold_queued (s := s.counted n) h room n) (List.subset_append_right _ _)
  | false =>
    rw [countChange_uncounted seventh]
    exact queued_mono h (by omega)

theorem policyOf_calm {s t : State} (calm : Calm s t) (c : AlertClass) : t.policyOf c = s.policyOf c :=
  congrArg (fun p : Vector PolicyEntry 16 => p[c.ix]) calm.policy

theorem chatterOut_cls {s : State} {n : SlotNo} (enabled : (s.policyOf .slotFault).enabled = true) (fresh : s.unacked n .slotFault) :
    ∃ f : AlertFields, (s.chatterOut n).alertOf (.slot n) = some f ∧ f.cls = some .slotFault := by
  obtain ⟨f, fields, acked⟩ := fresh
  have before : ((s.quarantine n (some .sensorChatter)).queueReport (s.chatterReport n)).alertOf (.slot n) = some f :=
    (alertOf_queueReport _ _ _).trans ((alertOf_quarantine s n _ _).trans fields)
  have policy : ((s.quarantine n (some .sensorChatter)).queueReport (s.chatterReport n)).policyOf .slotFault = s.policyOf .slotFault :=
    policyOf_calm ((quarantine_calm s n _).trans (queueReport_calm _ _)) _
  rw [chatterOut_eq]
  exact raiseAlert_cls before (by rw [policy]; exact enabled) acked

theorem alertOf_chatterTold (s : State) (n : SlotNo) : (s.chatterTold n).alertOf (.slot n) = (s.chatterOut n).alertOf (.slot n) := by
  unfold State.chatterTold
  split
  · exact alertOf_abortEntry_slot _ _ _ n
  · rfl

theorem chatterTold_cls {s : State} {n : SlotNo} (enabled : (s.policyOf .slotFault).enabled = true) (fresh : s.unacked n .slotFault) :
    ((s.chatterTold n).slot n).alert.cls = some .slotFault := by
  obtain ⟨f, fields, cls⟩ := chatterOut_cls enabled fresh
  have told : some ((s.chatterTold n).slot n).alert = some f := (alertOf_chatterTold s n).trans fields
  exact (congrArg AlertFields.cls (Option.some.inj told)).trans cls

/-! ### The obligation -/

section
variable {s : State} {n : SlotNo} {k : Nat}

/-- The state of a removal that is no late take, before its count. -/
def State.unexplainedAt (s : State) (n : SlotNo) (k : Nat) : State := (s.emptySlot n).unexplained n (some k)

theorem unexplainedAt_tables (s : State) (n : SlotNo) (k : Nat) :
    (s.unexplainedAt n k).tables = ((s.emptiedUncounted n).removedFrom n (some k)).tables := by
  rw [State.unexplainedAt, unexplained_tables, removedFrom_form, emptySlot_tables, ← removedFrom_form]

theorem unexplainedAt_counted_tables (s : State) (n : SlotNo) (k : Nat) :
    ((s.unexplainedAt n k).counted n).tables = ((s.emptied n).removedFrom n (some k)).tables := by
  rw [counted_form, unexplainedAt_tables, ← counted_form, counted_removedFrom, emptiedUncounted_counted]

theorem removal_unexplainedAt {latch : Option Bool} (channel : (s.slot n).channel = none) (tag : (s.slot n).tag = some k)
    (late : s.lateFor n (some k) latch = none) : s.removal n latch = (s.unexplainedAt n k).countChange n := by
  rw [removal_eq channel, tag, classify_unexplained ((lateFor_emptied s n _ latch).trans late)]
  rfl

theorem unexplainedAt_queued (busy : s.linkBusy) (few : s.link.reports.length ≤ 20) : (s.unexplainedAt n k).queued [] 25 :=
  unexplained_queued (emptySlot_queued (queued_start busy few) (by omega) n) (by omega) n k

/-- Outside a session the removal is forced, and reported as such. -/
theorem unexplainedAt_forced (open_ : s.session.remaining = none) :
    s.unexplainedAt n k = (s.emptySlot n).forced n (some k) := by
  have session : (s.emptySlot n).session.remaining = none :=
    (show (s.emptySlot n).tables.session.remaining = s.session.remaining by rw [emptySlot_tables]; rfl).trans open_
  rw [State.unexplainedAt, State.unexplained, session]
  exact if_neg fun both => Bool.false_ne_true both.1

theorem emptySlot_goneReport (s : State) (n m : SlotNo) (k : Nat) : (s.emptySlot n).goneReport m k = s.goneReport m k :=
  (goneReport_congr (emptySlot_tables s n) m k).trans rfl

theorem unexplainedAt_reported (open_ : s.session.remaining = none) (busy : s.linkBusy) (few : s.link.reports.length ≤ 20) :
    (s.unexplainedAt n k).queued [s.goneReport n k] 25 := by
  have reported := forced_queued (emptySlot_queued (queued_start busy few) (by omega) n) (by omega) n k
  rwa [emptySlot_goneReport, ← unexplainedAt_forced open_] at reported

theorem unexplainedAt_lastReport (open_ : s.session.remaining = none) (busy : s.linkBusy) :
    (s.unexplainedAt n k).lastReport = some (s.goneReport n k) := by
  have held : ((s.emptySlot n).setMissing k).link.tx ≠ .idle := by
    rw [(((emptySlot_calm s n).trans (setMissing_calm _ k)).held (linkBusy_sends busy)).1]
    exact linkBusy_sends busy
  rw [unexplainedAt_forced open_, forced_eq, emptySlot_goneReport]
  exact queueReport_lastReport _ held

theorem unexplainedAt_unacked (fresh : (s.slot n).alert.acked ≠ some .slotFault) :
    ((s.unexplainedAt n k).counted n).unacked n .slotFault := by
  have start : s.unacked n .slotFault := ⟨_, rfl, fresh⟩
  have emptied : (s.emptySlot n).unacked n .slotFault := emptySlot_unacked start
  have classified : (s.unexplainedAt n k).unacked n .slotFault := unacked_congr (unexplained_alertOf_slot _ _ _) emptied
  exact unacked_congr (alertOf_withSlot _ _ (fun r => SlotRec.changed_alert r _) _) classified

theorem removedFrom_bookings (s : State) (n : SlotNo) (tag : Option Nat) : (s.removedFrom n tag).bookings = s.bookings := by
  rw [removedFrom_eq]
  split
  · rfl
  · cases tag <;> rfl

theorem policyOf_congr {s t : State} (same : s.tables = t.tables) (c : AlertClass) : s.policyOf c = t.policyOf c :=
  congrArg (fun p : Vector PolicyEntry 16 => p[c.ix]) (show s.tables.policy = t.tables.policy from congrArg State.policy same)

theorem policyOf_removedFrom (s : State) (n : SlotNo) (tag : Option Nat) (c : AlertClass) :
    (s.removedFrom n tag).policyOf c = s.policyOf c := by
  rw [removedFrom_eq]
  split
  · rfl
  · cases tag <;> rfl

theorem slow_congr {s t : State} (same : s.tables = t.tables) (n : SlotNo) : (s.slot n).slow = (t.slot n).slow :=
  show (s.slot n).bare.slow = (t.slot n).bare.slow from congrArg SlotRec.slow (slot_bare same n)

theorem SlotRec.changed_slow (r : SlotRec) (time : Option Nat) : (r.changed time).slow = r.slow := by
  unfold SlotRec.changed SlotRec.counted
  split
  · split
    · rfl
    · split
      · rfl
      · split <;> rfl
  · rfl

/-- The reports of a seventh change, told by the state before the reply. -/
theorem unexplainedAt_chatterReports (s : State) (n : SlotNo) (k : Nat) :
    ((s.unexplainedAt n k).counted n).chatterReports n = s.chatterReports n := by
  have same := unexplainedAt_counted_tables s n k
  have queue : ((s.unexplainedAt n k).counted n).release = s.release :=
    (release_tables same).trans (removedFrom_kept (s.emptied n) n (some k)).2.2
  have slow : (((s.unexplainedAt n k).counted n).slot n).slow = (s.slot n).slow := by
    rw [slow_congr same, State.slot, (removedFrom_kept (s.emptied n) n (some k)).1]
    exact (congrArg SlotRec.slow (slot_withSlot_self s n fun r => (r.vacant s.time).changed s.time)).trans (SlotRec.changed_slow _ _)
  have info (e : QueueEntry) : ((s.unexplainedAt n k).counted n).abortReport e .quarantine = s.abortReport e .quarantine := by
    have known : ((s.emptied n).removedFrom n (some k)).relInfo e.booking e.slot = s.relInfo e.booking e.slot := by
      rw [State.relInfo, State.booking?, removedFrom_bookings]
      rfl
    rw [State.abortReport, relInfo_congr same, known]
    rfl
  simp only [State.chatterReports, queue, info, State.chatterReport, slow]

theorem removedFrom_chattered (s : State) (n : SlotNo) (tag : Option Nat) : (s.removedFrom n tag).chattered n = s.chattered n := by
  rw [removedFrom_eq]
  split
  · rfl
  · cases tag <;> rfl

theorem unexplainedAt_chattered (s : State) (n : SlotNo) (k : Nat) :
    ((s.unexplainedAt n k).counted n).chattered n = (s.emptied n).chattered n := by
  rw [chattered_congr (unexplainedAt_counted_tables s n k), removedFrom_chattered]

theorem unexplainedAt_roomToCount (room : s.roomToCount n) : (s.unexplainedAt n k).roomToCount n :=
  (roomToCount_congr (unexplainedAt_tables s n k) n).mpr (removedFrom_roomToCount (emptiedUncounted_roomToCount room) _)

end

/-- No booking is taken late: the latch was closed, or the last release names none that is LOADED with this key. -/
theorem lateFor_none {s : State} {n : SlotNo} {k : Nat} {latch : Bool}
    (no : latch = false ∨ ¬ ∃ (b : Nat) (y : Booking), (s.slot n).lastRelease = some b ∧ s.booking? b = some y ∧ y.state = .loaded
      ∧ y.key = k) : s.lateFor n (some k) (some latch) = none := by
  by_cases shut : latch = false
  · exact if_pos (congrArg some shut)
  · refine (if_neg fun same => shut (Option.some.inj same)).trans (Option.eq_none_iff_forall_ne_some.mpr fun b late => ?_)
    obtain ⟨y, release, found, loaded, key⟩ := lateBooking_iff.mp late
    exact no.resolve_left shut ⟨b, y, release, found, loaded, (Option.some.inj key).symm⟩

theorem lastReport_chosen (s : State) (u : UnitIx) (f : UnitRec → UnitRec) : (s.withUnit u f).chooseCommand.lastReport = s.lastReport := by
  rw [State.lastReport, (chooseCommand_link _).1]
  rfl

theorem slot_chosen (s : State) (u : UnitIx) (f : UnitRec → UnitRec) (n : SlotNo) :
    (s.withUnit u f).chooseCommand.slot n = s.slot n := by
  rw [State.slot, (chooseCommand_records _).2.1]
  rfl

theorem queued_polled {bs : List ReportBody} {n : Nat} {s : State} (h : s.queued bs n) (u : UnitIx) (f : UnitRec → UnitRec)
    {b : ReportBody} (at_ : b ∈ bs) : b ∈ (s.withUnit u f).chooseCommand.link.reports.map (·.body) :=
  queued_chosen (s := s.withUnit u f) h at_

theorem awaits_roomToCount {s : State} {m : ModIx} {p : Fin 16}
    (room : (s.slot (slotAt m p)).chatter < 6 ∨ (s.unit (modUnit m)).quarantined < 15) :
    (s.landed (modUnit m)).roomToCount (slotAt m p) := by
  rw [State.roomToCount, moduleOf_slotAt]
  exact room.imp_right fun below => (congrArg UnitRec.quarantined (replied_unit s (modUnit m))).trans_lt below

/-- A removal that is forced or noted, as the change of a POLL reply's entry. -/
def State.keyGone (n : SlotNo) (tag : Option Nat) (s : State) : State := ((s.emptied n).removedFrom n tag).chatterJudged n

theorem keyGone_change (u : UnitIx) (n : SlotNo) (tag : Option Nat) : QuietChange u (State.keyGone n tag) :=
  ((chatterJudged_change u n).comp (removedFrom_change u n tag)).comp (emptied_change u n)

/-- A late take, as the change of a POLL reply's entry. -/
def State.keyTakenLate (n : SlotNo) (b : Booking) (now : Nat) (s : State) : State := ((s.emptied n).takenLate b now).chatterJudged n

theorem keyTakenLate_change (u : UnitIx) (n : SlotNo) (b : Booking) (now : Nat) : QuietChange u (State.keyTakenLate n b now) :=
  ((chatterJudged_change u n).comp (takenLate_change u b now)).comp (emptied_change u n)

section
variable {s : State} {addr : Byte} {m : ModIx} {payload : List Byte} {p : Fin 16} {k : Nat} {latch overflow : Bool}

/-- Where the slot's entry in the reply is a removal that no release explains. -/
theorem pollReply_unexplained (awaits : s.awaits (modUnit m) .poll addr)
    (read : readPoll readModuleEntry payload = some { overflow, entries := [{ pos := p, change := .removed, latchOpen := latch }] })
    (held : (s.slot (slotAt m p)).occ = .held) (tag : (s.slot (slotAt m p)).tag = some k)
    (channel : (s.slot (slotAt m p)).channel = none)
    (room : (s.slot (slotAt m p)).chatter < 6 ∨ (s.unit (modUnit m)).quarantined < 15) (granted : s.granted)
    (late : s.lateFor (slotAt m p) (some k) (some latch) = none) :
    exec (.pollReply addr payload) s =
        .next ((((s.landed (modUnit m)).unexplainedAt (slotAt m p) k).countChange (slotAt m p)).withUnit (modUnit m)
          (UnitRec.overflow overflow)).chooseCommand
      ∧ ((((s.landed (modUnit m)).unexplainedAt (slotAt m p) k).countChange (slotAt m p)).withUnit (modUnit m)
          (UnitRec.overflow overflow)).chooseCommand.tables
        = ((s.withUnit (modUnit m) (UnitRec.polled overflow)).keyGone (slotAt m p) (some k)).tables := by
  have removed := removal_unexplainedAt (s := s.landed (modUnit m)) (latch := some latch) channel tag late
  have entry := (moduleEntry_removed (s := s.landed (modUnit m)) (m := m) (p := p) (latch := latch)
    (awaits_slotOnline awaits nofun p) held).trans removed
  have comes := removal_unexplained (s := s.landed (modUnit m)) (latch := some latch) channel
    ((congrArg (fun t => s.lateFor (slotAt m p) t (some latch)) tag).trans late) (awaits_roomToCount room)
  rw [removed, show ((s.landed (modUnit m)).slot (slotAt m p)).tag = some k from tag] at comes
  have change := keyGone_change (modUnit m) (slotAt m p) (some k)
  exact pollReply_makes change.toEntryChange awaits read entry comes (change.granted (s.landed (modUnit m)) granted)

end

theorem emptied_few {s : State} {n : SlotNo} (few : (s.slot n).chatter < 6) : (s.emptied n).chattered n = false := by
  have kept : ((s.emptiedUncounted n).slot n).chatter = (s.slot n).chatter :=
    (congrArg SlotRec.chatter (slot_withSlot_self s n (SlotRec.vacant s.time))).trans rfl
  rw [← emptiedUncounted_counted]
  exact not_chattered_of_few (kept.trans_lt few)

/-- What a seventh change reports and raises. -/
theorem unexplained_seventh {s : State} {n : SlotNo} {k : Nat} (room : s.roomToCount n) (seventh : (s.emptied n).chattered n = true) :
    (s.linkBusy → s.link.reports.length ≤ 20 → ((s.unexplainedAt n k).countChange n).queued (s.chatterReports n) 29)
      ∧ ((s.policyOf .slotFault).enabled = true → (s.slot n).alert.acked ≠ some .slotFault →
        (((s.unexplainedAt n k).countChange n).slot n).alert.cls = some .slotFault) := by
  have fault := countChange_seventh (unexplainedAt_roomToCount (k := k) room) ((unexplainedAt_chattered s n k).trans seventh)
  rw [fault]
  refine ⟨fun busy few => ?_, fun enabled fresh => ?_⟩
  · have start : ((s.unexplainedAt n k).counted n).queued [] 25 := counted_queued (unexplainedAt_queued busy few) n
    have told := chatterTold_queued start (by omega) n
    rwa [List.append_nil, unexplainedAt_chatterReports] at told
  · have policy : ((s.unexplainedAt n k).counted n).policyOf .slotFault = s.policyOf .slotFault :=
      (policyOf_congr (unexplainedAt_counted_tables s n k) _).trans (policyOf_removedFrom _ _ _ _)
    exact chatterTold_cls (policy ▸ enabled) (unexplainedAt_unacked fresh)

/-- What a forced removal reports. -/
theorem unexplained_forced {s : State} {n : SlotNo} {k : Nat} (open_ : s.session.remaining = none) (busy : s.linkBusy) :
    ((s.slot n).chatter < 6 → ((s.unexplainedAt n k).countChange n).lastReport = some (s.goneReport n k))
      ∧ (s.link.reports.length ≤ 20 → s.roomToCount n → ((s.unexplainedAt n k).countChange n).queued [s.goneReport n k] 29) := by
  refine ⟨fun few => ?_, fun fits room => ?_⟩
  · have quiet : ((s.unexplainedAt n k).counted n).chattered n = false := (unexplainedAt_chattered s n k).trans (emptied_few few)
    rw [countChange_uncounted quiet, counted_lastReport]
    exact unexplainedAt_lastReport open_ busy
  · exact countChange_queued (unexplainedAt_reported open_ busy fits) (by omega) (unexplainedAt_roomToCount room)

/-- Among the reports of a seventh change are the slot's and its entry's. -/
theorem mem_chatterReports (s : State) (n : SlotNo) :
    s.chatterReport n ∈ s.chatterReports n
      ∧ ∀ e : QueueEntry, s.release.queue.find? (fun e => e.slot == n) = some e →
        .releaseAborted { booking := e.booking, slot := n, key := (s.booking? e.booking).map (·.key) } (some e.source) .queued
          .quarantine ∈ s.chatterReports n := by
  refine ⟨List.mem_append_right _ List.mem_cons_self, fun e found => List.mem_append_left _ ?_⟩
  have slot : e.slot = n := beq_iff_eq.mp (List.find?_some (p := fun e : QueueEntry => e.slot == n) found)
  rw [found, ← slot]
  exact List.mem_cons_self

/-- The reply to a POLL with such a removal, told by the state before it. -/
theorem pollReply_unexplained_told {s : State} {addr : Byte} {m : ModIx} {payload : List Byte} {p : Fin 16} {k : Nat}
    {latch overflow : Bool} (awaits : s.awaits (modUnit m) .poll addr)
    (read : readPoll readModuleEntry payload = some { overflow, entries := [{ pos := p, change := .removed, latchOpen := latch }] })
    (held : (s.slot (slotAt m p)).occ = .held) (tag : (s.slot (slotAt m p)).tag = some k)
    (channel : (s.slot (slotAt m p)).channel = none)
    (room : (s.slot (slotAt m p)).chatter < 6 ∨ (s.unit (modUnit m)).quarantined < 15) (granted : s.granted)
    (late : s.lateFor (slotAt m p) (some k) (some latch) = none) :
    ∃ t : State, exec (.pollReply addr payload) s = .next t
      ∧ t.tables = ((s.withUnit (modUnit m) (UnitRec.polled overflow)).keyGone (slotAt m p) (some k)).tables
      ∧ (s.session.remaining = none → s.linkBusy →
        ((s.slot (slotAt m p)).chatter < 6 → t.lastReport = some (s.goneReport (slotAt m p) k))
          ∧ (s.link.reports.length ≤ 20 → s.goneReport (slotAt m p) k ∈ t.link.reports.map (·.body)))
      ∧ ((s.emptied (slotAt m p)).chattered (slotAt m p) = true →
        (s.linkBusy → s.link.reports.length ≤ 20 → ∀ b ∈ s.chatterReports (slotAt m p), b ∈ t.link.reports.map (·.body))
          ∧ ((s.policyOf .slotFault).enabled = true → (s.slot (slotAt m p)).alert.acked ≠ some .slotFault →
            (t.slot (slotAt m p)).alert.cls = some .slotFault)) := by
  obtain ⟨next, tables⟩ := pollReply_unexplained awaits read held tag channel room granted late
  have counts := awaits_roomToCount room
  refine ⟨_, next, tables, fun open_ busy => ?_, fun seventh => ?_⟩
  · obtain ⟨last, waits⟩ := unexplained_forced (s := s.landed (modUnit m)) (n := slotAt m p) (k := k) open_ busy
    exact ⟨fun few => (lastReport_chosen _ _ _).trans (last few), fun fits => queued_polled (waits fits counts) _ _ List.mem_cons_self⟩
  · obtain ⟨reports, alert⟩ := unexplained_seventh (s := s.landed (modUnit m)) (n := slotAt m p) (k := k) counts seventh
    exact ⟨fun busy few b at_ => queued_polled (reports busy few) _ _ at_, fun enabled fresh => by
      rw [slot_chosen]
      exact alert enabled fresh⟩

/-- Settles O48: the removal is forced, noted or a late take, and the change is counted and judged. -/
theorem aRemovalIsForcedNotedOrLate : Obligations.ARemovalIsForcedNotedOrLate := by
  intro s addr m payload p k latch overflow awaits read n held tag channel room granted emptied late
  refine ⟨?_, ?_⟩
  · intro notLate gone
    obtain ⟨t, next, tables, forced, fault⟩ :=
      pollReply_unexplained_told awaits read held tag channel room granted (lateFor_none notLate)
    obtain ⟨report, aborted⟩ := mem_chatterReports s n
    refine ⟨t, next, tables, forced, fun seventh => ?_⟩
    obtain ⟨reports, alert⟩ := fault seventh
    exact ⟨fun busy few => ⟨reports busy few _ report, fun e found => reports busy few _ (aborted e found)⟩, alert⟩
  · intro b now x latched release found loaded key empty time
    have comes := removal_late (s := s.landed (modUnit m)) (latch := some latch) channel (by rw [latched]; exact nofun)
      (key ▸ tag) release found loaded empty time (awaits_roomToCount room)
    have change := keyTakenLate_change (modUnit m) n x now
    obtain ⟨next, tables⟩ := pollReply_makes change.toEntryChange awaits read
      (moduleEntry_removed (s := s.landed (modUnit m)) (m := m) (p := p) (awaits_slotOnline awaits nofun p) held) comes
      (change.granted (s.landed (modUnit m)) granted)
    exact ⟨_, next, tables⟩

end Sys2Proof.Machine
end

section
/-! SUPPORT. A removal from a slot that holds a channel (R86, R88, R89): a take, an opening that its key has left, a closing. -/

namespace Sys2Proof.Machine

/-! ### What a take makes of the records and the ports -/

/-- A booking goes OUT in a state that knows it up to its alert fields. -/
theorem toOut_tables {s : State} {b y : Booking} {now : Nat} (found : s.booking? b.number = some y) (same : y.bare = b.bare)
    (time : s.time = some now) : (s.toOut b.number).tables = (s.outAt b now).tables := by
  let out : State := s.mapBooking b.number (Booking.outSince s.time)
  have inOut : out.booking? b.number = some (y.outSince s.time) := by
    show (s.withBooking b.number (Booking.outSince s.time)).booking? b.number = _
    rw [booking?_withBooking_self _ _ (Booking.outSince s.time) fun _ => rfl, found]
    rfl
  have bare : (y.outSince s.time).bare = (b.outSince (some now)).bare := by
    rw [time]
    exact congrArg (Booking.outSince (some now)) same
  have started := dueStart_tables inOut bare time
  show (out.dueStart b.number).tables = _
  have formed : out.tables = s.tables.withBooking b.number (Booking.outSince s.time) :=
    mapBooking_form _ _ (Booking.outSince s.time) fun _ => rfl
  have twice := withBooking_withBooking s.tables b.number (Booking.outSince s.time) (fun y => { y with stage := some (b.stageAt now) })
    fun _ => rfl
  rw [started, formed, twice, outAt_form, time]
  rfl

theorem setPhase_ports (s : State) (c : ChanNo) (x : Channel) : (s.setPhase c x).kiosk = s.kiosk ∧ (s.setPhase c x).bus = s.bus := by
  unfold State.setPhase
  split
  · exact relamp_ports (s.putChan c x) _
  · exact ⟨rfl, rfl⟩

theorem dueStart_ports (s : State) (n : Nat) : (s.dueStart n).kiosk = s.kiosk ∧ (s.dueStart n).bus = s.bus := by
  unfold State.dueStart
  split
  · rename_i b t _ _
    have staged : ((s.setStage b.number (b.stageAt t)).raiseStage b.number (b.stageAt t)).kiosk = s.kiosk
        ∧ ((s.setStage b.number (b.stageAt t)).raiseStage b.number (b.stageAt t)).bus = s.bus := by
      unfold State.raiseStage
      split
      · exact (alert_kiosk s.kiosk s.bus).raise _ _ ⟨rfl, rfl⟩
      · exact ⟨rfl, rfl⟩
    rw [State.toStage, duePlace_eq]
    exact staged
  · exact ⟨rfl, rfl⟩

/-- A channel's booking gone OUT, its channel CLOSING, before the CLOSE and the report. -/
def State.takenOut (s : State) (c : ChanNo) (n : SlotNo) (b : Nat) : State := (s.setPhase c (.closing n b .taken)).toOut b

theorem take_eq (s : State) (c : ChanNo) (n : SlotNo) (b : Nat) (close : State → State) :
    s.take c n b close =
      (close (s.takenOut c n b)).told (.releaseTaken (s.relInfo b n) c (s.sourceOf b) s.time) (s.sourceOf b) b .taken := rfl

theorem takenOut_ports (s : State) (c : ChanNo) (n : SlotNo) (b : Nat) :
    (s.takenOut c n b).kiosk = s.kiosk ∧ (s.takenOut c n b).bus = s.bus := by
  obtain ⟨kiosk, bus⟩ := setPhase_ports s c (.closing n b .taken)
  let t : State := (s.setPhase c (.closing n b .taken)).mapBooking b (Booking.outSince (s.setPhase c (.closing n b .taken)).time)
  obtain ⟨kiosk', bus'⟩ := dueStart_ports t b
  exact ⟨kiosk'.trans kiosk, bus'.trans bus⟩

theorem outAt_withChan (s : State) (x : Booking) (now : Nat) (c : ChanNo) (ch : Channel) :
    (s.withChan c ch).outAt x now = (s.outAt x now).withChan c ch := rfl

theorem takenOut_tables {s : State} {x : Booking} {now : Nat} (found : ∃ y : Booking, s.booking? x.number = some y ∧ y.bare = x.bare)
    (time : s.time = some now) (c : ChanNo) (n : SlotNo) :
    (s.takenOut c n x.number).tables = ((s.outAt x now).withChan c (.closing n x.number .taken)).tables := by
  have phase := (setPhase_form s c (.closing n x.number .taken)).trans (withChan_form s c (.closing n x.number .taken)).symm
  obtain ⟨y, known, bare⟩ := found
  obtain ⟨z, there, alike⟩ := booking?_some_congr phase (show (s.withChan c (.closing n x.number .taken)).booking? x.number = some y from known)
  have clock : (s.setPhase c (.closing n x.number .taken)).time = some now :=
    (show (s.setPhase c (.closing n x.number .taken)).tables.time = some now by rw [phase]; exact time)
  rw [State.takenOut, toOut_tables there (alike.trans bare) clock, outAt_form, phase, ← outAt_form, outAt_withChan]

theorem emptySlot_ports (s : State) (n : SlotNo) : (s.emptySlot n).kiosk = s.kiosk ∧ (s.emptySlot n).bus = s.bus :=
  (alert_kiosk s.kiosk s.bus).withdraw _ _ (relamp_ports _ n)

/-! ### The removal, by the channel's phase -/

theorem removal_channel {s : State} {n : SlotNo} {c : ChanNo} (channel : (s.slot n).channel = some c) (latch : Option Bool) :
    s.removal n latch = (s.emptySlot n).removalOnChannel c n latch fun t => t.classify n (s.slot n).tag latch := by
  simp only [State.removal, State.removalWith, channel]
  rfl

theorem removalOnChannel_opened {s : State} {c : ChanNo} {m n : SlotNo} {b d : Nat} (chan : s.chan c = .opened m b d)
    (latch : Option Bool) (back : State → State) :
    s.removalOnChannel c n latch back = s.take c n b fun t => t.addLatch n .closeIt (some c) := by
  simp only [State.removalOnChannel, chan]

theorem removalOnChannel_opening {s : State} {c : ChanNo} {m n : SlotNo} {b : Nat} (chan : s.chan c = .opening m b)
    (back : State → State) : s.removalOnChannel c n (some true) back = s.take c n b fun t => t.closeForOpen n c := by
  simp only [State.removalOnChannel, chan, if_true]

theorem removalOnChannel_shut {s : State} {c : ChanNo} {m n : SlotNo} {b : Nat} (chan : s.chan c = .opening m b)
    (back : State → State) :
    s.removalOnChannel c n (some false) back = back ((s.withdrawLatch c .openIt).abortChannel c .keyGone false) := by
  simp only [State.removalOnChannel, chan]
  rfl

theorem removalOnChannel_closing {s : State} {c : ChanNo} {m n : SlotNo} {b : Nat} {why : CloseReason}
    (chan : s.chan c = .closing m b why) (latch : Option Bool) (back : State → State) :
    s.removalOnChannel c n latch back = back s := by
  simp only [State.removalOnChannel, chan]

theorem chan_congr {s t : State} (same : s.tables = t.tables) (c : ChanNo) : s.chan c = t.chan c := by
  rw [State.chan, State.chan, release_tables same]

theorem chan_emptySlot (s : State) (n : SlotNo) (c : ChanNo) : (s.emptySlot n).chan c = s.chan c :=
  (chan_congr (emptySlot_tables s n) c).trans rfl

theorem sourceOf_congr {s t : State} (same : s.tables = t.tables) (b : Nat) : s.sourceOf b = t.sourceOf b := by
  have step (o : Option Booking) : o.bind (·.source) = (o.map Booking.bare).bind (·.source) := by cases o <;> rfl
  rw [State.sourceOf, State.sourceOf, step, booking?_bare same, ← step]

/-! ### A take (R86, R89) -/

theorem setBus_kiosk (s : State) (b : BusMaster) : (s.setBus b).kiosk = s.kiosk := rfl

theorem setBus_link (s : State) (b : BusMaster) : (s.setBus b).link = s.link := rfl

/-- A take, as the change of a POLL reply's entry. -/
def State.keyTaken (n : SlotNo) (c : ChanNo) (x : Booking) (now : Nat) (s : State) : State :=
  ((s.emptiedUncounted n).outAt x now).withChan c (.closing n x.number .taken)

theorem keyTaken_change (u : UnitIx) (n : SlotNo) (c : ChanNo) (x : Booking) (now : Nat) : EntryChange u (State.keyTaken n c x now) where
  form t := by rw [State.keyTaken, withChan_form, outAt_form, emptiedUncounted_form]; rfl
  state _ := rfl
  resync _ _ := rfl

theorem keyTaken_granted {s : State} {c : ChanNo} (busy : s.chan c ≠ .free) (granted : s.granted) (n : SlotNo) (x : Booking) (now : Nat) :
    (s.keyTaken n c x now).granted :=
  granted_withChan (x := .closing n x.number .taken) busy Channel.noConfusion granted rfl

/-- A take up to its report: the slot emptied, the booking OUT, the CLOSE asked for. -/
def State.takeClosed (s : State) (n : SlotNo) (c : ChanNo) (b : Nat) (close : State → State) : State :=
  close ((s.emptySlot n).takenOut c n b)

section
variable {s : State} {n : SlotNo} {c : ChanNo} {x : Booking} {now : Nat} {close : State → State}

theorem takeClosed_tables (onBus : ∀ t : State, ∃ bus : BusMaster, close t = t.setBus bus) (found : s.booking? x.number = some x)
    (time : s.time = some now) : (s.takeClosed n c x.number close).tables = (s.keyTaken n c x now).tables := by
  obtain ⟨bus, closed⟩ := onBus ((s.emptySlot n).takenOut c n x.number)
  have known : ∃ y : Booking, (s.emptySlot n).booking? x.number = some y ∧ y.bare = x.bare :=
    booking?_some_congr (emptySlot_tables s n) found
  have clock : (s.emptySlot n).time = some now :=
    show (s.emptySlot n).tables.time = some now by rw [emptySlot_tables]; exact time
  rw [State.takeClosed, closed, setBus_tables, takenOut_tables known clock, withChan_form, outAt_form, emptySlot_tables, ← outAt_form,
    ← withChan_form]
  rfl

theorem takeClosed_kiosk (onBus : ∀ t : State, ∃ bus : BusMaster, close t = t.setBus bus) :
    (s.takeClosed n c x.number close).kiosk = s.kiosk := by
  obtain ⟨bus, closed⟩ := onBus ((s.emptySlot n).takenOut c n x.number)
  rw [State.takeClosed, closed, setBus_kiosk, (takenOut_ports _ _ _ _).1, (emptySlot_ports s n).1]

theorem takeClosed_held (onBus : ∀ t : State, ∃ bus : BusMaster, close t = t.setBus bus) (busy : s.linkBusy) :
    (s.takeClosed n c x.number close).link.tx ≠ .idle := by
  obtain ⟨bus, closed⟩ := onBus ((s.emptySlot n).takenOut c n x.number)
  have calm : Calm s ((s.emptySlot n).takenOut c n x.number) :=
    (emptySlot_calm s n).trans ((setPhase_calm _ _ _).trans (toOut_calm _ _))
  rw [State.takeClosed, closed, setBus_link, (calm.held (linkBusy_sends busy)).1]
  exact linkBusy_sends busy

end

/-! ### The end of a POLL reply with one entry -/

theorem kiosk_chosen (s : State) (u : UnitIx) (f : UnitRec → UnitRec) : (s.withUnit u f).chooseCommand.kiosk = s.kiosk :=
  (chooseCommand_kept (s.withUnit u f)).1

theorem asked_chosen {s : State} {n : SlotNo} {dir : LatchDir} {c : Option ChanNo} (asked : s.latchAsked n dir c) (u : UnitIx)
    (f : UnitRec → UnitRec) : (s.withUnit u f).chooseCommand.latchAsked n dir c :=
  latchAsked_chooseCommand (s := s.withUnit u f) asked

theorem latch_chosen {s : State} {l : LatchCmd} (waits : l ∈ s.bus.latches) (u : UnitIx) (f : UnitRec → UnitRec) :
    l ∈ (s.withUnit u f).chooseCommand.bus.latches
      ∨ ∃ g : Flight, (s.withUnit u f).chooseCommand.bus.flight = some g ∧ g.cmd = .latch l :=
  latch_chooseCommand (s := s.withUnit u f) (Or.inl waits)

theorem latches_chosen (s : State) (u : UnitIx) (f : UnitRec → UnitRec) :
    ∀ l ∈ (s.withUnit u f).chooseCommand.bus.latches, l ∈ s.bus.latches := chooseCommand_latches (s.withUnit u f)

section
variable {s : State} {addr : Byte} {m : ModIx} {payload : List Byte} {p : Fin 16} {latch overflow : Bool} {c : ChanNo}

/-- A POLL reply whose one entry is a removal from a HELD slot with a channel comes to the work on the channel. -/
theorem moduleEntry_channel (awaits : s.awaits (modUnit m) .poll addr) (held : (s.slot (slotAt m p)).occ = .held)
    (channel : (s.slot (slotAt m p)).channel = some c) :
    (s.landed (modUnit m)).moduleEntry m { pos := p, change := .removed, latchOpen := latch } =
      ((s.landed (modUnit m)).emptySlot (slotAt m p)).removalOnChannel c (slotAt m p) (some latch) fun t =>
        t.classify (slotAt m p) (s.slot (slotAt m p)).tag (some latch) :=
  (moduleEntry_removed (s := s.landed (modUnit m)) (awaits_slotOnline awaits nofun p) held).trans
    (removal_channel (s := s.landed (modUnit m)) channel _)

/-- A take, from the entry to what the bus does next. -/
theorem pollReply_taken {x : Booking} {now : Nat} {close : State → State} (awaits : s.awaits (modUnit m) .poll addr)
    (read : readPoll readModuleEntry payload = some { overflow, entries := [{ pos := p, change := .removed, latchOpen := latch }] })
    (held : (s.slot (slotAt m p)).occ = .held) (channel : (s.slot (slotAt m p)).channel = some c) (granted : s.granted)
    (busy : s.chan c ≠ .free) (found : s.booking? x.number = some x) (time : s.time = some now)
    (onBus : ∀ t : State, ∃ bus : BusMaster, close t = t.setBus bus)
    (takes : ∀ back : State → State, ((s.landed (modUnit m)).emptySlot (slotAt m p)).removalOnChannel c (slotAt m p) (some latch) back
      = ((s.landed (modUnit m)).emptySlot (slotAt m p)).take c (slotAt m p) x.number close) :
    ∃ t : State, exec (.pollReply addr payload) s = .next t
      ∧ t.tables = ((s.withUnit (modUnit m) (UnitRec.polled overflow)).keyTaken (slotAt m p) c x now).tables
      ∧ (s.linkBusy → t.lastReport = some (.releaseTaken { booking := x.number, slot := slotAt m p, key := some x.key } c x.source
        (some now)))
      ∧ s.tells t x.source x.number .taken
      ∧ (∀ dir o, (close (((s.landed (modUnit m)).emptySlot (slotAt m p)).takenOut c (slotAt m p) x.number)).latchAsked (slotAt m p)
        dir o → t.latchAsked (slotAt m p) dir o)
      ∧ (∀ l ∈ (close (((s.landed (modUnit m)).emptySlot (slotAt m p)).takenOut c (slotAt m p) x.number)).bus.latches,
        l ∈ t.bus.latches ∨ ∃ f : Flight, t.bus.flight = some f ∧ f.cmd = .latch l)
      ∧ ∀ l ∈ t.bus.latches, l ∈ (close (((s.landed (modUnit m)).emptySlot (slotAt m p)).takenOut c (slotAt m p) x.number)).bus.latches
      := by
  have empty := emptySlot_tables (s.landed (modUnit m)) (slotAt m p)
  have info : ((s.landed (modUnit m)).emptySlot (slotAt m p)).relInfo x.number (slotAt m p)
      = { booking := x.number, slot := slotAt m p, key := some x.key } :=
    (relInfo_congr empty _ _).trans (relInfo_found (s := s) found _).1
  have source : ((s.landed (modUnit m)).emptySlot (slotAt m p)).sourceOf x.number = x.source :=
    (sourceOf_congr empty _).trans (relInfo_found (s := s) found (slotAt m p)).2
  have clock : ((s.landed (modUnit m)).emptySlot (slotAt m p)).time = some now :=
    show ((s.landed (modUnit m)).emptySlot (slotAt m p)).tables.time = some now by rw [empty]; exact time
  have entry := (moduleEntry_channel (latch := latch) awaits held channel).trans (takes _)
  rw [take_eq, info, source, clock] at entry
  have comes := takeClosed_tables (s := s.landed (modUnit m)) (n := slotAt m p) (c := c) onBus found time
  rw [← told_tables _ (.releaseTaken { booking := x.number, slot := slotAt m p, key := some x.key } c x.source (some now)) x.source
    x.number .taken] at comes
  have stays : ((s.landed (modUnit m)).keyTaken (slotAt m p) c x now).granted :=
    keyTaken_granted (s := s.landed (modUnit m)) busy granted _ _ _
  obtain ⟨next, tables⟩ := pollReply_makes (keyTaken_change (modUnit m) (slotAt m p) c x now) awaits read entry comes stays
  refine ⟨_, next, tables, fun sends => ?_, ?_, fun dir o asked => ?_, fun l waits => ?_, fun l waits => ?_⟩
  · rw [lastReport_chosen]
    exact told_lastReport _ _ _ _ _ (takeClosed_held (s := s.landed (modUnit m)) onBus sends)
  · exact tells_congr (kiosk_chosen _ _ _) (told_tells (takeClosed_kiosk (s := s.landed (modUnit m)) onBus) _ _ _ _)
  · exact asked_chosen (latchAsked_congr (told_bus _ _ _ _ _) asked) _ _
  · refine latch_chosen ?_ _ _
    rw [told_bus]
    exact waits
  · have there := latches_chosen _ _ _ l waits
    rwa [told_bus] at there

end

/-! ### The CLOSE of a take -/

theorem keyTaken_slotOnline (s : State) (n : SlotNo) (c : ChanNo) (x : Booking) (now : Nat) (k : SlotNo) :
    (s.keyTaken n c x now).slotOnline k = s.slotOnline k := rfl

theorem addLatch_onBus (n : SlotNo) (c : ChanNo) (t : State) : ∃ bus : BusMaster, t.addLatch n .closeIt (some c) = t.setBus bus :=
  addLatch_kept t n .closeIt (some c)

theorem closeForOpen_onBus (n : SlotNo) (c : ChanNo) (t : State) : ∃ bus : BusMaster, t.closeForOpen n c = t.setBus bus := by
  unfold State.closeForOpen
  dsimp only
  split
  · exact ⟨_, rfl⟩
  · exact addLatch_kept t n .closeIt (some c)

theorem closeForOpen_asked {s : State} {n : SlotNo} (online : s.slotOnline n = true) (c : ChanNo) :
    (s.closeForOpen n c).latchAsked n .closeIt (some c) := by
  by_cases waits : s.bus.latches.any (fun l => l.channel == some c && l.dir == .openIt) = true
  · obtain ⟨l, there, both⟩ := List.any_eq_true.mp waits
    obtain ⟨channel, dir⟩ := Bool.and_eq_true_iff.mp both
    exact ⟨_, rfl, rfl, rfl,
      Or.inl (closeForOpen_takes_the_place n c there (beq_iff_eq.mp channel) (beq_iff_eq.mp dir)).1⟩
  · unfold State.closeForOpen
    dsimp only
    rw [if_neg waits]
    exact addLatch_asked online _ _

section
variable {s : State} {n : SlotNo} {c : ChanNo} {x : Booking} {now : Nat}

theorem takenOut_slotOnline (found : s.booking? x.number = some x) (time : s.time = some now) (k : SlotNo) :
    ((s.emptySlot n).takenOut c n x.number).slotOnline k = s.slotOnline k := by
  have same := takeClosed_tables (n := n) (c := c) (close := fun t => t) (fun t => ⟨t.bus, rfl⟩) found time
  exact (slotOnline_congr same k).trans (keyTaken_slotOnline s n c x now k)

theorem takenOut_latches (s : State) (n : SlotNo) (c : ChanNo) (b : Nat) :
    ((s.emptySlot n).takenOut c n b).bus.latches = s.bus.latches := by
  rw [(takenOut_ports _ _ _ _).2, (emptySlot_ports s n).2]

end

/-! ### An opening that its key has left (R89) -/

/-- A channel freed and its booking LOADED again, before the report. -/
def State.givenUp (s : State) (c : ChanNo) (b : Nat) : State := (s.freeChannel c).toLoaded b

theorem abortChannel_opening {s : State} {c : ChanNo} {n : SlotNo} {b : Nat} (chan : s.chan c = .opening n b) (cause : AbortCause) :
    s.abortChannel c cause false =
      (s.givenUp c b).told (.releaseAborted (s.relInfo b n) (s.sourceOf b) .opening cause) (s.sourceOf b) b .aborted := by
  simp only [State.abortChannel, chan]
  rfl

/-- The records of a channel given up whose slot stays in service. -/
def State.givenBack (s : State) (c : ChanNo) (n : SlotNo) (b : Nat) : State :=
  ((s.withChan c .free).withSlot n fun r => { r with channel := none }).withBooking b fun y => { y with state := .loaded }

theorem givenBack_form (s : State) (c : ChanNo) (n : SlotNo) (b : Nat) : (s.givenBack c n b).tables = s.tables.givenBack c n b := by
  rw [State.givenBack, withBooking_form _ _ (fun y => { y with state := .loaded }) fun _ => rfl,
    withSlot_form _ _ (fun r => { r with channel := none }) fun _ => rfl, withChan_form]
  rfl

theorem givenUp_tables {s t : State} {c : ChanNo} {n : SlotNo} {b : Nat} (same : s.tables = t.tables)
    (chan : (t.chan c).slot? = some n) (serves : (t.slot n).service ≠ .quarantinePending) :
    (s.givenUp c b).tables = (t.givenBack c n b).tables := by
  have pending : (t.tables.slot n).service ≠ .quarantinePending := by rwa [tables_slot]
  rw [State.givenUp, toLoaded_form, freeChannel_form (n := n) (by rw [chan_congr same]; exact chan), same, givenBack_form]
  exact congrArg (fun u : State => u.withBooking b fun y => { y with state := .loaded }) (if_neg pending)

theorem givenUp_ports (s : State) (c : ChanNo) (b : Nat) : (s.givenUp c b).kiosk = s.kiosk ∧ (s.givenUp c b).bus = s.bus :=
  freeChannel_ports s c

theorem givenUp_link (s : State) (c : ChanNo) (b : Nat) : (s.givenUp c b).link = s.link := freeChannel_link s c

theorem setMissing_ports (s : State) (k : Nat) : (s.setMissing k).kiosk = s.kiosk ∧ (s.setMissing k).bus = s.bus := by
  unfold State.setMissing
  split
  · exact (alert_kiosk s.kiosk s.bus).raise _ _ ⟨rfl, rfl⟩
  · exact ⟨rfl, rfl⟩

theorem unexplained_ports (s : State) (n : SlotNo) (tag : Option Nat) :
    (s.unexplained n tag).kiosk = s.kiosk ∧ (s.unexplained n tag).bus = s.bus := by
  unfold State.unexplained
  split
  · exact ⟨rfl, rfl⟩
  · cases tag with
    | none => exact ⟨rfl, rfl⟩
    | some k => rw [forced_eq]; exact setMissing_ports s k

theorem unexplained_waits {bs : List ReportBody} {m : Nat} {s : State} (h : s.queued bs m) (room : m + 3 ≤ 32) (n : SlotNo)
    (tag : Option Nat) : (s.unexplained n tag).queued bs (m + 3) := by
  cases tag with
  | some k => exact unexplained_queued h room n k
  | none =>
    unfold State.unexplained
    split
    · exact queued_mono (queued_congr rfl h) (by omega)
    · exact queued_mono (queued_weaken (queued_report h (by omega) _) (List.subset_cons_self _ _)) (by omega)

/-- A key gone from an opening channel whose latch is closed: the OPEN withdrawn, the release given up, the removal classified. -/
def State.openingLost (s : State) (c : ChanNo) (n : SlotNo) (b : Nat) (tag : Option Nat) : State :=
  let shut := (s.emptySlot n).withdrawLatch c .openIt
  ((shut.givenUp c b).told (.releaseAborted (s.relInfo b n) (s.sourceOf b) .opening .keyGone) (s.sourceOf b) b .aborted).unexplained n tag

section
variable {s : State} {c : ChanNo} {n : SlotNo} {b : Nat}

theorem removal_opening_shut (channel : (s.slot n).channel = some c) (chan : s.chan c = .opening n b) :
    s.removal n (some false) = s.openingLost c n b (s.slot n).tag := by
  have same : ((s.emptySlot n).withdrawLatch c .openIt).tables = (s.emptiedUncounted n).tables := emptySlot_tables s n
  have kept : ((s.emptySlot n).withdrawLatch c .openIt).chan c = .opening n b := (chan_congr same c).trans chan
  have info : ((s.emptySlot n).withdrawLatch c .openIt).relInfo b n = s.relInfo b n := relInfo_congr same b n
  have source : ((s.emptySlot n).withdrawLatch c .openIt).sourceOf b = s.sourceOf b := sourceOf_congr same b
  rw [removal_channel channel, removalOnChannel_shut ((chan_emptySlot s n c).trans chan), abortChannel_opening kept, info, source]
  exact classify_unexplained (if_pos rfl)

theorem openingLost_tables (chan : s.chan c = .opening n b) (serves : (s.slot n).service ≠ .quarantinePending) (tag : Option Nat) :
    (s.openingLost c n b tag).tables = (((s.emptiedUncounted n).givenBack c n b).removedFrom n tag).tables := by
  have same : ((s.emptySlot n).withdrawLatch c .openIt).tables = (s.emptiedUncounted n).tables := emptySlot_tables s n
  have holds : ((s.emptiedUncounted n).chan c).slot? = some n := congrArg Channel.slot? chan
  have service : ((s.emptiedUncounted n).slot n).service ≠ .quarantinePending := by
    rw [emptiedUncounted_eq, slot_withSlot_self]
    exact serves
  rw [State.openingLost, unexplained_tables, removedFrom_form, told_tables, givenUp_tables same holds service, ← removedFrom_form]

theorem openingLost_kiosk (s : State) (c : ChanNo) (n : SlotNo) (b : Nat) (tag : Option Nat) :
    s.tells (s.openingLost c n b tag) (s.sourceOf b) b .aborted := by
  refine tells_congr (unexplained_ports _ n tag).1 (told_tells ?_ _ _ _ _)
  exact (givenUp_ports _ c b).1.trans ((setBus_kiosk _ _).trans (emptySlot_ports s n).1)

theorem openingLost_latches (s : State) (c : ChanNo) (n : SlotNo) (b : Nat) (tag : Option Nat) :
    ∀ y ∈ (s.openingLost c n b tag).bus.latches, y.channel = some c → y.dir ≠ .openIt := by
  intro y there own opens
  rw [State.openingLost, (unexplained_ports _ n tag).2, told_bus, (givenUp_ports _ c b).2] at there
  have stays := (List.mem_filter.mp there).2
  rw [own, opens] at stays
  simp at stays

theorem openingLost_queued {bs : List ReportBody} {m : Nat} (h : s.queued bs m) (room : m + 6 ≤ 32) (c : ChanNo) (n : SlotNo) (b : Nat)
    (tag : Option Nat) :
    (s.openingLost c n b tag).queued (.releaseAborted (s.relInfo b n) (s.sourceOf b) .opening .keyGone :: bs) (m + 6) := by
  have emptied : ((s.emptySlot n).withdrawLatch c .openIt).queued bs (m + 2) :=
    queued_congr (setBus_link _ _) (emptySlot_queued h (by omega) n)
  exact unexplained_waits (queued_told (queued_congr (givenUp_link _ c b) emptied) (by omega) _ _ _ _) (by omega) n tag

end

/-- An opening lost, as the change of a POLL reply's entry. -/
def State.openingGone (n : SlotNo) (c : ChanNo) (b : Nat) (tag : Option Nat) (s : State) : State :=
  ((s.emptiedUncounted n).givenBack c n b).removedFrom n tag

theorem emptiedUncounted_change (u : UnitIx) (n : SlotNo) : QuietChange u fun t => t.emptiedUncounted n where
  form t := emptiedUncounted_form t n
  state _ := rfl
  granted _ h := h
  resync _ _ := rfl

theorem givenBack_change (u : UnitIx) (c : ChanNo) (n : SlotNo) (b : Nat) : EntryChange u fun t => t.givenBack c n b where
  form t := givenBack_form t c n b
  state _ := rfl
  resync _ _ := rfl

theorem openingGone_change (u : UnitIx) (n : SlotNo) (c : ChanNo) (b : Nat) (tag : Option Nat) :
    EntryChange u (State.openingGone n c b tag) :=
  ((removedFrom_change u n tag).toEntryChange.comp (givenBack_change u c n b)).comp (emptiedUncounted_change u n).toEntryChange

theorem openingGone_granted {s : State} (empty : s.release.queue = []) (n : SlotNo) (c : ChanNo) (b : Nat) (tag : Option Nat) :
    (s.openingGone n c b tag).granted := by
  refine Or.inl ?_
  rw [State.openingGone, (removedFrom_kept _ n tag).2.2]
  exact empty

/-! ### The POLL replies -/

/-- A key gone from a slot whose channel is CLOSING, as the change of a POLL reply's entry. -/
def State.closingGone (n : SlotNo) (tag : Option Nat) (s : State) : State := (s.emptiedUncounted n).removedFrom n tag

theorem closingGone_change (u : UnitIx) (n : SlotNo) (tag : Option Nat) : QuietChange u (State.closingGone n tag) :=
  (removedFrom_change u n tag).comp (emptiedUncounted_change u n)

/-- A key taken late from such a slot. -/
def State.closingTaken (n : SlotNo) (x : Booking) (now : Nat) (s : State) : State := (s.emptiedUncounted n).takenLate x now

theorem closingTaken_change (u : UnitIx) (n : SlotNo) (x : Booking) (now : Nat) : QuietChange u (State.closingTaken n x now) :=
  (takenLate_change u x now).comp (emptiedUncounted_change u n)

/-- The removal from a slot whose channel is CLOSING is only classified. -/
theorem removal_closing {s : State} {c : ChanNo} {n m : SlotNo} {e : Nat} {why : CloseReason} (channel : (s.slot n).channel = some c)
    (chan : s.chan c = .closing m e why) (latch : Option Bool) :
    s.removal n latch = (s.emptySlot n).classify n (s.slot n).tag latch := by
  rw [removal_channel channel, removalOnChannel_closing ((chan_emptySlot s n c).trans chan)]

/-- What a take leaves behind, as the obligation spells it. -/
def State.tookKey (s t : State) (n : SlotNo) (c : ChanNo) (x : Booking) (now : Nat) : Prop :=
  t.latchAsked n .closeIt (some c)
    ∧ (s.linkBusy → t.lastReport = some (.releaseTaken { booking := x.number, slot := n, key := some x.key } c x.source (some now)))
    ∧ s.tells t x.source x.number .taken

section
variable {s : State} {addr : Byte} {m : ModIx} {payload : List Byte} {p : Fin 16} {latch overflow : Bool} {c : ChanNo} {b : Nat}

/-- The take of an OPEN channel. -/
theorem pollReply_opened {x : Booking} {d now : Nat} (awaits : s.awaits (modUnit m) .poll addr)
    (read : readPoll readModuleEntry payload = some { overflow, entries := [{ pos := p, change := .removed, latchOpen := latch }] })
    (held : (s.slot (slotAt m p)).occ = .held) (channel : (s.slot (slotAt m p)).channel = some c) (granted : s.granted)
    (chan : s.chan c = .opened (slotAt m p) x.number d) (found : s.booking? x.number = some x) (time : s.time = some now) :
    ∃ t : State, exec (.pollReply addr payload) s = .next t
      ∧ t.tables = ((s.withUnit (modUnit m) (UnitRec.polled overflow)).keyTaken (slotAt m p) c x now).tables
      ∧ s.tookKey t (slotAt m p) c x now := by
  have kept : ((s.landed (modUnit m)).emptySlot (slotAt m p)).chan c = .opened (slotAt m p) x.number d :=
    (chan_emptySlot _ _ c).trans chan
  obtain ⟨t, next, tables, report, tells, asked, -⟩ := pollReply_taken awaits read held channel granted (by rw [chan]; exact nofun)
    found time (addLatch_onBus (slotAt m p) c) fun back => removalOnChannel_opened kept _ back
  have online : ((s.landed (modUnit m)).emptySlot (slotAt m p) |>.takenOut c (slotAt m p) x.number).slotOnline (slotAt m p) = true :=
    (takenOut_slotOnline (s := s.landed (modUnit m)) found time _).trans (awaits_slotOnline awaits nofun p)
  exact ⟨t, next, tables, asked _ _ (addLatch_asked online _ _), report, tells⟩

/-- The CLOSE of a take stands in the place of the OPEN `l`, or has been sent from there (R89). -/
def State.openReplaced (t : State) (n : SlotNo) (c : ChanNo) (l : LatchCmd) : Prop :=
  (∀ y ∈ t.bus.latches, y.channel = some c → y.dir ≠ .openIt)
    ∧ ∃ y : LatchCmd, y.slot = n ∧ y.dir = .closeIt ∧ y.channel = some c ∧ y.age = l.age ∧ y.tries = 0
      ∧ (y ∈ t.bus.latches ∨ ∃ f : Flight, t.bus.flight = some f ∧ f.cmd = .latch y)

theorem takeClosed_replaced {t : State} {n : SlotNo} {x : Booking} {l : LatchCmd}
    (waits : ∀ y ∈ (((s.emptySlot n).takenOut c n x.number).closeForOpen n c).bus.latches,
      y ∈ t.bus.latches ∨ ∃ f : Flight, t.bus.flight = some f ∧ f.cmd = .latch y)
    (only : ∀ y ∈ t.bus.latches, y ∈ (((s.emptySlot n).takenOut c n x.number).closeForOpen n c).bus.latches)
    (there : l ∈ s.bus.latches) (own : l.channel = some c) (opens : l.dir = .openIt) : t.openReplaced n c l := by
  have before : l ∈ ((s.emptySlot n).takenOut c n x.number).bus.latches := (takenOut_latches s n c x.number).symm ▸ there
  obtain ⟨placed, none⟩ := closeForOpen_takes_the_place n c before own opens
  exact ⟨fun y at_ => none y (only y at_), { slot := n, dir := .closeIt, channel := some c, age := l.age, tries := 0 },
    rfl, rfl, rfl, rfl, rfl, waits _ placed⟩

/-- The take of an OPENING channel whose latch is open. -/
theorem pollReply_opening {x : Booking} {now : Nat} (awaits : s.awaits (modUnit m) .poll addr)
    (read : readPoll readModuleEntry payload = some { overflow, entries := [{ pos := p, change := .removed, latchOpen := true }] })
    (held : (s.slot (slotAt m p)).occ = .held) (channel : (s.slot (slotAt m p)).channel = some c) (granted : s.granted)
    (chan : s.chan c = .opening (slotAt m p) x.number) (found : s.booking? x.number = some x) (time : s.time = some now) :
    ∃ t : State, exec (.pollReply addr payload) s = .next t
      ∧ t.tables = ((s.withUnit (modUnit m) (UnitRec.polled overflow)).keyTaken (slotAt m p) c x now).tables
      ∧ s.tookKey t (slotAt m p) c x now
      ∧ ∀ l ∈ s.bus.latches, l.channel = some c → l.dir = .openIt → t.openReplaced (slotAt m p) c l := by
  have kept : ((s.landed (modUnit m)).emptySlot (slotAt m p)).chan c = .opening (slotAt m p) x.number :=
    (chan_emptySlot _ _ c).trans chan
  obtain ⟨t, next, tables, report, tells, asked, waits, only⟩ := pollReply_taken awaits read held channel granted
    (by rw [chan]; exact nofun) found time (closeForOpen_onBus (slotAt m p) c) fun back => removalOnChannel_opening kept back
  have online : ((s.landed (modUnit m)).emptySlot (slotAt m p) |>.takenOut c (slotAt m p) x.number).slotOnline (slotAt m p) = true :=
    (takenOut_slotOnline (s := s.landed (modUnit m)) found time _).trans (awaits_slotOnline awaits nofun p)
  exact ⟨t, next, tables, ⟨asked _ _ (closeForOpen_asked online _), report, tells⟩,
    fun l there own opens => takeClosed_replaced (s := s.landed (modUnit m)) waits only there own opens⟩

/-- The removal from an OPENING channel whose latch is closed. -/
theorem pollReply_openingShut (awaits : s.awaits (modUnit m) .poll addr)
    (read : readPoll readModuleEntry payload = some { overflow, entries := [{ pos := p, change := .removed, latchOpen := false }] })
    (held : (s.slot (slotAt m p)).occ = .held) (channel : (s.slot (slotAt m p)).channel = some c)
    (chan : s.chan c = .opening (slotAt m p) b) (empty : s.release.queue = [])
    (serves : (s.slot (slotAt m p)).service ≠ .quarantinePending) :
    ∃ t : State, exec (.pollReply addr payload) s = .next t
      ∧ t.tables = ((s.withUnit (modUnit m) (UnitRec.polled overflow)).openingGone (slotAt m p) c b (s.slot (slotAt m p)).tag).tables
      ∧ (∀ y ∈ t.bus.latches, y.channel = some c → y.dir ≠ .openIt)
      ∧ (s.linkBusy → s.link.reports.length ≤ 20 →
        .releaseAborted (s.relInfo b (slotAt m p)) (s.sourceOf b) .opening .keyGone ∈ t.link.reports.map (·.body))
      ∧ s.tells t (s.sourceOf b) b .aborted := by
  have entry := (moduleEntry_removed (s := s.landed (modUnit m)) (m := m) (p := p) (latch := false)
    (awaits_slotOnline awaits nofun p) held).trans (removal_opening_shut (s := s.landed (modUnit m)) channel chan)
  have comes := openingLost_tables (s := s.landed (modUnit m)) chan serves (s.slot (slotAt m p)).tag
  obtain ⟨next, tables⟩ := pollReply_makes (openingGone_change (modUnit m) (slotAt m p) c b _) awaits read entry comes
    (openingGone_granted (s := s.landed (modUnit m)) empty _ _ _ _)
  refine ⟨_, next, tables, fun y at_ => ?_, fun busy few => ?_, ?_⟩
  · exact openingLost_latches (s.landed (modUnit m)) c (slotAt m p) b _ y (latches_chosen _ _ _ y at_)
  · have start : (s.landed (modUnit m)).queued [] 20 := queued_start busy few
    exact queued_polled (openingLost_queued start (by omega) c (slotAt m p) b _) _ _ List.mem_cons_self
  · exact tells_congr (kiosk_chosen _ _ _) (openingLost_kiosk (s.landed (modUnit m)) c (slotAt m p) b _)

/-- The removal from a CLOSING channel's slot that is no late take. -/
theorem pollReply_closing {e : Nat} {why : CloseReason} (awaits : s.awaits (modUnit m) .poll addr)
    (read : readPoll readModuleEntry payload = some { overflow, entries := [{ pos := p, change := .removed, latchOpen := latch }] })
    (held : (s.slot (slotAt m p)).occ = .held) (channel : (s.slot (slotAt m p)).channel = some c) (granted : s.granted)
    (chan : s.chan c = .closing (slotAt m p) e why)
    (late : s.lateFor (slotAt m p) (s.slot (slotAt m p)).tag (some latch) = none) :
    Makes s (.pollReply addr payload)
      ((s.withUnit (modUnit m) (UnitRec.polled overflow)).closingGone (slotAt m p) (s.slot (slotAt m p)).tag) := by
  have entry := (moduleEntry_removed (s := s.landed (modUnit m)) (m := m) (p := p) (latch := latch)
    (awaits_slotOnline awaits nofun p) held).trans (removal_closing (s := s.landed (modUnit m)) channel chan _)
  have none := (lateFor_emptied (s.landed (modUnit m)) (slotAt m p) (s.slot (slotAt m p)).tag (some latch)).trans late
  have comes : (((s.landed (modUnit m)).emptySlot (slotAt m p)).classify (slotAt m p) (s.slot (slotAt m p)).tag (some latch)).tables
      = ((s.landed (modUnit m)).closingGone (slotAt m p) (s.slot (slotAt m p)).tag).tables := by
    rw [classify_unexplained none, unexplained_tables, removedFrom_form, emptySlot_tables, ← removedFrom_form]
    rfl
  have change := closingGone_change (modUnit m) (slotAt m p) (s.slot (slotAt m p)).tag
  obtain ⟨next, tables⟩ := pollReply_makes change.toEntryChange awaits read entry comes (change.granted (s.landed (modUnit m)) granted)
  exact ⟨_, next, tables⟩

/-- A late take from a CLOSING channel's slot. -/
theorem pollReply_closingLate {e now : Nat} {why : CloseReason} {x : Booking} (awaits : s.awaits (modUnit m) .poll addr)
    (read : readPoll readModuleEntry payload = some { overflow, entries := [{ pos := p, change := .removed, latchOpen := true }] })
    (held : (s.slot (slotAt m p)).occ = .held) (channel : (s.slot (slotAt m p)).channel = some c) (granted : s.granted)
    (chan : s.chan c = .closing (slotAt m p) e why) (release : (s.slot (slotAt m p)).lastRelease = some b)
    (found : s.booking? b = some x) (loaded : x.state = .loaded) (tag : (s.slot (slotAt m p)).tag = some x.key)
    (empty : s.release.queue = []) (time : s.time = some now) :
    Makes s (.pollReply addr payload) ((s.withUnit (modUnit m) (UnitRec.polled overflow)).closingTaken (slotAt m p) x now) := by
  have entry := (moduleEntry_removed (s := s.landed (modUnit m)) (m := m) (p := p) (latch := true)
    (awaits_slotOnline awaits nofun p) held).trans (removal_closing (s := s.landed (modUnit m)) channel chan _)
  rw [show ((s.landed (modUnit m)).slot (slotAt m p)).tag = some x.key from tag] at entry
  have last : (((s.landed (modUnit m)).emptiedUncounted (slotAt m p)).slot (slotAt m p)).lastRelease = some b := by
    rw [emptiedUncounted_eq, slot_withSlot_self]
    exact release
  have comes := classify_late_tables (latch := some true) (emptySlot_tables (s.landed (modUnit m)) (slotAt m p)) nofun last found loaded
    empty time
  have change := closingTaken_change (modUnit m) (slotAt m p) x now
  obtain ⟨next, tables⟩ := pollReply_makes change.toEntryChange awaits read entry comes (change.granted (s.landed (modUnit m)) granted)
  exact ⟨_, next, tables⟩

end

theorem keyTaken_eq (s : State) (n : SlotNo) (c : ChanNo) (x : Booking) (now : Nat) :
    s.keyTaken n c x now =
      { ((s.emptiedUncounted n).withBooking x.number fun y =>
          { y with state := .out, taken := some now, stage := some (x.stageAt now) }).withChan c (.closing n x.number .taken) with
        dueList := match x.nextDeadline (x.stageAt now) with
          | some e => insertBy DueEntry.before { deadline := e, booking := x.number } (s.dueList.filter fun e => e.booking != x.number)
          | none => s.dueList.filter fun e => e.booking != x.number } := by
  unfold State.keyTaken State.outAt dueAfter
  cases x.nextDeadline (x.stageAt now) <;> rfl

/-- Settles O49: by the channel's phase, a take, an opening lost, or a removal that is only classified. -/
theorem aRemovalFromAChannelsSlotGoesByItsPhase : Obligations.ARemovalFromAChannelsSlotGoesByItsPhase := by
  intro s addr m payload p latch overflow c b now x awaits read n held channel granted st others emptied source info isTake
  have spelled := keyTaken_eq (s.withUnit (modUnit m) (UnitRec.polled overflow)) n c x now
  refine ⟨?_, ?_, ?_, ?_⟩
  · intro d chan time found
    obtain rfl := booking?_number_eq found
    obtain ⟨t, next, tables, asked, report, tells⟩ := pollReply_opened awaits read held channel granted chan found time
    exact ⟨t, next, by rw [tables, spelled]; rfl, asked, report, tells⟩
  · intro chan open_ time found
    obtain rfl := booking?_number_eq found
    subst open_
    obtain ⟨t, next, tables, ⟨asked, report, tells⟩, placed⟩ := pollReply_opening awaits read held channel granted chan found time
    exact ⟨t, next, ⟨by rw [tables, spelled]; rfl, asked, report, tells⟩, placed⟩
  · intro chan shut found empty serves
    subst shut
    obtain ⟨t, next, tables, latches, report, tells⟩ := pollReply_openingShut awaits read held channel chan empty serves
    obtain ⟨known, own⟩ := relInfo_found found n
    rw [known, own] at report
    rw [own] at tells
    exact ⟨t, next, tables, latches, report, tells⟩
  · intro e why chan
    refine ⟨fun notLate => ?_, fun open_ release found loaded tag empty time => ?_⟩
    · refine pollReply_closing awaits read held channel granted chan ?_
      by_cases shut : latch = false
      · exact if_pos (congrArg some shut)
      · refine (if_neg fun same => shut (Option.some.inj same)).trans (Option.eq_none_iff_forall_ne_some.mpr fun b late => ?_)
        obtain ⟨y, release, found, loaded, key⟩ := lateBooking_iff.mp late
        exact notLate b y (Bool.not_eq_false _ ▸ shut) release found ⟨loaded, key⟩
    · subst open_
      exact pollReply_closingLate awaits read held channel granted chan release found loaded tag empty time

end Sys2Proof.Machine
end

section
/-! SUPPORT. A LATCH reply (R45 to R49, R84, R91, R92): its class, the channel it moves, the slot it takes out of service. -/

namespace Sys2Proof.Machine

/-! ### The class of a reply (R45) -/

/-- The fault kind a LATCH reply that is a fault stands for. -/
def LatchReply.kind (r : LatchReply) : FaultKind :=
  match r.coil with
  | .openCoil => .coilOpen
  | .shortCoil => .coilShort
  | .normal => .latchJammed

theorem latchClass_fault {r : LatchReply} (faulty : r.coil ≠ .normal ∨ r.travel = 255) (limit : Nat) (dir : LatchDir) :
    latchClass limit dir r = .fault r.kind := by
  unfold latchClass LatchReply.kind
  cases coil : r.coil with
  | openCoil => rfl
  | shortCoil => rfl
  | normal => exact if_pos (faulty.resolve_left fun other => other coil)

theorem latchClass_close {r : LatchReply} (coil : r.coil = .normal) (moved : r.travel ≠ 255) (limit : Nat) :
    latchClass limit .closeIt r = .good := by
  simp only [latchClass, coil, if_neg moved]

theorem latchClass_open {r : LatchReply} (coil : r.coil = .normal) (moved : r.travel ≠ 255) (limit : Nat) :
    latchClass limit .openIt r = if limit < r.travel then .slow else .good := by
  simp only [latchClass, coil, if_neg moved]

/-- A fault set with the fault of a LATCH reply joined, as the obligation spells it. -/
def LatchReply.joined (r : LatchReply) (f : FaultSet) : FaultSet :=
  { f with
    coilOpen := f.coilOpen || r.coil == .openCoil, coilShort := f.coilShort || r.coil == .shortCoil
    latchJammed := f.latchJammed || r.coil == .normal }

theorem joinFault_kind (r : LatchReply) : joinFault (some r.kind) = r.joined := by
  funext f
  unfold LatchReply.kind LatchReply.joined
  cases coil : r.coil <;> simp [joinFault, FaultSet.add]

/-! ### The channel a reply belongs to -/

section
variable {s : State} {l : LatchCmd} {c : ChanNo} {b : Nat}

theorem chanHolds_of (own : l.channel = some c) (holds : (s.chan c).slot? = some l.slot) : s.chanHolds l = some c := by
  simp only [State.chanHolds, own, holds, if_true]

theorem latchBooking_of (own : l.channel = some c) (holds : (s.chan c).slot? = some l.slot) (named : (s.chan c).booking? = some b) :
    s.latchBooking l = some b := by
  simp only [State.latchBooking, chanHolds_of own holds, named]

end

/-! ### What a reply comes to -/

section
variable {s : State} {l : LatchCmd} {r : LatchReply} {c : ChanNo} {b : Nat} {why : CloseReason}

theorem openReply_good (own : l.channel = some c) (chan : s.chan c = .opening l.slot b)
    (good : latchClass s.params.slowLatch .openIt r = .good) : s.openReply l r = s.openChannel c l.slot b r.travel := by
  simp only [State.openReply, State.openReplyChannel, good, chanHolds_of own (by rw [chan]; rfl), chan]

theorem openReply_slow (own : l.channel = some c) (chan : s.chan c = .opening l.slot b)
    (slow : latchClass s.params.slowLatch .openIt r = .slow) :
    s.openReply l r = (s.openChannel c l.slot b r.travel).slowOpen l.slot (some b) r.travel := by
  simp only [State.openReply, State.openReplyChannel, slow, chanHolds_of own (by rw [chan]; rfl), chan,
    latchBooking_of own (by rw [chan]; rfl) (by rw [chan]; rfl : (s.chan c).booking? = some b)]

theorem openReply_fault {k : FaultKind} (own : l.channel = some c) (chan : s.chan c = .opening l.slot b)
    (fault : latchClass s.params.slowLatch .openIt r = .fault k) :
    s.openReply l r = (s.abortChannel c .latchFault true).latchFault l.slot (some b) k r.travel .openIt := by
  simp only [State.openReply, State.openReplyChannel, fault, chanHolds_of own (by rw [chan]; rfl), chan,
    latchBooking_of own (by rw [chan]; rfl) (by rw [chan]; rfl : (s.chan c).booking? = some b)]

theorem openReply_closing_good (own : l.channel = some c) (chan : s.chan c = .closing l.slot b why)
    (good : latchClass s.params.slowLatch .openIt r = .good) : s.openReply l r = s := by
  simp only [State.openReply, State.openReplyChannel, good, chanHolds_of own (by rw [chan]; rfl), chan]

theorem openReply_closing_slow (own : l.channel = some c) (chan : s.chan c = .closing l.slot b why)
    (slow : latchClass s.params.slowLatch .openIt r = .slow) : s.openReply l r = s.slowOpen l.slot (some b) r.travel := by
  simp only [State.openReply, State.openReplyChannel, slow, chanHolds_of own (by rw [chan]; rfl), chan,
    latchBooking_of own (by rw [chan]; rfl) (by rw [chan]; rfl : (s.chan c).booking? = some b)]

theorem openReply_closing_fault {k : FaultKind} (own : l.channel = some c) (chan : s.chan c = .closing l.slot b why)
    (fault : latchClass s.params.slowLatch .openIt r = .fault k) :
    s.openReply l r = ((s.withdrawLatch c .closeIt).freeChannel c).latchFault l.slot (some b) k r.travel .openIt := by
  simp only [State.openReply, State.openReplyChannel, fault, chanHolds_of own (by rw [chan]; rfl), chan,
    latchBooking_of own (by rw [chan]; rfl) (by rw [chan]; rfl : (s.chan c).booking? = some b)]

theorem closeReply_good (own : l.channel = some c) (chan : s.chan c = .closing l.slot b why)
    (good : latchClass s.params.slowLatch .closeIt r = .good) : s.closeReply l r = s.freeChannel c := by
  simp only [State.closeReply, good, chanHolds_of own (by rw [chan]; rfl), chan]

theorem closeReply_fault {k : FaultKind} (own : l.channel = some c) (chan : s.chan c = .closing l.slot b why)
    (fault : latchClass s.params.slowLatch .closeIt r = .fault k) :
    s.closeReply l r = (s.freeChannel c).latchFault l.slot (some b) k r.travel .closeIt := by
  simp only [State.closeReply, fault, chanHolds_of own (by rw [chan]; rfl), chan,
    latchBooking_of own (by rw [chan]; rfl) (by rw [chan]; rfl : (s.chan c).booking? = some b)]

/-! ### The delivery -/

/-- A module that does not come to its sixteenth slot out of service is not retired. -/
theorem retireIfRisen_not_full {s : State} {m : ModIx} {before : Nat} (risen : (s.unit (modUnit m)).quarantined < 16
    ∨ (s.unit (modUnit m)).quarantined = before) : s.retireIfRisen m before = s := by
  refine if_neg fun full => ?_
  rw [State.fullNow, Bool.and_eq_true, decide_eq_true_eq, decide_eq_true_eq, Config.moduleSlots] at full
  omega

theorem deliverLatch_stray (stray : l.channel = none) : s.deliverLatch l r = s := by
  simp only [State.deliverLatch, stray]

theorem deliverLatch_kept {t : State} (own : l.channel = some c) (dir : l.dir = .openIt)
    (keeps : (latchClass s.params.slowLatch .openIt r).keeps = true) (comes : s.openReply l r = t)
    (still : (t.unit (modUnit (moduleOf l.slot))).quarantined = s.quarantinedOf (moduleOf l.slot)) : s.deliverLatch l r = t := by
  simp only [State.deliverLatch, own, dir, keeps, if_true, comes, retireIfRisen_not_full (Or.inr still)]

theorem deliverLatch_open_freed {t : State} (own : l.channel = some c) (dir : l.dir = .openIt)
    (frees : (latchClass s.params.slowLatch .openIt r).keeps = false) (comes : s.openReply l r = t)
    (below : (t.unit (modUnit (moduleOf l.slot))).quarantined < 16) (granted : t.granted) : s.deliverLatch l r = t := by
  simp only [State.deliverLatch, own, dir, frees, comes, retireIfRisen_not_full (Or.inl below), Bool.false_eq_true, if_false,
    arbiter_granted granted]

theorem deliverLatch_close {t : State} (own : l.channel = some c) (dir : l.dir = .closeIt) (comes : s.closeReply l r = t)
    (below : (t.unit (modUnit (moduleOf l.slot))).quarantined < 16) (granted : t.granted) : s.deliverLatch l r = t := by
  simp only [State.deliverLatch, own, dir, comes, retireIfRisen_not_full (Or.inl below), arbiter_granted granted]

theorem readLatchReply_latch {f : Flight} {dir : LatchDir} {payload : List Byte} (cmd : f.cmd = .latch l) (own : l.dir = dir)
    (read : readLatch payload = some r) : readLatchReply dir payload f = some fun s => s.deliverLatch l r := by
  simp only [readLatchReply, cmd, own, if_true, read]
  rfl

/-- The reply to an OPEN, once delivered. -/
theorem latchOpenReply_gives {addr : Byte} {payload : List Byte} {u : UnitIx} {t : State} (awaits : s.awaits u (.latch l) addr)
    (dir : l.dir = .openIt) (read : readLatch payload = some r) (comes : (s.landed u).deliverLatch l r = t) :
    Gives s (.latchOpenReply addr payload) t :=
  gives_reply (deliver := fun s => s.deliverLatch l r) awaits rfl (fun _ _ cmd => readLatchReply_latch cmd dir read) comes

/-- The reply to a CLOSE, once delivered. -/
theorem latchCloseReply_gives {addr : Byte} {payload : List Byte} {u : UnitIx} {t : State} (awaits : s.awaits u (.latch l) addr)
    (dir : l.dir = .closeIt) (read : readLatch payload = some r) (comes : (s.landed u).deliverLatch l r = t) :
    Gives s (.latchCloseReply addr payload) t :=
  gives_reply (deliver := fun s => s.deliverLatch l r) awaits rfl (fun _ _ cmd => readLatchReply_latch cmd dir read) comes

end

/-! ### An OPEN channel (R84) -/

section
variable (s : State) (c : ChanNo) (n : SlotNo) (b travel : Nat)

/-- The deadline of the window that opens (R84). -/
def State.windowEnd : Nat := addTime (s.time.getD 0) s.params.window

theorem openChannel_eq :
    s.openChannel c n b travel =
      (s.setPhase c (.opened n b s.windowEnd)).told (.releaseGranted (s.relInfo b n) c (s.sourceOf b) s.windowEnd travel) (s.sourceOf b) b
        (.opened n) := rfl

theorem openChannel_tables : (s.openChannel c n b travel).tables = (s.withChan c (.opened n b s.windowEnd)).tables := by
  rw [openChannel_eq, told_tables, setPhase_form, withChan_form]

theorem openChannel_tells : s.tells (s.openChannel c n b travel) (s.sourceOf b) b (.opened n) :=
  told_tells (setPhase_ports s c _).1 _ _ _ _

theorem openChannel_lastReport (busy : s.linkBusy) :
    (s.openChannel c n b travel).lastReport
      = some (.releaseGranted (s.relInfo b n) c (s.sourceOf b) s.windowEnd travel) := by
  refine told_lastReport _ _ _ _ _ ?_
  rw [setPhase_link]
  exact linkBusy_sends busy

end

/-! ### A slow open (R48) -/

/-- A slot's record after a slow open. -/
def SlotRec.slowed (r : SlotRec) : SlotRec :=
  { r with
    slow := min (r.slow + 1) 3
    service := if 2 ≤ r.slow ∧ r.service = .inService then .quarantinePending else r.service }

theorem withSlot_self_congr {s : State} {n : SlotNo} {f g : SlotRec → SlotRec} (same : f (s.slot n) = g (s.slot n)) :
    s.withSlot n f = s.withSlot n g := congrArg (fun r => s.setSlots (s.slots.set n r)) same

theorem slowOpen_tables (s : State) (n : SlotNo) (b : Option Nat) (travel : Nat) :
    (s.slowOpen n b travel).tables = s.tables.withSlot n SlotRec.slowed := by
  have third : (min ((s.slot n).slow + 1) Config.slowLimit = Config.slowLimit) = (2 ≤ (s.slot n).slow) := by
    simp only [Config.slowLimit, eq_iff_iff]
    omega
  have slots (f : SlotRec → SlotRec) (same : f (s.slot n) = (s.slot n).slowed) :
      (s.modSlotLamp n f).tables = s.tables.withSlot n SlotRec.slowed := by
    rw [modSlotLamp_tables, modSlot_eq, withSlot_self_congr same, withSlot_form _ _ SlotRec.slowed fun _ => rfl]
  unfold State.slowOpen
  dsimp only
  split
  · rw [raiseAlert_tables, State.reportFault, queueReport_tables]
    exact slots _ (by simp only [third]; rfl)
  · rw [State.reportFault, queueReport_tables]
    exact slots _ (by simp only [third]; rfl)

theorem slowOpen_kiosk (s : State) (n : SlotNo) (b : Option Nat) (travel : Nat) : (s.slowOpen n b travel).kiosk = s.kiosk := by
  have slots (f : SlotRec → SlotRec) : (s.modSlotLamp n f).kiosk = s.kiosk := (relamp_ports (s.modSlot n f) n).1
  unfold State.slowOpen
  dsimp only
  split
  · exact ((alert_kiosk _ _).raise _ _ ⟨rfl, rfl⟩).1.trans (slots _)
  · exact slots _

/-! ### A fault (R46, R47) -/

section
variable (s : State) (n : SlotNo) (b : Option Nat) (k : FaultKind) (travel : Nat) (dir : LatchDir)

/-- SLOT_FAULT of a LATCH reply. -/
def State.latchReport : ReportBody :=
  .slotFault { slot := n, booking := b, kind := k, service := .quarantined, slow := (s.slot n).slow, latch := some (travel, dir) }

theorem latchFault_eq :
    s.latchFault n b k travel dir =
      ((s.quarantine n (some k)).queueReport (s.latchReport n b k travel dir)).raiseAlert (.slot n) .slotFault := by
  obtain ⟨service, slow⟩ := quarantine_slot s n (some k)
  rw [State.latchFault, State.reportFault, service, slow]
  rfl

theorem latchFault_tables : (s.latchFault n b k travel dir).tables = s.tables.outOfService n (joinFault (some k)) := by
  rw [latchFault_eq, raiseAlert_tables, queueReport_tables, quarantine_form]

theorem latchFault_ports :
    (s.latchFault n b k travel dir).kiosk = s.kiosk ∧ (s.latchFault n b k travel dir).bus = s.bus := by
  rw [latchFault_eq]
  exact (alert_kiosk s.kiosk s.bus).raise _ _ (quarantine_ports s n (some k))

theorem latchFault_queued {bs : List ReportBody} {m : Nat} {s : State} (h : s.queued bs m) (room : m + 3 ≤ 32) :
    (s.latchFault n b k travel dir).queued (s.latchReport n b k travel dir :: bs) (m + 3) := by
  rw [latchFault_eq]
  exact queued_raise (queued_report (queued_congr (quarantine_link _ _ _) h) (by omega) _) (by omega) _ _

theorem latchFault_cls {s : State} {n : SlotNo} (enabled : (s.policyOf .slotFault).enabled = true) (fresh : s.unacked n .slotFault) :
    ((s.latchFault n b k travel dir).slot n).alert.cls = some .slotFault := by
  obtain ⟨f, fields, acked⟩ := fresh
  have before : ((s.quarantine n (some k)).queueReport (s.latchReport n b k travel dir)).alertOf (.slot n) = some f :=
    (alertOf_queueReport _ _ _).trans ((alertOf_quarantine s n _ _).trans fields)
  have policy : ((s.quarantine n (some k)).queueReport (s.latchReport n b k travel dir)).policyOf .slotFault = s.policyOf .slotFault :=
    policyOf_calm ((quarantine_calm s n _).trans (queueReport_calm _ _)) _
  rw [latchFault_eq]
  obtain ⟨g, after, cls⟩ := raiseAlert_cls before (by rw [policy]; exact enabled) acked
  exact (congrArg AlertFields.cls (Option.some.inj after)).trans cls

end

/-! ### Slots out of service -/

theorem outOfService_twice (s : State) (n : SlotNo) (f g : FaultSet → FaultSet) :
    (s.outOfService n f).outOfService n g = s.outOfService n fun x => g (f x) := by
  have service : ((s.outOfService n f).slot n).service = .quarantined := by
    rw [State.outOfService, show ((s.withSlot n _).withUnit _ _).slot n = (s.withSlot n _).slot n from rfl, slot_withSlot_self]
  rw [State.outOfService, service]
  simp only [if_true]
  rw [withUnit_id]
  exact congrArg (fun t : State => t.withUnit (modUnit (moduleOf n)) fun x =>
      { x with quarantined := if (s.slot n).service = .quarantined then x.quarantined else x.quarantined + 1 })
    (withSlot_withSlot s n (fun r => { r with service := .quarantined, faults := f r.faults })
      fun r => { r with service := .quarantined, faults := g r.faults })

/-- The slot of a freed channel out of service, whether or not its quarantine was pending. -/
theorem freed_outOfService (s : State) (c : ChanNo) (n : SlotNo) (f : FaultSet → FaultSet) :
    (s.freed c n).outOfService n f = ((s.withChan c .free).withSlot n fun r => { r with channel := none }).outOfService n f := by
  unfold State.freed
  dsimp only
  split
  · exact outOfService_twice _ n id f
  · rfl

theorem outOfService_serving {s : State} {n : SlotNo} (serves : (s.slot n).service ≠ .quarantined) (f : FaultSet → FaultSet) :
    s.outOfService n f =
      (s.withSlot n fun r => { r with service := .quarantined, faults := f r.faults }).withUnit (modUnit (moduleOf n)) fun x =>
        { x with quarantined := x.quarantined + 1 } := by
  rw [State.outOfService]
  simp only [if_neg serves]

theorem freed_below {s : State} {c : ChanNo} {n : SlotNo} (below : (s.unit (modUnit (moduleOf n))).quarantined < 15) :
    ((s.freed c n).unit (modUnit (moduleOf n))).quarantined < 16 := by
  unfold State.freed
  dsimp only
  split
  · exact lt_of_le_of_lt (quarantined_outOfService _ n id) (Nat.succ_lt_succ below)
  · exact lt_trans below (by decide)

theorem slow_freed (s : State) (c : ChanNo) (n : SlotNo) : ((s.freed c n).slot n).slow = (s.slot n).slow := by
  have unheld : (((s.withChan c .free).withSlot n fun r => { r with channel := none }).slot n).slow = (s.slot n).slow :=
    (congrArg SlotRec.slow (slot_withSlot_self (s.withChan c .free) n fun r => { r with channel := none })).trans rfl
  unfold State.freed
  dsimp only
  split
  · refine (congrArg SlotRec.slow (slot_withSlot_self ((s.withChan c .free).withSlot n fun r => { r with channel := none }) n
      fun r => { r with service := .quarantined, faults := r.faults })).trans unheld
  · exact unheld

theorem slot_afterChoice (s : State) (n : SlotNo) : s.chooseCommand.slot n = s.slot n := by
  rw [State.slot, (chooseCommand_records _).2.1]
  rfl

theorem alertOf_freeChannel_slot (s : State) (c : ChanNo) (n : SlotNo) : (s.freeChannel c).alertOf (.slot n) = s.alertOf (.slot n) := by
  unfold State.freeChannel
  split
  · rfl
  · rename_i m _
    dsimp only
    split
    · exact (alertOf_quarantine _ m none _).trans (alertOf_withSlot (f := fun r => { r with channel := none }) (s.putChan c .free) m (fun _ => rfl) _)
    · exact alertOf_modSlotLamp (s.putChan c .free) m (by intro _; rfl) _

theorem granted_of_tables {s t : State} (same : s.tables = t.tables) (empty : t.release.queue = []) : s.granted :=
  Or.inl ((congrArg ReleaseUnit.queue (release_tables same)).trans empty)

/-! ### An opening that fails (R46, R84) -/

/-- The records of a release given up for a fault of its latch. -/
def State.openFailed (s : State) (c : ChanNo) (n : SlotNo) (b : Nat) : State :=
  (s.givenUp c b).withSlot n fun r => { r with lastRelease := some b }

theorem abortChannel_opening_last {s : State} {c : ChanNo} {n : SlotNo} {b : Nat} (chan : s.chan c = .opening n b) (cause : AbortCause) :
    s.abortChannel c cause true =
      (s.openFailed c n b).told (.releaseAborted (s.relInfo b n) (s.sourceOf b) .opening cause) (s.sourceOf b) b .aborted := by
  simp only [State.abortChannel, chan]
  rfl

theorem openFailed_tables {s : State} {c : ChanNo} {n : SlotNo} {b : Nat} (chan : s.chan c = .opening n b)
    (serves : (s.slot n).service ≠ .quarantinePending) :
    (s.openFailed c n b).tables = ((s.givenBack c n b).withSlot n fun r => { r with lastRelease := some b }).tables := by
  rw [State.openFailed, withSlot_form _ _ (fun r => { r with lastRelease := some b }) fun _ => rfl,
    givenUp_tables (t := s) rfl (by rw [chan]; rfl) serves, withSlot_form _ _ (fun r => { r with lastRelease := some b }) fun _ => rfl]

section
variable (s : State) (u : UnitIx) (n : SlotNo) (b : Nat) (f : UnitRec → UnitRec) (g : SlotRec → SlotRec) (h : Booking → Booking)

theorem withUnit_withChan (c : ChanNo) (x : Channel) : (s.withUnit u f).withChan c x = (s.withChan c x).withUnit u f := rfl

theorem withSlot_kiosk : (s.withSlot n g).kiosk = s.kiosk := rfl

theorem withUnit_withSlot : (s.withUnit u f).withSlot n g = (s.withSlot n g).withUnit u f := rfl

theorem withUnit_withBooking : (s.withUnit u f).withBooking b h = (s.withBooking b h).withUnit u f := rfl

theorem withBooking_withSlot : (s.withBooking b h).withSlot n g = (s.withSlot n g).withBooking b h := rfl

end

theorem failed_form (s : State) (c : ChanNo) (n : SlotNo) (b : Nat) (f : FaultSet → FaultSet) :
    (((s.givenBack c n b).withSlot n fun r => { r with lastRelease := some b }).outOfService n f).tables
      = ((s.tables.givenBack c n b).withSlot n fun r => { r with lastRelease := some b }).outOfService n f := by
  rw [outOfService_form, withSlot_form _ _ (fun r => { r with lastRelease := some b }) fun _ => rfl, givenBack_form]

theorem openFailed_kiosk (s : State) (c : ChanNo) (n : SlotNo) (b : Nat) : (s.openFailed c n b).kiosk = s.kiosk := by
  rw [State.openFailed, withSlot_kiosk, (givenUp_ports s c b).1]

/-- What a fault of the latch leaves of an opening channel, in one record each of the slot, the booking and the unit. -/
theorem openFailed_outOfService {s : State} {n : SlotNo} (serves : (s.slot n).service = .inService) (c : ChanNo) (b : Nat)
    (f : FaultSet → FaultSet) :
    (((s.replied (modUnit (moduleOf n))).givenBack c n b).withSlot n fun r => { r with lastRelease := some b }).outOfService n f =
      (((s.withChan c .free).withSlot n fun x =>
          { x with channel := none, service := .quarantined, lastRelease := some b, faults := f x.faults }).withBooking b fun k =>
        { k with state := .loaded }).withUnit (modUnit (moduleOf n)) fun x =>
          { x with misses := 0, quarantined := x.quarantined + 1 } := by
  have kept : ((((s.replied (modUnit (moduleOf n))).givenBack c n b).withSlot n fun r => { r with lastRelease := some b }).slot n).service
      ≠ .quarantined := by
    rw [slot_withSlot_self]
    show ((((s.replied (modUnit (moduleOf n))).withChan c .free).withSlot n fun r => { r with channel := none }).slot n).service ≠ _
    rw [slot_withSlot_self]
    exact fun same => Service.noConfusion (serves.symm.trans same)
  rw [outOfService_serving kept]
  rw [State.givenBack, State.replied, withUnit_withChan, withUnit_withSlot, withUnit_withBooking, withUnit_withSlot, withUnit_withSlot,
    withBooking_withSlot, withBooking_withSlot, withSlot_withSlot, withSlot_withSlot, withUnit_withUnit]

/-- What a channel freed by a good CLOSE leaves, in one record each of the slot and the unit. -/
theorem freed_replied (s : State) (c : ChanNo) (n : SlotNo) {pending : Bool}
    (pends : pending = ((s.slot n).service == .quarantinePending)) :
    (s.replied (modUnit (moduleOf n))).freed c n =
      ((s.withChan c .free).withSlot n fun x =>
          { x with channel := none, service := if pending then .quarantined else x.service }).withUnit (modUnit (moduleOf n)) fun x =>
        { x with misses := 0, quarantined := if pending then x.quarantined + 1 else x.quarantined } := by
  have service : ((s.replied (modUnit (moduleOf n))).slot n).service = (s.slot n).service := rfl
  unfold State.freed
  rw [service]
  by_cases waits : (s.slot n).service = .quarantinePending
  · have yes : pending = true := pends.trans (beq_iff_eq.mpr waits)
    have serves : ((((s.replied (modUnit (moduleOf n))).withChan c .free).withSlot n fun r => { r with channel := none }).slot n).service
        ≠ .quarantined := by
      rw [slot_withSlot_self]
      exact fun same => Service.noConfusion (waits.symm.trans same)
    simp only [if_pos waits, yes, if_true]
    rw [outOfService_serving serves, State.replied, withUnit_withChan, withUnit_withSlot, withUnit_withSlot, withSlot_withSlot,
      withUnit_withUnit]
    rfl
  · have no : pending = false := pends.trans (beq_false_of_ne waits)
    simp only [if_neg waits, no, Bool.false_eq_true, if_false]
    rfl

/-! ### The replies, delivered -/

section
variable {s : State} {l : LatchCmd} {r : LatchReply} {c : ChanNo} {b : Nat} {why : CloseReason}

theorem deliverLatch_good (own : l.channel = some c) (dir : l.dir = .openIt) (chan : s.chan c = .opening l.slot b)
    (good : latchClass s.params.slowLatch .openIt r = .good) : s.deliverLatch l r = s.openChannel c l.slot b r.travel :=
  deliverLatch_kept own dir (by rw [good]; rfl) (openReply_good own chan good)
    ((quarantined_congr (openChannel_tables s c l.slot b r.travel) _).trans rfl)

theorem slowOpen_quarantined (s : State) (n : SlotNo) (b : Option Nat) (travel : Nat) (u : UnitIx) :
    ((s.slowOpen n b travel).unit u).quarantined = (s.unit u).quarantined := by
  have same : (s.slowOpen n b travel).tables = (s.withSlot n SlotRec.slowed).tables :=
    (slowOpen_tables s n b travel).trans (withSlot_form s n SlotRec.slowed fun _ => rfl).symm
  exact (quarantined_congr same u).trans rfl

theorem deliverLatch_slow (own : l.channel = some c) (dir : l.dir = .openIt) (chan : s.chan c = .opening l.slot b)
    (slow : latchClass s.params.slowLatch .openIt r = .slow) :
    s.deliverLatch l r = (s.openChannel c l.slot b r.travel).slowOpen l.slot (some b) r.travel :=
  deliverLatch_kept own dir (by rw [slow]; rfl) (openReply_slow own chan slow)
    ((slowOpen_quarantined _ _ _ _ _).trans ((quarantined_congr (openChannel_tables s c l.slot b r.travel) _).trans rfl))

theorem openedSlow_tables (s : State) (c : ChanNo) (n : SlotNo) (b travel : Nat) :
    ((s.openChannel c n b travel).slowOpen n (some b) travel).tables
      = ((s.withChan c (.opened n b s.windowEnd)).withSlot n SlotRec.slowed).tables := by
  rw [slowOpen_tables, openChannel_tables, withSlot_form _ _ SlotRec.slowed fun _ => rfl]

/-- An opening ended by a fault of its latch: given up, reported, and its slot out of service. -/
def State.openingFault (s : State) (c : ChanNo) (n : SlotNo) (b : Nat) (r : LatchReply) : State :=
  ((s.openFailed c n b).told (.releaseAborted (s.relInfo b n) (s.sourceOf b) .opening .latchFault) (s.sourceOf b) b .aborted).latchFault n
    (some b) r.kind r.travel .openIt

theorem openingFault_tables {n : SlotNo} (chan : s.chan c = .opening n b) (serves : (s.slot n).service ≠ .quarantinePending) :
    (s.openingFault c n b r).tables
      = (((s.givenBack c n b).withSlot n fun x => { x with lastRelease := some b }).outOfService n r.joined).tables := by
  rw [State.openingFault, latchFault_tables, told_tables, openFailed_tables chan serves, joinFault_kind, outOfService_form]

theorem openingFault_tells (s : State) (c : ChanNo) (n : SlotNo) (b : Nat) (r : LatchReply) :
    s.tells (s.openingFault c n b r) (s.sourceOf b) b .aborted := by
  have told := told_tells (openFailed_kiosk s c n b) (.releaseAborted (s.relInfo b n) (s.sourceOf b) .opening .latchFault) (s.sourceOf b)
    b .aborted
  rw [State.openingFault]
  exact tells_congr (latchFault_ports _ n (some b) r.kind r.travel .openIt).1 told

theorem givenBack_queue {s : State} (empty : s.release.queue = []) (c : ChanNo) (n : SlotNo) (b : Nat) (r : LatchReply) :
    (((s.givenBack c n b).withSlot n fun x => { x with lastRelease := some b }).outOfService n r.joined).release.queue = [] := empty

theorem deliverLatch_openingFault (own : l.channel = some c) (dir : l.dir = .openIt) (chan : s.chan c = .opening l.slot b)
    (faulty : r.coil ≠ .normal ∨ r.travel = 255) (empty : s.release.queue = [])
    (serves : (s.slot l.slot).service ≠ .quarantinePending) (below : (s.unit (modUnit (moduleOf l.slot))).quarantined < 15) :
    s.deliverLatch l r = s.openingFault c l.slot b r := by
  have class_ := latchClass_fault faulty s.params.slowLatch .openIt
  have tables := openingFault_tables (r := r) chan serves
  refine deliverLatch_open_freed own dir (by rw [class_]; rfl) ?_ ?_ (granted_of_tables tables (givenBack_queue empty c l.slot b r))
  · rw [openReply_fault own chan class_, abortChannel_opening_last chan]
    rfl
  · rw [quarantined_congr tables]
    exact lt_of_le_of_lt (quarantined_outOfService _ l.slot r.joined) (Nat.succ_lt_succ below)

theorem freeChannel_tables {n : SlotNo} (chan : s.chan c = .closing n b why) : (s.freeChannel c).tables = (s.freed c n).tables := by
  rw [freeChannel_form (n := n) (by rw [chan]; rfl), freed_form]

theorem deliverLatch_closed (own : l.channel = some c) (dir : l.dir = .closeIt) (chan : s.chan c = .closing l.slot b why)
    (good : latchClass s.params.slowLatch .closeIt r = .good) (empty : s.release.queue = [])
    (below : (s.unit (modUnit (moduleOf l.slot))).quarantined < 15) : s.deliverLatch l r = s.freeChannel c := by
  have tables := freeChannel_tables chan
  refine deliverLatch_close own dir (closeReply_good own chan good) ?_ (granted_of_tables tables ((freed_queue _ _ _).trans empty))
  rw [quarantined_congr tables]
  exact freed_below below

/-- The records of a CLOSING channel freed by a fault of its latch. -/
theorem freed_latchFault_tables {t : State} (same : t.tables = s.tables) (chan : s.chan c = .closing l.slot b why) (k : Option Nat)
    (dir : LatchDir) :
    ((t.freeChannel c).latchFault l.slot k r.kind r.travel dir).tables
      = (((s.withChan c .free).withSlot l.slot fun x => { x with channel := none }).outOfService l.slot r.joined).tables := by
  have there : t.chan c = .closing l.slot b why := (chan_congr same c).trans chan
  rw [latchFault_tables, joinFault_kind, freeChannel_tables there, freed_form, same, ← freed_form, ← outOfService_form,
    freed_outOfService]

theorem freed_latchFault_below {t : State} (same : t.tables = s.tables) (chan : s.chan c = .closing l.slot b why) (k : Option Nat)
    (dir : LatchDir) (below : (s.unit (modUnit (moduleOf l.slot))).quarantined < 15) :
    (((t.freeChannel c).latchFault l.slot k r.kind r.travel dir).unit (modUnit (moduleOf l.slot))).quarantined < 16 := by
  rw [quarantined_congr (freed_latchFault_tables same chan k dir)]
  exact lt_of_le_of_lt (quarantined_outOfService _ l.slot r.joined) (Nat.succ_lt_succ below)

theorem deliverLatch_closeFault (own : l.channel = some c) (dir : l.dir = .closeIt) (chan : s.chan c = .closing l.slot b why)
    (faulty : r.coil ≠ .normal ∨ r.travel = 255) (empty : s.release.queue = [])
    (below : (s.unit (modUnit (moduleOf l.slot))).quarantined < 15) :
    s.deliverLatch l r = (s.freeChannel c).latchFault l.slot (some b) r.kind r.travel .closeIt :=
  deliverLatch_close own dir (closeReply_fault own chan (latchClass_fault faulty s.params.slowLatch .closeIt))
    (freed_latchFault_below rfl chan _ _ below) (granted_of_tables (freed_latchFault_tables rfl chan _ _) empty)

theorem deliverLatch_closing_good (own : l.channel = some c) (dir : l.dir = .openIt) (chan : s.chan c = .closing l.slot b why)
    (good : latchClass s.params.slowLatch .openIt r = .good) : s.deliverLatch l r = s :=
  deliverLatch_kept own dir (by rw [good]; rfl) (openReply_closing_good own chan good) rfl

theorem deliverLatch_closing_slow (own : l.channel = some c) (dir : l.dir = .openIt) (chan : s.chan c = .closing l.slot b why)
    (slow : latchClass s.params.slowLatch .openIt r = .slow) : s.deliverLatch l r = s.slowOpen l.slot (some b) r.travel :=
  deliverLatch_kept own dir (by rw [slow]; rfl) (openReply_closing_slow own chan slow) (slowOpen_quarantined _ _ _ _ _)

theorem deliverLatch_closing_fault (own : l.channel = some c) (dir : l.dir = .openIt) (chan : s.chan c = .closing l.slot b why)
    (faulty : r.coil ≠ .normal ∨ r.travel = 255) (empty : s.release.queue = [])
    (below : (s.unit (modUnit (moduleOf l.slot))).quarantined < 15) :
    s.deliverLatch l r = ((s.withdrawLatch c .closeIt).freeChannel c).latchFault l.slot (some b) r.kind r.travel .openIt := by
  have class_ := latchClass_fault faulty s.params.slowLatch .openIt
  exact deliverLatch_open_freed own dir (by rw [class_]; rfl) (openReply_closing_fault own chan class_)
    (freed_latchFault_below (withdrawLatch_tables s c .closeIt) chan _ _ below)
    (granted_of_tables (freed_latchFault_tables (withdrawLatch_tables s c .closeIt) chan _ _) empty)

end

/-! ### The obligation -/

/-! The replies of R84: an OPEN for an OPENING channel. -/

section
variable {s : State} {addr : Byte} {payload : List Byte} {l : LatchCmd} {r : LatchReply} {c : ChanNo} {b now : Nat}

theorem landed_windowEnd (time : s.time = some now) (u : UnitIx) :
    (s.landed u).windowEnd = min (now + s.params.window) 4294967295 :=
  congrArg (fun t : Option Nat => addTime (t.getD 0) s.params.window) time

theorem latchOpenReply_good (awaits : s.awaits (modUnit (moduleOf l.slot)) (.latch l) addr) (read : readLatch payload = some r)
    (dir : l.dir = .openIt) (own : l.channel = some c) (chan : s.chan c = .opening l.slot b) (time : s.time = some now)
    (coil : r.coil = .normal) (moved : r.travel ≠ 255) (quick : r.travel ≤ s.params.slowLatch) :
    ∃ t : State, exec (.latchOpenReply addr payload) s = .next t
      ∧ t.tables = ((s.replied (modUnit (moduleOf l.slot))).withChan c
          (.opened l.slot b (min (now + s.params.window) 4294967295))).tables
      ∧ (s.linkBusy → t.lastReport = some (.releaseGranted (s.relInfo b l.slot) c (s.sourceOf b)
          (min (now + s.params.window) 4294967295) r.travel))
      ∧ s.tells t (s.sourceOf b) b (.opened l.slot) := by
  let w := s.landed (modUnit (moduleOf l.slot))
  have class_ := (latchClass_open coil moved s.params.slowLatch).trans (if_neg (not_lt.mpr quick))
  have tables := openChannel_tables w c l.slot b r.travel
  have report := openChannel_lastReport w c l.slot b r.travel
  rw [landed_windowEnd time] at tables report
  refine ⟨_, latchOpenReply_gives awaits dir read (deliverLatch_good (s := w) own dir chan class_), ?_, fun busy => ?_, ?_⟩
  · rw [chooseCommand_tables, tables, withChan_form, landed_tables, ← withChan_form]
  · rw [State.lastReport, (chooseCommand_link _).1]
    exact report busy
  · exact tells_congr (chooseCommand_kept _).1 (openChannel_tells w c l.slot b r.travel)

theorem latchOpenReply_slow (awaits : s.awaits (modUnit (moduleOf l.slot)) (.latch l) addr) (read : readLatch payload = some r)
    (dir : l.dir = .openIt) (own : l.channel = some c) (chan : s.chan c = .opening l.slot b) (time : s.time = some now)
    (coil : r.coil = .normal) (moved : r.travel ≠ 255) (slow : s.params.slowLatch < r.travel) :
    ∃ t : State, exec (.latchOpenReply addr payload) s = .next t
      ∧ t.tables = (((s.replied (modUnit (moduleOf l.slot))).withChan c
          (.opened l.slot b (min (now + s.params.window) 4294967295))).withSlot l.slot SlotRec.slowed).tables
      ∧ s.tells t (s.sourceOf b) b (.opened l.slot) := by
  let w := s.landed (modUnit (moduleOf l.slot))
  have class_ := (latchClass_open coil moved s.params.slowLatch).trans (if_pos slow)
  have tables := openedSlow_tables w c l.slot b r.travel
  rw [landed_windowEnd time] at tables
  refine ⟨_, latchOpenReply_gives awaits dir read (deliverLatch_slow (s := w) own dir chan class_), ?_, ?_⟩
  · rw [chooseCommand_tables, tables, withSlot_form _ _ SlotRec.slowed fun _ => rfl, withChan_form, landed_tables, ← withChan_form,
      ← withSlot_form _ _ SlotRec.slowed fun _ => rfl]
  · exact tells_congr ((chooseCommand_kept _).1.trans (slowOpen_kiosk _ _ _ _)) (openChannel_tells w c l.slot b r.travel)

theorem latchOpenReply_fault (awaits : s.awaits (modUnit (moduleOf l.slot)) (.latch l) addr) (read : readLatch payload = some r)
    (dir : l.dir = .openIt) (own : l.channel = some c) (chan : s.chan c = .opening l.slot b)
    (faulty : r.coil ≠ .normal ∨ r.travel = 255) (empty : s.release.queue = []) (serves : (s.slot l.slot).service = .inService)
    (below : (s.unit (modUnit (moduleOf l.slot))).quarantined < 15) :
    ∃ t : State, exec (.latchOpenReply addr payload) s = .next t
      ∧ t.tables =
        ((((s.replied (modUnit (moduleOf l.slot))).givenBack c l.slot b).withSlot l.slot fun x =>
          { x with lastRelease := some b }).outOfService l.slot r.joined).tables
      ∧ s.tells t (s.sourceOf b) b .aborted := by
  let w := s.landed (modUnit (moduleOf l.slot))
  have pending : (w.slot l.slot).service ≠ .quarantinePending := fun same => Service.noConfusion (serves.symm.trans same)
  have low : (w.unit (modUnit (moduleOf l.slot))).quarantined < 15 :=
    (congrArg UnitRec.quarantined (replied_unit s _)).trans_lt below
  have delivered := deliverLatch_openingFault (s := w) own dir chan faulty empty pending low
  refine ⟨_, latchOpenReply_gives awaits dir read delivered, ?_, ?_⟩
  · rw [chooseCommand_tables, openingFault_tables (s := w) chan pending, failed_form, landed_tables, ← failed_form]
  · exact tells_congr (chooseCommand_kept _).1 (openingFault_tells w c l.slot b r)

end

/-- The replies of R91: a CLOSE for a CLOSING channel. -/
theorem latchCloseReply_closing {s : State} {addr : Byte} {payload : List Byte} {l : LatchCmd} {r : LatchReply} {c : ChanNo}
    {b : Nat} {why : CloseReason} (awaits : s.awaits (modUnit (moduleOf l.slot)) (.latch l) addr) (read : readLatch payload = some r)
    (dir : l.dir = .closeIt) (own : l.channel = some c) (chan : s.chan c = .closing l.slot b why) (empty : s.release.queue = [])
    (below : (s.unit (modUnit (moduleOf l.slot))).quarantined < 15) :
    (r.coil = .normal → r.travel ≠ 255 →
        Makes s (.latchCloseReply addr payload) ((s.replied (modUnit (moduleOf l.slot))).freed c l.slot))
      ∧ (r.coil ≠ .normal ∨ r.travel = 255 →
        ∃ t : State, exec (.latchCloseReply addr payload) s = .next t
          ∧ t.tables = ((((s.replied (modUnit (moduleOf l.slot))).withChan c .free).withSlot l.slot fun x =>
              { x with channel := none }).outOfService l.slot r.joined).tables
          ∧ (s.linkBusy → s.link.reports.length ≤ 20 →
            s.latchReport l.slot (some b) r.kind r.travel .closeIt ∈ t.link.reports.map (·.body))
          ∧ ((s.policyOf .slotFault).enabled = true → (s.slot l.slot).alert.acked ≠ some .slotFault →
              (t.slot l.slot).alert.cls = some .slotFault)) := by
  let u := modUnit (moduleOf l.slot)
  have low : ((s.landed u).unit u).quarantined < 15 := (congrArg UnitRec.quarantined (replied_unit s u)).trans_lt below
  have freed := freeChannel_tables (s := s.landed u) chan
  refine ⟨fun coil moved => ?_, fun faulty => ?_⟩
  · refine ⟨_, latchCloseReply_gives awaits dir read (deliverLatch_closed (s := s.landed u) own dir chan
      (latchClass_close coil moved _) empty low), ?_⟩
    rw [chooseCommand_tables, freed, freed_form, landed_tables, ← freed_form]
  · refine ⟨_, latchCloseReply_gives awaits dir read (deliverLatch_closeFault (s := s.landed u) own dir chan faulty empty low), ?_,
      fun busy few => ?_, fun enabled fresh => ?_⟩
    · rw [chooseCommand_tables, freed_latchFault_tables (s := s.landed u) rfl chan]
      rfl
    · have start : ((s.landed u).freeChannel c).queued [] 20 := queued_congr (freeChannel_link _ c) (queued_start busy few)
      have waits := queued_chosen (latchFault_queued l.slot (some b) r.kind r.travel .closeIt start (by omega)) List.mem_cons_self
      have slow : (((s.landed u).freeChannel c).slot l.slot).slow = (s.slot l.slot).slow := by
        rw [slow_congr freed, slow_freed]
        rfl
      rwa [State.latchReport, slow] at waits
    · have unacked : ((s.landed u).freeChannel c).unacked l.slot .slotFault :=
        unacked_congr (alertOf_freeChannel_slot (s.landed u) c l.slot) ⟨_, rfl, fresh⟩
      have policy : ((s.landed u).freeChannel c).policyOf .slotFault = s.policyOf .slotFault :=
        policyOf_calm (freeChannel_calm (s.landed u) c) _
      rw [slot_afterChoice]
      exact latchFault_cls (some b) r.kind r.travel .closeIt (by rw [policy]; exact enabled) unacked

/-- The replies of R92: an OPEN for a CLOSING channel. -/
theorem latchOpenReply_closing {s : State} {addr : Byte} {payload : List Byte} {l : LatchCmd} {r : LatchReply} {c : ChanNo}
    {b : Nat} {why : CloseReason} (awaits : s.awaits (modUnit (moduleOf l.slot)) (.latch l) addr) (read : readLatch payload = some r)
    (dir : l.dir = .openIt) (own : l.channel = some c) (chan : s.chan c = .closing l.slot b why) :
    let u := modUnit (moduleOf l.slot)
    (r.coil = .normal → r.travel ≠ 255 →
        ∃ t : State, exec (.latchOpenReply addr payload) s = .next t ∧ t.kiosk = s.kiosk
          ∧ t.tables = ((s.replied u).withSlot l.slot fun x => if r.travel ≤ s.params.slowLatch then x else x.slowed).tables
          ∧ (r.travel ≤ s.params.slowLatch → t.link = s.link))
      ∧ (r.coil ≠ .normal ∨ r.travel = 255 → s.release.queue = [] → (s.unit u).quarantined < 15 →
        ∃ t : State, exec (.latchOpenReply addr payload) s = .next t ∧ t.kiosk = s.kiosk
          ∧ t.tables =
            ((((s.replied u).withChan c .free).withSlot l.slot fun x => { x with channel := none }).outOfService l.slot r.joined).tables
          ∧ ∀ y ∈ t.bus.latches, y.channel = some c → y.dir ≠ .closeIt) := by
  intro u
  refine ⟨fun coil moved => ?_, fun faulty empty below => ?_⟩
  · by_cases quick : r.travel ≤ s.params.slowLatch
    · have class_ := (latchClass_open coil moved s.params.slowLatch).trans (if_neg (not_lt.mpr quick))
      refine ⟨_, latchOpenReply_gives awaits dir read (deliverLatch_closing_good (s := s.landed u) own dir chan class_),
        (chooseCommand_kept _).1, ?_, fun _ => (chooseCommand_link _).1⟩
      simp only [if_pos quick, withSlot_id]
      rw [chooseCommand_tables, landed_tables]
    · have class_ := (latchClass_open coil moved s.params.slowLatch).trans (if_pos (not_le.mp quick))
      refine ⟨_, latchOpenReply_gives awaits dir read (deliverLatch_closing_slow (s := s.landed u) own dir chan class_),
        (chooseCommand_kept _).1.trans (slowOpen_kiosk _ _ _ _), ?_, fun fast => absurd fast quick⟩
      simp only [if_neg quick]
      rw [chooseCommand_tables, slowOpen_tables, landed_tables, withSlot_form _ _ SlotRec.slowed fun _ => rfl]
  · have low : ((s.landed u).unit u).quarantined < 15 := (congrArg UnitRec.quarantined (replied_unit s u)).trans_lt below
    refine ⟨_, latchOpenReply_gives awaits dir read
      (deliverLatch_closing_fault (s := s.landed u) own dir chan faulty empty low), ?_, ?_, fun y there own closes => ?_⟩
    · rw [(chooseCommand_kept _).1, (latchFault_ports _ _ _ _ _ _).1, (freeChannel_ports _ _).1]
      rfl
    · rw [chooseCommand_tables, freed_latchFault_tables (withdrawLatch_tables (s.landed u) c .closeIt) chan]
      rfl
    · have waits := chooseCommand_latches _ y there
      rw [(latchFault_ports _ _ _ _ _ _).2, (freeChannel_ports _ _).2] at waits
      have stays := (List.mem_filter.mp waits).2
      rw [own, closes] at stays
      simp at stays

/-- Settles O51: each reply moves its channel by the channel's phase and the reply's class. -/
theorem latchRepliesMoveTheChannel : Obligations.LatchRepliesMoveTheChannel := by
  intro s addr payload l r n u kindOf faultOf awaits read
  refine ⟨?_, ?_, ?_, ?_, ?_⟩
  · intro c b now dir own chan time
    refine ⟨latchOpenReply_good awaits read dir own chan time, latchOpenReply_slow awaits read dir own chan time,
      fun faulty empty serves below => ?_⟩
    obtain ⟨t, next, tables, tells⟩ := latchOpenReply_fault awaits read dir own chan faulty empty serves below
    exact ⟨t, next, by rw [tables, openFailed_outOfService serves]; rfl, tells⟩
  · intro c b why dir own chan coil moved empty below pending
    have made := (latchCloseReply_closing awaits read dir own chan empty below).1 coil moved
    rwa [freed_replied s c n rfl] at made
  · intro c b why dir own chan faulty empty below
    exact (latchCloseReply_closing awaits read dir own chan empty below).2 faulty
  · intro c b why dir own chan
    exact latchOpenReply_closing awaits read dir own chan
  · intro dir stray
    refine ⟨_, latchCloseReply_gives awaits dir read (deliverLatch_stray (s := s.landed u) stray), ?_⟩
    rw [chooseCommand_tables, landed_tables]

end Sys2Proof.Machine
end

section
/-! SUPPORT. A POLL reply of the chute unit with one entry (R42, R100, R104 to R106, R110): drops and the hatch. -/

namespace Sys2Proof.Machine

/-! ### The changes of the tables -/

/-- An entry recorded behind the others, and the count moved on (R100, R105). -/
def State.dropAdded (s : State) (e : DropEntry) : State :=
  { s with bin := { entries := s.bin.entries ++ [e], nextDrop := (s.bin.nextDrop + 1) % 65536 } }

theorem dropAdded_form (s : State) {e : DropEntry} (bare : e.bare = e) : (s.dropAdded e).tables = s.tables.dropAdded e := by
  have entries : (s.bin.entries ++ [e]).map DropEntry.bare = s.bin.entries.map DropEntry.bare ++ [e] := by
    rw [List.map_append, List.map_singleton, bare]
  exact congrArg (fun l : List DropEntry => { s.tables with bin := { entries := l, nextDrop := (s.bin.nextDrop + 1) % 65536 } }) entries

/-- What rests on the bin's counts judged again (R107 to R109). -/
def State.binJudged (s : State) : State := s.nearFullJudged.flapJudged

theorem binJudged_form (s : State) : s.binJudged.tables = s.tables.binJudged := by
  rw [State.binJudged, State.binJudged, flapJudged_form, nearFullJudged_form]

theorem judgeBin_tables (s : State) : s.judgeNearFull.judgeFlap.tables = s.tables.binJudged := by
  rw [judgeFlap_form, judgeNearFull_form]
  rfl

/-- A drop that closes the booking of its key (R105, R106). -/
def State.dropClosing (s : State) (e : DropEntry) (k b : Nat) : State :=
  ((((s.dropAdded e).withMissing k false).struck k).returnedAt b (.drop e.number))

theorem struck_form (s : State) (k : Nat) : (s.struck k).tables = s.tables.struck k := rfl

theorem dropClosing_form (s : State) {e : DropEntry} (bare : e.bare = e) (k b : Nat) :
    (s.dropClosing e k b).tables = s.tables.dropClosing e k b := by
  rw [State.dropClosing, returnedAt_form, struck_form, withMissing_form, dropAdded_form s bare]
  rfl

/-- The entry a drop makes. -/
def State.newDrop (s : State) (tag : Option Nat) (foreign : Bool) (booking : Option Nat) : DropEntry :=
  { number := s.bin.nextDrop, tag, foreign, state := .inBin, dropped := s.time, handed := none, age := 0, unslotted := false, booking
    alert := .clear }

/-! ### A drop as the model makes it -/

section
variable {s : State}

theorem nextFree_unused {used : List Nat} {fuel n : Nat} (unused : n ∉ used) : nextFree used fuel n = n := by
  cases fuel with
  | zero => rfl
  | succ fuel => exact if_neg unused

theorem dropNumber_unused (unused : ∀ x ∈ s.bin.entries, x.number ≠ s.bin.nextDrop) : s.dropNumber = s.bin.nextDrop := by
  refine nextFree_unused fun used => ?_
  obtain ⟨x, there, same⟩ := List.mem_map.mp used
  exact unused x there same

theorem drop_full (full : 64 ≤ s.bin.entries.length ∨ 48 ≤ s.inBinCount) (tag : Option Nat) : s.drop tag = s.dropUnrecorded tag :=
  if_pos full

theorem drop_room (room : ¬ (64 ≤ s.bin.entries.length ∨ 48 ≤ s.inBinCount)) (tag : Option Nat) : s.drop tag = s.dropRecorded tag :=
  if_neg room

theorem dropRecorded_untagged (unused : ∀ x ∈ s.bin.entries, x.number ≠ s.bin.nextDrop) :
    ∃ r : ReportBody,
      s.dropRecorded none = ((s.dropAdded (s.newDrop none false none)).queueReport r).judgeNearFull.judgeFlap := by
  rw [State.dropRecorded, dropNumber_unused unused]
  exact ⟨_, rfl⟩

/-- A drop with no tag (R105). -/
theorem dropRecorded_unread (unused : ∀ x ∈ s.bin.entries, x.number ≠ s.bin.nextDrop) :
    (s.dropRecorded none).tables = (s.dropAdded (s.newDrop none false none)).binJudged.tables := by
  obtain ⟨r, recorded⟩ := dropRecorded_untagged unused
  rw [recorded, judgeBin_tables, queueReport_tables, binJudged_form]

theorem nowhere_conflict {k : Nat} (nowhere : s.nowhere k) : s.dropConflict (some k) = false := by
  have slots : s.heldLive k none = false := heldLive_of_untagged fun n _ => nowhere.1 n
  have drops : s.dropOfKey k = none := dropOfKey_eq_none.mpr nowhere.2
  rw [State.dropConflict, slots, drops]
  rfl

theorem addDrop_nowhere {k : Nat} (nowhere : s.nowhere k) (foreign : Bool) :
    s.addDrop s.bin.nextDrop (some k) foreign = s.dropAdded (s.newDrop (some k) foreign none) :=
  clearLastSeen_of_untagged (s := s.dropAdded (s.newDrop (some k) foreign none)) fun m _ => nowhere.1 m

/-- The entry that has just been recorded names the booking it closes. -/
theorem mapDrop_added (unused : ∀ x ∈ s.bin.entries, x.number ≠ s.bin.nextDrop) (tag : Option Nat) (foreign : Bool) (b : Nat) :
    (s.dropAdded (s.newDrop tag foreign none)).mapDrop s.bin.nextDrop (fun e => { e with booking := some b })
      = s.dropAdded (s.newDrop tag foreign (some b)) := by
  have kept : s.bin.entries.map (fun e => if e.number = s.bin.nextDrop then { e with booking := some b } else e) = s.bin.entries := by
    refine (List.map_congr_left fun e there => ?_).trans (List.map_id _)
    exact if_neg (unused e there)
  have entries : (s.bin.entries ++ [s.newDrop tag foreign none]).map
      (fun e => if e.number = s.bin.nextDrop then { e with booking := some b } else e)
      = s.bin.entries ++ [s.newDrop tag foreign (some b)] := by
    rw [List.map_append, kept, List.map_singleton]
    exact congrArg (fun e => s.bin.entries ++ [e]) (if_pos rfl)
  exact congrArg (fun l : List DropEntry => s.setBin { entries := l, nextDrop := (s.bin.nextDrop + 1) % 65536 }) entries

theorem mapDrop_form (s : State) (d : Nat) {f : DropEntry → DropEntry} (number : ∀ e : DropEntry, (f e).bare = f e.bare) :
    (s.mapDrop d f).tables = s.tables.mapDrop d f := by
  have entries : (s.bin.entries.map fun e => if e.number = d then f e else e).map DropEntry.bare
      = (s.bin.entries.map DropEntry.bare).map fun e => if e.number = d then f e else e := by
    rw [List.map_map, List.map_map]
    refine List.map_congr_left fun e _ => ?_
    by_cases same : e.number = d
    · simp only [Function.comp_apply, if_pos same, if_pos (show e.bare.number = d from same), number]
    · simp only [Function.comp_apply, if_neg same, if_neg (show ¬ e.bare.number = d from same)]
  exact congrArg (fun l : List DropEntry => { s.tables with bin := { s.bin with entries := l } }) entries

/-- The state of a drop once its key is not missing and the booking it closes is RETURNED. -/
def State.dropClosed (s : State) (k : Nat) (x : Booking) : State :=
  (((s.dropAdded (s.newDrop (some k) (s.entry? k).isNone none)).clearMissing k).closeByDrop s.bin.nextDrop (some x)).strikeRemoval k

theorem dropRecorded_known {k : Nat} {x : Booking} (unused : ∀ x ∈ s.bin.entries, x.number ≠ s.bin.nextDrop) (nowhere : s.nowhere k)
    (out : ((s.dropAdded (s.newDrop (some k) (s.entry? k).isNone none)).clearMissing k).outBooking k = some x) :
    ∃ r : ReportBody,
      s.dropRecorded (some k) =
        ((((s.dropClosed k x).queueReport r).reportReturn x (.drop s.bin.nextDrop) false).dueReturn x.number).judgeNearFull.judgeFlap := by
  rw [State.dropRecorded, dropNumber_unused unused]
  simp only [nowhere_conflict nowhere, Bool.false_eq_true, if_false, Option.bind_some, addDrop_nowhere nowhere, out]
  exact ⟨_, rfl⟩

/-- The booking a drop closes, before it leaves the Due List. -/
def State.dropReturned (s : State) (k b d : Nat) : State :=
  (((s.withMissing k false).withBooking b fun x =>
      { x with
        state := .returned, returned := some { time := s.time, place := .drop d }
        lateness := s.time.map fun t => min ((t - x.due + 59) / 60) 65535 }).mapDrop d fun e => { e with booking := some b }).struck k

theorem dropClosed_tables (s : State) (k : Nat) (x : Booking) :
    (s.dropClosed k x).tables
      = ((s.dropAdded (s.newDrop (some k) (s.entry? k).isNone none)).dropReturned k x.number s.bin.nextDrop).tables := by
  let added := s.dropAdded (s.newDrop (some k) (s.entry? k).isNone none)
  have time : (added.clearMissing k).time = added.time :=
    show (added.clearMissing k).tables.time = added.time by rw [clearMissing_form]; rfl
  rw [State.dropClosed, strikeRemoval_form, State.closeByDrop, mapDrop_form _ _ (by intro _; rfl), toReturned_form, time,
    clearMissing_form, State.dropReturned, struck_form, mapDrop_form _ _ (by intro _; rfl), withBooking_form _ _ _ (by intro _; rfl),
    withMissing_form]

/-- Out of the Due List as well, it is RETURNED to the drop. -/
theorem dropReturned_undue (unused : ∀ x ∈ s.bin.entries, x.number ≠ s.bin.nextDrop) (k b : Nat) (foreign : Bool) :
    ((s.dropAdded (s.newDrop (some k) foreign none)).dropReturned k b s.bin.nextDrop).setDueList
        (s.dueList.filter fun e => e.booking != b)
      = s.dropClosing (s.newDrop (some k) foreign (some b)) k b := by
  have moved (t : State) : (t.dropReturned k b s.bin.nextDrop).setDueList (t.dueList.filter fun e => e.booking != b)
      = (((t.mapDrop s.bin.nextDrop fun e => { e with booking := some b }).withMissing k false).struck k).returnedAt b
        (.drop s.bin.nextDrop) := rfl
  refine (moved _).trans ?_
  rw [mapDrop_added unused]
  rfl

theorem setDueList_congr {s t : State} (same : s.tables = t.tables) (l : List DueEntry) :
    (s.setDueList l).tables = (t.setDueList l).tables := congrArg (fun u : State => u.setDueList l) same

theorem undue_reported (s : State) (r : ReportBody) (b : Booking) (place : Place) :
    (((s.queueReport r).reportReturn b place false).dueReturn b.number).tables
      = (s.setDueList (s.dueList.filter fun e => e.booking != b.number)).tables := dueReturn_form _ _

/-- The drop of a key whose booking is OUT. -/
theorem dropRecorded_closing {k : Nat} {b : Booking} (unused : ∀ x ∈ s.bin.entries, x.number ≠ s.bin.nextDrop) (nowhere : s.nowhere k)
    (out : s.outBooking k = some b) :
    (s.dropRecorded (some k)).tables
      = (s.dropClosing (s.newDrop (some k) (s.entry? k).isNone (some b.number)) k b.number).binJudged.tables := by
  let added := s.dropAdded (s.newDrop (some k) (s.entry? k).isNone none)
  have cleared : (added.clearMissing k).tables = (added.withMissing k false).tables :=
    (clearMissing_form added k).trans (withMissing_form added k false).symm
  have number : (added.clearMissing k).outNumber k = some b.number := by
    rw [outNumber_congr cleared]
    exact congrArg (fun o : Option Booking => o.map (·.number)) out
  obtain ⟨x, found, same⟩ := Option.map_eq_some_iff.mp number
  obtain ⟨r, recorded⟩ := dropRecorded_known unused nowhere found
  have closed := dropClosed_tables s k x
  have due : (s.dropClosed k x).dueList = s.dueList := (dueList_congr closed).trans rfl
  rw [recorded, judgeBin_tables, undue_reported, due, setDueList_congr closed, same, dropReturned_undue unused, binJudged_form]

end

/-! ### As the change of a POLL reply's entry -/

theorem flapJudged_withUnit (s : State) (u : UnitIx) (f : UnitRec → UnitRec) :
    (s.withUnit u f).flapJudged = s.flapJudged.withUnit u f := by
  rw [flapJudged_eq, flapJudged_eq, State.flapTo, State.flapTo]
  by_cases same : s.flapWanted = s.chute.wanted
  · rw [if_pos (show (s.withUnit u f).flapWanted = (s.withUnit u f).chute.wanted from same), if_pos same]
  · rw [if_neg (show ¬ (s.withUnit u f).flapWanted = (s.withUnit u f).chute.wanted from same), if_neg same]
    rfl

theorem binJudged_change (u : UnitIx) : EntryChange u State.binJudged where
  form t := binJudged_form t
  state t := by rw [State.binJudged, State.unit, (flapJudged_units _).1]; rfl
  resync t flag := (flapJudged_withUnit t.nearFullJudged u _).symm

theorem dropAdded_change (u : UnitIx) {e : DropEntry} (bare : e.bare = e) : EntryChange u fun t => t.dropAdded e where
  form t := dropAdded_form t bare
  state _ := rfl
  resync _ _ := rfl

theorem dropClosing_change (u : UnitIx) {e : DropEntry} (bare : e.bare = e) (k b : Nat) :
    EntryChange u fun t => t.dropClosing e k b where
  form t := dropClosing_form t bare k b
  state _ := rfl
  resync _ _ := rfl

theorem handedOver_change (u : UnitIx) : EntryChange u fun t => (t.hatchSet true).handedOver where
  form t := handedOver_form (t.hatchSet true)
  state t := by rw [State.unit, handedOver_eq, (flapJudged_units _).1]; rfl
  resync t flag := (flapJudged_withUnit (t.hatchSet true).binHanded.nearFullJudged u _).symm

theorem unchanged_change (u : UnitIx) : EntryChange u fun t => t where
  form _ := rfl
  state _ := rfl
  resync _ _ := rfl

theorem readPollReply_chute {f : Flight} {payload : List Byte} {p : Poll ChuteEntry} (unit : f.unit = chuteIx) (cmd : f.cmd = .poll)
    (read : readPoll readChuteEntry payload = some p) : readPollReply payload f = some fun s => s.deliverPollChute p := by
  have chute : unitMod f.unit = none := unitMod_eq_none.mpr unit
  simp only [readPollReply, cmd, chute, read]
  rfl

/-- A POLL reply of the chute unit whose one entry is the change `event` of the tables. -/
theorem chutePollReply_makes {s x : State} {addr : Byte} {payload : List Byte} {overflow : Bool} {e : ChuteEntry}
    {event : State → State} (change : EntryChange chuteIx event) (awaits : s.awaits chuteIx .poll addr)
    (read : readPoll readChuteEntry payload = some { overflow, entries := [e] }) (entry : (s.landed chuteIx).chuteEntry e = x)
    (comes : x.tables = (event (s.landed chuteIx)).tables) :
    exec (.pollReply addr payload) s = .next (x.withUnit chuteIx (UnitRec.overflow overflow)).chooseCommand
      ∧ (x.withUnit chuteIx (UnitRec.overflow overflow)).chooseCommand.tables
        = (event (s.withUnit chuteIx (UnitRec.polled overflow))).tables := by
  have landed : ((s.landed chuteIx).unit chuteIx).state = .online :=
    (congrArg UnitRec.state (replied_unit s chuteIx)).trans (awaits_online awaits nofun)
  have online : (x.unit chuteIx).state = .online := by rw [unit_state_congr comes, change.state, landed]
  have delivered : (s.landed chuteIx).deliverPollChute { overflow, entries := [e] } = x.withUnit chuteIx (UnitRec.overflow overflow) := by
    show ((s.landed chuteIx).chuteEntry e).overflowed chuteIx overflow = _
    rw [entry, overflowed_eq online]
  refine ⟨gives_reply (deliver := fun s => s.deliverPollChute { overflow, entries := [e] }) awaits rfl
    (fun f unit cmd => readPollReply_chute unit cmd read) delivered, ?_⟩
  rw [chooseCommand_tables, withUnit_form _ _ (UnitRec.overflow overflow) fun _ => rfl, comes, change.form, change.resync,
    landed_overflow, ← change.form]

section
variable {s : State} {addr : Byte} {payload : List Byte} {overflow : Bool} {e : ChuteEntry}

/-- A drop at a limit is only reported. -/
theorem chutePollReply_full {tag : Option Nat} (awaits : s.awaits chuteIx .poll addr)
    (read : readPoll readChuteEntry payload = some { overflow, entries := [e] })
    (entry : (s.landed chuteIx).chuteEntry e = (s.landed chuteIx).drop tag) (full : 64 ≤ s.bin.entries.length ∨ 48 ≤ s.inBinCount) :
    ∃ t : State, exec (.pollReply addr payload) s = .next t ∧ t.tables = (s.withUnit chuteIx (UnitRec.polled overflow)).tables
      ∧ (s.linkBusy → t.lastReport = some (.chuteDrop
        { drop := none, tag, booking := none, unread := tag.isNone, conflict := false, foreign := false, notRecorded := true
          inBin := s.inBinCount, count := s.bin.entries.length })) := by
  obtain ⟨next, tables⟩ := chutePollReply_makes (unchanged_change chuteIx) awaits read
    (entry.trans (drop_full (s := s.landed chuteIx) full tag)) rfl
  refine ⟨_, next, tables, fun busy => ?_⟩
  rw [lastReport_chosen]
  exact queueReport_lastReport _ (linkBusy_sends busy)

theorem awaits_chuteEntry (tag : Option Nat) (same : e = match tag with
      | some k => .drop k
      | none => .dropUnread) : (s.landed chuteIx).chuteEntry e = (s.landed chuteIx).drop tag := by
  subst same
  cases tag <;> rfl

end

/-- Settles O50: a drop is only reported, recorded, or closes its booking; an opened hatch hands the bin over. -/
theorem theChuteRecordsDropsAndHandsThemOver : Obligations.TheChuteRecordsDropsAndHandsThemOver := by
  intro s addr payload e overflow awaits read base full d entry
  have limits : full = true ↔ (64 ≤ s.bin.entries.length ∨ 48 ≤ s.inBinCount) := by
    simp only [full, Bool.or_eq_true, decide_eq_true_eq]
  refine ⟨fun yes tag same => chutePollReply_full awaits read (awaits_chuteEntry tag same) (limits.mp yes), fun no unused => ⟨?_, ?_⟩, ?_⟩
  · rintro rfl
    have room : ¬ (64 ≤ s.bin.entries.length ∨ 48 ≤ s.inBinCount) := fun yes => Bool.false_ne_true (no.symm.trans (limits.mpr yes))
    obtain ⟨next, tables⟩ := chutePollReply_makes
      ((binJudged_change chuteIx).comp (dropAdded_change chuteIx (e := s.newDrop none false none) rfl)) awaits read
      (drop_room (s := s.landed chuteIx) room none) (dropRecorded_unread (s := s.landed chuteIx) unused)
    exact ⟨_, next, tables⟩
  · intro k b same nowhere out
    subst same
    have room : ¬ (64 ≤ s.bin.entries.length ∨ 48 ≤ s.inBinCount) := fun yes => Bool.false_ne_true (no.symm.trans (limits.mpr yes))
    obtain ⟨next, tables⟩ := chutePollReply_makes
      ((binJudged_change chuteIx).comp (dropClosing_change chuteIx
        (e := s.newDrop (some k) (s.entry? k).isNone (some b.number)) rfl k b.number)) awaits read
      (drop_room (s := s.landed chuteIx) room (some k)) (dropRecorded_closing (s := s.landed chuteIx) unused nowhere out)
    exact ⟨_, next, tables⟩
  · intro same shut
    subst same
    have opens := seeHatch_tables (s.landed chuteIx) true
    rw [if_pos ⟨rfl, shut⟩] at opens
    obtain ⟨next, tables⟩ := chutePollReply_makes (handedOver_change chuteIx) awaits read rfl opens
    exact ⟨_, next, tables⟩

end Sys2Proof.Machine
end

section
/-! SUPPORT. The three passes of a reconciliation (R18 to R20): what a full status says of each position, the one position a pass works
on, and the restoration of the UNKNOWN slots. -/

namespace Sys2Proof.Machine

/-! ### The positions of a full status -/

theorem readMany_count {α : Type} {rd : List Byte → Option (α × List Byte)} {k : Nat} {bs rest : List Byte} {as : List α}
    (read : readMany rd k bs = some (as, rest)) : as.length = k := by
  induction k generalizing bs rest as with
  | zero => cases read; rfl
  | succ k ih =>
    simp only [readMany, Option.bind_eq_bind, Option.bind_eq_some_iff, Prod.exists, Option.some.injEq, Prod.mk.injEq] at read
    obtain ⟨a, tail, -, as', rest', more, rfl, -⟩ := read
    rw [List.length_cons, ih more]

theorem readStatus_count {m : ModIx} {bs : List Byte} {st : List SlotStatus} (read : readStatus (modUnit m) bs = some (.slots st)) :
    st.length = 16 := by
  rw [readStatus, if_neg (modUnit_ne_chute m)] at read
  obtain ⟨as, slots, same⟩ := Option.map_eq_some_iff.mp read
  cases same
  exact readMany_count (whole_eq_some slots)

theorem readProbe_count {m : ModIx} {bs : List Byte} {st : List SlotStatus} (read : readProbe (modUnit m) bs = some (.slots st)) :
    st.length = 16 := by
  simp only [readProbe, Option.bind_eq_bind, Option.bind_eq_some_iff, Prod.exists] at read
  obtain ⟨kind, tail, -, read⟩ := read
  rw [if_neg (modUnit_ne_chute m)] at read
  split at read
  · exact readStatus_count read
  · cases read

theorem positions_eq : positions = List.finRange 16 := by decide

theorem slotAt_inj {m : ModIx} {p q : Fin 16} : slotAt m p = slotAt m q ↔ p = q := by
  rw [slotAt, slotAt, Fin.mk.injEq, Fin.ext_iff]
  omega

theorem slotAt_positionOf (n : SlotNo) : slotAt (moduleOf n) (positionOf n) = n := by
  apply Fin.ext
  show 16 * (n.val / 16) + n.val % 16 = n.val
  omega

theorem positionOf_slotAt (m : ModIx) (p : Fin 16) : positionOf (slotAt m p) = p := by
  apply Fin.ext
  show (16 * m.val + p.val) % 16 = p.val
  omega

section
variable {m : ModIx} {st : List SlotStatus}

theorem mem_reported {e : SlotNo × SlotStatus} (there : e ∈ reported m st) :
    ∃ (p : Fin 16) (x : SlotStatus), st[p.val]? = some x ∧ e = (slotAt m p, x) := by
  obtain ⟨i, bound, rfl⟩ := List.mem_iff_getElem.mp there
  rw [reported, List.length_zip, List.length_map, positions_eq, List.length_finRange] at bound
  obtain ⟨low, high⟩ := Nat.lt_min.mp bound
  refine ⟨⟨i, low⟩, st[i], List.getElem?_eq_getElem high, ?_⟩
  simp only [reported, positions_eq, List.getElem_zip, List.getElem_map, List.getElem_finRange]
  rfl

theorem reported_mem {p : Fin 16} {x : SlotStatus} (at_ : st[p.val]? = some x) : (slotAt m p, x) ∈ reported m st := by
  obtain ⟨bound, here⟩ := List.getElem?_eq_some_iff.mp at_
  refine List.mem_iff_getElem.mpr ⟨p.val, ?_, ?_⟩
  · rw [reported, List.length_zip, List.length_map, positions_eq, List.length_finRange]
    exact Nat.lt_min.mpr ⟨p.isLt, bound⟩
  · simp only [reported, positions_eq, List.getElem_zip, List.getElem_map, List.getElem_finRange, here]
    rfl

theorem reported_slots (full : st.length = 16) : (reported m st).map Prod.fst = positions.map fun p => slotAt m p := by
  rw [reported, List.map_fst_zip]
  rw [List.length_map, positions_eq, List.length_finRange, full]

theorem slots_nodup (m : ModIx) : (positions.map fun p => slotAt m p).Nodup := by
  rw [positions_eq]
  exact (List.nodup_finRange 16).map fun _ _ same => slotAt_inj.mp same

/-- The plan of a position, by name. -/
def State.planAt (s : State) (st : List SlotStatus) (n : SlotNo) (seen : SlotSeen) : SlotPlan :=
  { slot := n, seen, out := removalAct st (s.slot n).countedAs seen, into := insertionAct (s.slot n).countedAs seen }

theorem plan_eq (s : State) (m : ModIx) (st : List SlotStatus) :
    s.plan m st = (reported m st).map fun e => s.planAt st e.1 e.2.seen := rfl

theorem plan_slots (s : State) (full : st.length = 16) : (s.plan m st).map SlotPlan.slot = positions.map fun p => slotAt m p := by
  rw [plan_eq, List.map_map, ← reported_slots full]
  rfl

theorem plan_nodup (s : State) (m : ModIx) (full : st.length = 16) : (s.plan m st).Nodup := by
  refine List.Nodup.of_map SlotPlan.slot ?_
  rw [plan_slots s full]
  exact slots_nodup m

theorem mem_plan {s : State} {e : SlotPlan} (there : e ∈ s.plan m st) :
    ∃ (p : Fin 16) (x : SlotStatus), st[p.val]? = some x ∧ e = s.planAt st (slotAt m p) x.seen := by
  rw [plan_eq] at there
  obtain ⟨r, reports, rfl⟩ := List.mem_map.mp there
  obtain ⟨p, x, at_, rfl⟩ := mem_reported reports
  exact ⟨p, x, at_, rfl⟩

theorem plan_mem (s : State) {p : Fin 16} {x : SlotStatus} (at_ : st[p.val]? = some x) :
    s.planAt st (slotAt m p) x.seen ∈ s.plan m st := by
  rw [plan_eq]
  exact List.mem_map.mpr ⟨_, reported_mem at_, rfl⟩

end

/-! ### A pass with one position to work on -/

theorem foldl_idle {α β : Type} {f : β → α → β} {l : List α} (idle : ∀ a ∈ l, ∀ t : β, f t a = t) (t : β) : l.foldl f t = t := by
  induction l generalizing t with
  | nil => rfl
  | cons a l ih =>
    rw [List.foldl_cons, idle a List.mem_cons_self]
    exact ih (fun b there => idle b (List.mem_cons_of_mem _ there)) t

theorem foldl_only {α β : Type} {f : β → α → β} {l : List α} {a : α} (nodup : l.Nodup) (there : a ∈ l)
    (others : ∀ b ∈ l, b ≠ a → ∀ t : β, f t b = t) (t : β) : l.foldl f t = f t a := by
  induction l generalizing t with
  | nil => cases there
  | cons b l ih =>
    obtain ⟨fresh, rest⟩ := List.nodup_cons.mp nodup
    rw [List.foldl_cons]
    by_cases same : a = b
    · subst same
      exact foldl_idle (fun c later t => others c (List.mem_cons_of_mem _ later) (fun eq => fresh (eq ▸ later)) t) _
    · rw [others b List.mem_cons_self (Ne.symm same)]
      exact ih rest ((List.mem_cons.mp there).resolve_left same)
        (fun c later => others c (List.mem_cons_of_mem _ later)) t

theorem planOut_none {e : SlotPlan} (none : e.out = .none) (t : State) : t.planOut e = t := by
  simp only [State.planOut, none, State.whileOnline, ite_self]

theorem planIn_none {e : SlotPlan} (none : e.into = .none) (t : State) : t.planIn e = t := by
  simp only [State.planIn, none, State.whileOnline, ite_self]

section
variable {w : State} {m : ModIx} {st : List SlotStatus}

theorem plan_pass {f : State → SlotPlan → State} {p : Fin 16} {x : SlotStatus} (full : st.length = 16) (at_ : st[p.val]? = some x)
    (others : ∀ (q : Fin 16) (y : SlotStatus), q ≠ p → st[q.val]? = some y → ∀ t : State, f t (w.planAt st (slotAt m q) y.seen) = t)
    (t : State) : (w.plan m st).foldl f t = f t (w.planAt st (slotAt m p) x.seen) := by
  refine foldl_only (plan_nodup w m full) (plan_mem w at_) (fun e there differs => ?_) t
  obtain ⟨q, y, atq, rfl⟩ := mem_plan there
  refine others q y (fun same => differs ?_) atq
  subst same
  rw [at_] at atq
  cases atq
  rfl

/-- Where the records and the reply agree neither pass does anything. -/
theorem agrees_acts {but : Fin 16 → Bool} {q : Fin 16} {y : SlotStatus} (agrees : w.agrees m st but) (other : but q = false)
    (at_ : st[q.val]? = some y) :
    (w.planAt st (slotAt m q) y.seen).out = .none ∧ (w.planAt st (slotAt m q) y.seen).into = .none := by
  have here := agrees q y other at_
  unfold State.planAt
  cases counted : (w.slot (slotAt m q)).countedAs with
  | empty =>
    simp only [counted] at here
    simp only [here, removalAct, insertionAct, and_self]
  | held k =>
    simp only [counted] at here
    rcases here with same | unread
    · simp only [same, removalAct, insertionAct, if_true, and_self]
    · simp only [unread, removalAct, insertionAct, and_self]
  | noTag =>
    simp only [counted] at here
    simp only [here, removalAct, insertionAct, and_self]

end

/-! ### The restoration of the UNKNOWN slots (R19) -/

/-- A slot's record once it has been restored. -/
def SlotRec.restoredAt (time : Option Nat) (r : SlotRec) : SlotRec :=
  if r.occ = .unknown then { r with occ := if r.tag = none then .empty else .held, since := time } else r

theorem restoredAt_bare (time : Option Nat) (r : SlotRec) : (r.restoredAt time).bare = r.bare.restoredAt time := by
  have occ : r.bare.occ = r.occ := rfl
  unfold SlotRec.restoredAt
  rw [occ]
  split <;> rfl

theorem restoredAt_known {r : SlotRec} (known : r.occ ≠ .unknown) (time : Option Nat) : r.restoredAt time = r := if_neg known

theorem restoredAt_tag (time : Option Nat) (r : SlotRec) : (r.restoredAt time).tag = r.tag := by
  unfold SlotRec.restoredAt
  split <;> rfl

theorem restoredAt_occ (time : Option Nat) (r : SlotRec) : (r.restoredAt time).occ ≠ .unknown := by
  unfold SlotRec.restoredAt
  split
  · dsimp only
    split <;> exact Occupancy.noConfusion
  · assumption

theorem restoredAt_twice (time : Option Nat) (r : SlotRec) : (r.restoredAt time).restoredAt time = r.restoredAt time :=
  restoredAt_known (restoredAt_occ time r) time

/-- Nothing is told of: the ports, the alerts and the bus are as they were. -/
structure Untold (s t : State) : Prop where
  link : t.link = s.link
  alerts : t.alerts = s.alerts
  kiosk : t.kiosk = s.kiosk
  bus : t.bus = s.bus

theorem Untold.refl (s : State) : Untold s s := ⟨rfl, rfl, rfl, rfl⟩

theorem Untold.trans {s t u : State} (h : Untold s t) (k : Untold t u) : Untold s u :=
  ⟨k.link.trans h.link, k.alerts.trans h.alerts, k.kiosk.trans h.kiosk, k.bus.trans h.bus⟩

theorem relamp_alerts (s : State) (n : SlotNo) : (s.relamp n).alerts = s.alerts := by
  unfold State.relamp
  split
  · rfl
  · unfold State.wantLamps
    split <;> rfl

theorem modSlotLamp_untold (s : State) (n : SlotNo) (f : SlotRec → SlotRec) : Untold s (s.modSlotLamp n f) :=
  ⟨modSlotLamp_link s n f, relamp_alerts _ n, (relamp_ports (s.modSlot n f) n).1, (relamp_ports (s.modSlot n f) n).2⟩

theorem modSlotLamp_self_congr {s : State} {n : SlotNo} {f g : SlotRec → SlotRec} (same : f (s.slot n) = g (s.slot n)) :
    s.modSlotLamp n f = s.modSlotLamp n g := congrArg (fun r => (s.putSlot n r).relamp n) same

/-- What a report has to say of a slot for its restoration: nothing of a known slot; of an UNKNOWN one its last-seen tag, which no
other record has, or an unread key in its stead, or an empty slot where it has none. -/
def State.restores (s : State) (n : SlotNo) (seen : SlotSeen) : Prop :=
  (s.slot n).occ = .unknown →
    (seen = .empty ∧ (s.slot n).tag = none)
      ∨ ∃ k : Nat, (s.slot n).tag = some k ∧ (seen = .unread ∨ seen = .tagged k ∧ ∀ j : SlotNo, j ≠ n → (s.slot j).tag ≠ some k)

theorem restore_eq {s : State} {n : SlotNo} {seen : SlotSeen} (unknown : (s.slot n).occ = .unknown) (fits : s.restores n seen) :
    s.restore n seen = s.modSlotLamp n (SlotRec.restoredAt s.time) := by
  have settles {occ : Occupancy} {tag : Option Nat} (same : (s.slot n).tag = tag)
      (becomes : occ = if tag = none then .empty else .held) : s.settle n occ tag = s.modSlotLamp n (SlotRec.restoredAt s.time) := by
    refine modSlotLamp_self_congr (f := fun r => { r with occ, tag, since := s.time }) ?_
    rw [SlotRec.restoredAt, if_pos unknown, ← same, becomes, same]
  rcases fits unknown with ⟨rfl, bare⟩ | ⟨k, tag, rfl | ⟨rfl, alone⟩⟩
  · exact settles bare rfl
  · simp only [State.restore, tag]
    exact settles tag rfl
  · have live : s.heldLive k (some n) = false :=
      heldLive_of_untagged fun j other => alone j fun same => other (congrArg some same.symm)
    simp only [State.restore, live, Bool.false_eq_true, if_false]
    exact settles tag rfl

theorem planRestore_eq {s : State} {e : SlotPlan} (online : s.slotOnline e.slot = true) (fits : s.restores e.slot e.seen) :
    s.planRestore e = if (s.slot e.slot).occ = .unknown then s.modSlotLamp e.slot (SlotRec.restoredAt s.time) else s := by
  rw [State.planRestore, State.whileOnline, if_pos online]
  split
  · rename_i unknown
    exact restore_eq unknown fits
  · rfl

theorem planRestore_tables {s : State} {e : SlotPlan} (online : s.slotOnline e.slot = true) (fits : s.restores e.slot e.seen) :
    (s.planRestore e).tables = (s.withSlot e.slot (SlotRec.restoredAt s.time)).tables ∧ Untold s (s.planRestore e) := by
  rw [planRestore_eq online fits]
  split
  · exact ⟨modSlotLamp_tables _ _ _, modSlotLamp_untold _ _ _⟩
  · rename_i known
    have kept : s.withSlot e.slot (SlotRec.restoredAt s.time) = s :=
      (withSlot_self_congr (restoredAt_known known _)).trans (withSlot_id s e.slot)
    rw [kept]
    exact ⟨rfl, Untold.refl s⟩

theorem occ_tag_congr {s t : State} (same : s.tables = t.tables) (n : SlotNo) :
    (s.slot n).occ = (t.slot n).occ ∧ (s.slot n).tag = (t.slot n).tag :=
  ⟨show (s.slot n).bare.occ = (t.slot n).bare.occ from congrArg SlotRec.occ (slot_bare same n),
    show (s.slot n).bare.tag = (t.slot n).bare.tag from congrArg SlotRec.tag (slot_bare same n)⟩

/-- A state in which the tags stand as they did, and no slot has become UNKNOWN, is restored by the same reports. -/
theorem restores_of_known {s t : State} (tags : ∀ j : SlotNo, (t.slot j).tag = (s.slot j).tag)
    (known : ∀ j : SlotNo, (t.slot j).occ = .unknown → (s.slot j).occ = .unknown) {n : SlotNo} {seen : SlotSeen}
    (fits : s.restores n seen) : t.restores n seen := by
  intro unknown
  rw [tags]
  exact (fits (known n unknown)).imp_right fun ⟨k, tag, reads⟩ =>
    ⟨k, tag, reads.imp_right fun ⟨seen, alone⟩ => ⟨seen, fun j other => tags j ▸ alone j other⟩⟩

theorem withSlot_restored (s : State) (n j : SlotNo) :
    ((s.withSlot n (SlotRec.restoredAt s.time)).slot j).tag = (s.slot j).tag
      ∧ (((s.withSlot n (SlotRec.restoredAt s.time)).slot j).occ = .unknown → (s.slot j).occ = .unknown) := by
  by_cases same : j = n
  · subst same
    rw [slot_withSlot_self]
    exact ⟨restoredAt_tag _ _, fun unknown => absurd unknown (restoredAt_occ _ _)⟩
  · rw [slot_withSlot_ne same]
    exact ⟨rfl, fun unknown => unknown⟩

theorem restore_pass {l : List SlotPlan} {s : State} (online : ∀ e ∈ l, s.slotOnline e.slot = true)
    (fits : ∀ e ∈ l, s.restores e.slot e.seen) :
    (l.foldl State.planRestore s).tables = s.tables.withSlots (l.map SlotPlan.slot) (SlotRec.restoredAt s.time)
      ∧ Untold s (l.foldl State.planRestore s) := by
  induction l generalizing s with
  | nil => exact ⟨(withSlots_nil _ _).symm, Untold.refl s⟩
  | cons e l ih =>
    obtain ⟨tables, untold⟩ := planRestore_tables (online e List.mem_cons_self) (fits e List.mem_cons_self)
    have tags (j : SlotNo) := (occ_tag_congr tables j).2.trans (withSlot_restored s e.slot j).1
    have known (j : SlotNo) (unknown : ((s.planRestore e).slot j).occ = .unknown) : (s.slot j).occ = .unknown :=
      (withSlot_restored s e.slot j).2 ((occ_tag_congr tables j).1.symm.trans unknown)
    have time : (s.planRestore e).time = s.time := show (s.planRestore e).tables.time = s.time by rw [tables]; rfl
    obtain ⟨after, quiet⟩ := ih
      (fun d later => (slotOnline_congr tables d.slot).trans (online d (List.mem_cons_of_mem _ later)))
      (fun d later => restores_of_known tags known (fits d (List.mem_cons_of_mem _ later)))
    refine ⟨?_, untold.trans quiet⟩
    rw [List.foldl_cons, after, time, tables, withSlot_form _ _ (SlotRec.restoredAt s.time) (restoredAt_bare _),
      withSlots_withSlot _ _ _ _ (restoredAt_twice _)]
    rfl

/-! ### A module restored -/

theorem mem_module_slots {m : ModIx} {n : SlotNo} : n ∈ (positions.map fun p => slotAt m p) ↔ moduleOf n = m := by
  rw [List.mem_map]
  refine ⟨fun ⟨p, _, same⟩ => same ▸ moduleOf_slotAt m p, fun own => ⟨positionOf n, ?_, ?_⟩⟩
  · rw [positions_eq]
    exact List.mem_finRange _
  · rw [← own, slotAt_positionOf]

/-- The slots of a module restored but at positions that are known. -/
theorem restored_eq {s : State} {m : ModIx} {but : Fin 16 → Bool}
    (known : ∀ q : Fin 16, but q = true → (s.slot (slotAt m q)).occ ≠ .unknown) :
    s.restored m but = s.withSlots (positions.map fun p => slotAt m p) (SlotRec.restoredAt s.time) := by
  refine congrArg s.setSlots (congrArg Vector.ofFn (funext fun n => ?_))
  simp only [mem_module_slots]
  by_cases own : moduleOf n = m
  · cases passed : but (positionOf n) with
    | true =>
      have stands : (s.slot n).occ ≠ .unknown := by
        have there := known (positionOf n) passed
        rwa [← own, slotAt_positionOf] at there
      rw [if_neg fun all => Bool.noConfusion all.2.1, if_pos own, restoredAt_known stands]
    | false =>
      rw [if_pos own, SlotRec.restoredAt]
      simp only [own, true_and]
  · rw [if_neg fun all => own all.1, if_neg own]

/-- One slot's record after its module has been restored. -/
def State.restoredSlot (s : State) (m : ModIx) (but : Fin 16 → Bool) (n : SlotNo) : SlotRec :=
  if moduleOf n = m ∧ but (positionOf n) = false ∧ (s.slot n).occ = .unknown then
    { s.slot n with occ := if (s.slot n).tag = none then .empty else .held, since := s.time }
  else s.slot n

theorem restored_eq_ofFn (s : State) (m : ModIx) (but : Fin 16 → Bool) :
    s.restored m but = s.setSlots (Vector.ofFn (s.restoredSlot m but)) := rfl

theorem setSlots_tables (s : State) (v : Vector SlotRec 384) : (s.setSlots v).tables = s.tables.setSlots (v.map SlotRec.bare) := rfl

theorem restoredSlot_bare (s : State) (m : ModIx) (but : Fin 16 → Bool) (n : SlotNo) :
    (s.restoredSlot m but n).bare = s.tables.restoredSlot m but n := by
  have occ : (s.slot n).bare.occ = (s.slot n).occ := rfl
  unfold State.restoredSlot
  rw [tables_slot, occ]
  split <;> rfl

theorem restored_form (s : State) (m : ModIx) (but : Fin 16 → Bool) : (s.restored m but).tables = s.tables.restored m but := by
  have slots : (Vector.ofFn (s.restoredSlot m but)).map SlotRec.bare = Vector.ofFn (s.tables.restoredSlot m but) := by
    ext i hi
    rw [Vector.getElem_map, Vector.getElem_ofFn, Vector.getElem_ofFn, restoredSlot_bare]
  rw [restored_eq_ofFn, restored_eq_ofFn, setSlots_tables, slots]

end Sys2Proof.Machine
end

section
/-! SUPPORT. What a reconciliation comes to where the reply and the records differ at one position, or by a move (R19, R20). -/

namespace Sys2Proof.Machine

/-! ### What an event puts at one slot -/

/-- What the passes and the restoration look at in a slot's record. -/
def SlotRec.face (r : SlotRec) : Occupancy × Option Nat × Option ChanNo × Nat := (r.occ, r.tag, r.channel, r.chatter)

theorem face_eq {a b : SlotRec} : a.face = b.face ↔ a.occ = b.occ ∧ a.tag = b.tag ∧ a.channel = b.channel ∧ a.chatter = b.chatter := by
  simp only [SlotRec.face, Prod.mk.injEq]

/-- An event on a slot: what stands there after it, its change counted once at most; the other slots and the units' states are as
they were. -/
structure Puts (w u : State) (n : SlotNo) (occ : Occupancy) (tag : Option Nat) : Prop where
  occ : (u.slot n).occ = occ
  tag : (u.slot n).tag = tag
  channel : (u.slot n).channel = (w.slot n).channel
  chatter : (u.slot n).chatter ≤ (w.slot n).chatter + 1
  others : ∀ j : SlotNo, j ≠ n → (u.slot j).face = (w.slot j).face
  states : ∀ v : UnitIx, (u.unit v).state = (w.unit v).state

section
variable {w u v : State} {n : SlotNo} {occ : Occupancy} {tag : Option Nat}

theorem SlotRec.changed_face (r : SlotRec) (time : Option Nat) :
    (r.changed time).occ = r.occ ∧ (r.changed time).tag = r.tag ∧ (r.changed time).channel = r.channel := by
  unfold SlotRec.changed SlotRec.counted
  split
  · split
    · exact ⟨rfl, rfl, rfl⟩
    · split
      · exact ⟨rfl, rfl, rfl⟩
      · split <;> exact ⟨rfl, rfl, rfl⟩
  · exact ⟨rfl, rfl, rfl⟩

/-- A change of one record, counted. -/
theorem puts_changed (w : State) (n : SlotNo) {f : SlotRec → SlotRec} (channel : ∀ r, (f r).channel = r.channel)
    (chatter : ∀ r, (f r).chatter = r.chatter) (time : Option Nat) :
    Puts w (w.withSlot n fun r => (f r).changed time) n (f (w.slot n)).occ (f (w.slot n)).tag := by
  have here : (w.withSlot n fun r => (f r).changed time).slot n = (f (w.slot n)).changed time := slot_withSlot_self _ _ _
  obtain ⟨occ, tag, chan⟩ := SlotRec.changed_face (f (w.slot n)) time
  refine ⟨by rw [here, occ], by rw [here, tag], by rw [here, chan, channel], ?_, fun j other => by rw [slot_withSlot_ne other],
    fun _ => rfl⟩
  rw [here]
  exact (SlotRec.changed_chatter _ _).trans_eq (congrArg (· + 1) (chatter _))

theorem emptied_puts (w : State) (n : SlotNo) : Puts w (w.emptied n) n .empty none :=
  puts_changed w n (f := SlotRec.vacant w.time) (fun _ => rfl) (fun _ => rfl) w.time

theorem filled_puts (w : State) (n : SlotNo) (occ : Occupancy) (tag : Option Nat) : Puts w (w.filled n occ tag) n occ tag :=
  puts_changed w n (f := SlotRec.taking occ tag w.time) (fun _ => rfl) (fun _ => rfl) w.time

/-- A HELD_NOTAG slot that has learned its tag (R13). -/
def State.learned (s : State) (n : SlotNo) (k : Nat) : State := s.withSlot n fun r => { r with occ := .held, tag := some k }

theorem learned_puts (w : State) (n : SlotNo) (k : Nat) : Puts w (w.learned n k) n .held (some k) := by
  have here : (w.learned n k).slot n = { w.slot n with occ := .held, tag := some k } := slot_withSlot_self w n _
  exact ⟨by rw [here], by rw [here], by rw [here], by rw [here]; exact Nat.le_succ _,
    fun j other => congrArg SlotRec.face (slot_withSlot_ne other w _), fun _ => rfl⟩

/-- What follows without touching a face leaves the event as it is. -/
theorem Puts.then_quiet (puts : Puts w u n occ tag) (faces : ∀ j : SlotNo, (v.slot j).face = (u.slot j).face)
    (states : ∀ x : UnitIx, (v.unit x).state = (u.unit x).state) : Puts w v n occ tag := by
  obtain ⟨sameOcc, sameTag, sameChannel, sameChatter⟩ := face_eq.mp (faces n)
  exact ⟨sameOcc.trans puts.occ, sameTag.trans puts.tag, sameChannel.trans puts.channel, sameChatter ▸ puts.chatter,
    fun j other => (faces j).trans (puts.others j other), fun x => (states x).trans (puts.states x)⟩

theorem Puts.then_removedFrom (puts : Puts w u n occ tag) (key : Option Nat) : Puts w (u.removedFrom n key) n occ tag := by
  obtain ⟨slots, units, -⟩ := removedFrom_kept u n key
  exact puts.then_quiet (fun j => by rw [State.slot, slots]; rfl) fun x => by rw [State.unit, units]; rfl

theorem Puts.then_takenLate (puts : Puts w u n occ tag) (b : Booking) (now : Nat) : Puts w (u.takenLate b now) n occ tag := by
  rw [takenLate_eq]
  refine puts.then_quiet (fun j => ?_) fun _ => rfl
  rw [slot_lastReleaseCleared]
  split <;> rfl

theorem Puts.then_cameBack (puts : Puts w u n occ tag) (k : Nat) (m : SlotNo) : Puts w (u.cameBack k m) n occ tag :=
  puts.then_quiet (fun j => by rw [slot_cameBack]) fun x => by rw [unit_cameBack]

theorem Puts.then_withMissing (puts : Puts w u n occ tag) (k : Nat) (missing : Bool) : Puts w (u.withMissing k missing) n occ tag :=
  puts.then_quiet (fun _ => rfl) fun _ => rfl

/-- A slot whose count is low has no chatter fault to judge. -/
theorem chatterJudged_few (few : (w.slot n).chatter < 7) : w.chatterJudged n = w := by
  have judged : w.chattered n = false := by rw [State.chattered, decide_eq_false (not_le.mpr few), Bool.and_false]
  rw [chatterJudged_eq, judged]
  exact if_neg Bool.false_ne_true

theorem Puts.unjudged (puts : Puts w u n occ tag) (few : (w.slot n).chatter < 6) : u.chatterJudged n = u :=
  chatterJudged_few (lt_of_le_of_lt puts.chatter (by omega))

/-! ### Tags apart, and records that agree -/

theorem Puts.apart (puts : Puts w u n occ tag) (apart : w.tagsApart)
    (fresh : ∀ k : Nat, tag = some k → ∀ j : SlotNo, j ≠ n → (w.slot j).tag ≠ some k) : u.tagsApart := by
  have kept (j : SlotNo) (other : j ≠ n) : (u.slot j).tag = (w.slot j).tag := (face_eq.mp (puts.others j other)).2.1
  have alone (j : SlotNo) (other : j ≠ n) (k : Nat) (there : (u.slot j).tag = some k) : (u.slot n).tag ≠ some k := fun here =>
    fresh k (puts.tag.symm.trans here) j other ((kept j other).symm.trans there)
  intro i j k ofI ofJ
  by_cases iHere : i = n
  · by_cases jHere : j = n
    · rw [iHere, jHere]
    · exact absurd (iHere ▸ ofI) (alone j jHere k ofJ)
  · by_cases jHere : j = n
    · exact absurd (jHere ▸ ofJ) (alone i iHere k ofI)
    · exact apart i j k ((kept i iHere).symm.trans ofI) ((kept j jHere).symm.trans ofJ)

theorem countedAs_congr {a b : SlotRec} (occ : a.occ = b.occ) (tag : a.tag = b.tag) : a.countedAs = b.countedAs := by
  unfold SlotRec.countedAs
  rw [occ, tag]

theorem agrees_of_same {m : ModIx} {st : List SlotStatus} {but : Fin 16 → Bool} (agrees : w.agrees m st but)
    (same : ∀ q : Fin 16, but q = false → (u.slot (slotAt m q)).face = (w.slot (slotAt m q)).face) : u.agrees m st but := by
  intro q y other at_
  obtain ⟨occ, tag, -, -⟩ := face_eq.mp (same q other)
  rw [countedAs_congr occ tag]
  exact agrees q y other at_

theorem tag_of_countedAs {r : SlotRec} {k : Nat} (counted : r.countedAs = .held k) : r.tag = some k := by
  unfold SlotRec.countedAs at counted
  cases occ : r.occ <;> cases tag : r.tag <;> simp_all

/-- A record that agrees with its report is restored by it. -/
theorem restores_of_agrees {m : ModIx} {st : List SlotStatus} {but : Fin 16 → Bool} (agrees : w.agrees m st but) (apart : w.tagsApart)
    (known : ∀ q : Fin 16, but q = true → (w.slot (slotAt m q)).occ ≠ .unknown) {q : Fin 16} {y : SlotStatus}
    (at_ : st[q.val]? = some y) : w.restores (slotAt m q) y.seen := by
  intro unknown
  have other : but q = false := Bool.eq_false_iff.mpr fun passed => known q passed unknown
  have here := agrees q y other at_
  cases tag : (w.slot (slotAt m q)).tag with
  | none =>
    have counted : (w.slot (slotAt m q)).countedAs = .empty := by simp only [SlotRec.countedAs, unknown, tag]
    simp only [counted] at here
    exact Or.inl ⟨here, rfl⟩
  | some k =>
    have counted : (w.slot (slotAt m q)).countedAs = .held k := by simp only [SlotRec.countedAs, unknown, tag]
    simp only [counted] at here
    refine Or.inr ⟨k, rfl, here.symm.imp_right fun tagged => ⟨tagged, fun j other there => ?_⟩⟩
    exact other (apart j (slotAt m q) k there tag)

end

/-! ### The reconciliation from its passes -/

section
variable {w u v : State} {m : ModIx} {st : List SlotStatus}

theorem slotOnline_of_unit {s : State} {p : Fin 16} (online : (s.unit (modUnit m)).state = .online) :
    s.slotOnline (slotAt m p) = true := by
  rw [slotOnline_iff, moduleOf_slotAt]
  exact online

/-- Once the two passes have come to the tables of `u`, the UNKNOWN slots are restored. -/
theorem reconcile_of_passes {but : Fin 16 → Bool} (full : st.length = 16)
    (passes : (w.plan m st).foldl State.planIn ((w.plan m st).foldl State.planOut w) = v) (comes : v.tables = u.tables)
    (online : (u.unit (modUnit m)).state = .online) (agrees : u.agrees m st but) (apart : u.tagsApart)
    (known : ∀ q : Fin 16, but q = true → (u.slot (slotAt m q)).occ ≠ .unknown) :
    (w.reconcile m st).tables = (u.restored m but).tables ∧ Untold v (w.reconcile m st) := by
  have slotsOn : ∀ e ∈ w.plan m st, v.slotOnline e.slot = true := fun e there => by
    obtain ⟨q, y, -, rfl⟩ := mem_plan there
    exact (slotOnline_congr comes _).trans (slotOnline_of_unit online)
  have fits : ∀ e ∈ w.plan m st, v.restores e.slot e.seen := fun e there => by
    obtain ⟨q, y, at_, rfl⟩ := mem_plan there
    exact restores_of_known (fun j => (occ_tag_congr comes j).2) (fun j unknown => (occ_tag_congr comes j).1.symm.trans unknown)
      (restores_of_agrees agrees apart known at_)
  obtain ⟨tables, untold⟩ := restore_pass slotsOn fits
  have time : v.time = u.tables.time := show v.tables.time = u.tables.time by rw [comes]
  have knownTables : ∀ q : Fin 16, but q = true → (u.tables.slot (slotAt m q)).occ ≠ .unknown := fun q passed => by
    rw [tables_slot]
    exact known q passed
  rw [plan_slots w full, comes, time, ← restored_eq knownTables, ← restored_form] at tables
  unfold State.reconcile
  dsimp only
  rw [passes]
  exact ⟨tables, untold⟩

/-! ### One position that differs -/

section
variable {p : Fin 16} {x : SlotStatus} {occ : Occupancy} {tag : Option Nat}

/-- Both passes work on the one position only. -/
theorem passes_at (full : st.length = 16) (at_ : st[p.val]? = some x) (agrees : w.agrees m st fun q => q == p) :
    (w.plan m st).foldl State.planIn ((w.plan m st).foldl State.planOut w)
      = (w.planOut (w.planAt st (slotAt m p) x.seen)).planIn (w.planAt st (slotAt m p) x.seen) := by
  have idle (q : Fin 16) (y : SlotStatus) (other : q ≠ p) (atq : st[q.val]? = some y) :=
    agrees_acts agrees (beq_false_of_ne other) atq
  rw [plan_pass (f := State.planOut) full at_ fun q y other atq t => planOut_none (idle q y other atq).1 t,
    plan_pass (f := State.planIn) full at_ fun q y other atq t => planIn_none (idle q y other atq).2 t]

/-- The reconciliation with one position that differs, from what the passes put there. -/
theorem reconcile_at (full : st.length = 16) (at_ : st[p.val]? = some x) (agrees : w.agrees m st fun q => q == p) (apart : w.tagsApart)
    (online : (w.unit (modUnit m)).state = .online)
    (passes : (w.planOut (w.planAt st (slotAt m p) x.seen)).planIn (w.planAt st (slotAt m p) x.seen) = v) (comes : v.tables = u.tables)
    (puts : Puts w u (slotAt m p) occ tag) (known : occ ≠ .unknown)
    (fresh : ∀ k : Nat, tag = some k → ∀ j : SlotNo, j ≠ slotAt m p → (w.slot j).tag ≠ some k) :
    (w.reconcile m st).tables = (u.restored m fun q => q == p).tables ∧ Untold v (w.reconcile m st) := by
  refine reconcile_of_passes full ((passes_at full at_ agrees).trans passes) comes ((puts.states _).trans online) ?_
    (puts.apart apart fresh) ?_
  · exact agrees_of_same agrees fun q other => puts.others _ fun same => by
      rw [slotAt_inj.mp same, beq_self_eq_true] at other
      cases other
  · intro q here
    rw [beq_iff_eq.mp here, puts.occ]
    exact known

theorem planOut_removes {e : SlotPlan} (out : e.out = .remove) (online : w.slotOnline e.slot = true) :
    w.planOut e = w.removal e.slot none := by
  simp only [State.planOut, State.whileOnline, online, if_true, out]

theorem planIn_inserts {e : SlotPlan} (into : e.into = .insert tag) (online : w.slotOnline e.slot = true) :
    w.planIn e = w.insertion e.slot tag := by
  simp only [State.planIn, State.whileOnline, online, if_true, into]

theorem planIn_learns {e : SlotPlan} {k : Nat} (into : e.into = .learn k) (online : w.slotOnline e.slot = true) :
    w.planIn e = w.learnTag e.slot k := by
  simp only [State.planIn, State.whileOnline, online, if_true, into]

/-- A key that no report of the module gives is removed. -/
theorem removalOf_gone {k : Nat} (gone : ∀ (q : Fin 16) (y : SlotStatus), st[q.val]? = some y → y.seen ≠ .tagged k)
    (full : st.length = 16) : removalOf st k = .remove := by
  refine if_neg fun any => ?_
  obtain ⟨y, there, tagged⟩ := List.any_eq_true.mp any
  obtain ⟨i, bound, rfl⟩ := List.mem_iff_getElem.mp there
  exact gone ⟨i, full ▸ bound⟩ _ (List.getElem?_eq_getElem bound) (beq_iff_eq.mp tagged)

/-- Where the records agree elsewhere no other report gives the key of this record. -/
theorem agrees_gone {k : Nat} (at_ : st[p.val]? = some x) (agrees : w.agrees m st fun q => q == p) (apart : w.tagsApart)
    (counted : (w.slot (slotAt m p)).countedAs = .held k) (other : x.seen ≠ .tagged k) (q : Fin 16) (y : SlotStatus)
    (atq : st[q.val]? = some y) : y.seen ≠ .tagged k := by
  intro tagged
  by_cases same : q = p
  · subst same
    rw [at_] at atq
    cases atq
    exact other tagged
  · have here := agrees q y (beq_false_of_ne same) atq
    cases there : (w.slot (slotAt m q)).countedAs with
    | empty => simp only [there, tagged, reduceCtorEq] at here
    | held k' =>
      simp only [there, tagged, SlotSeen.tagged.injEq, reduceCtorEq, or_false] at here
      subst here
      exact same (slotAt_inj.mp (apart _ _ k (tag_of_countedAs there) (tag_of_countedAs counted)))
    | noTag => simp only [there, tagged, reduceCtorEq] at here

end

theorem removedFrom_bin (s : State) (n : SlotNo) (tag : Option Nat) : (s.removedFrom n tag).bin = s.bin := by
  rw [removedFrom_eq]
  split
  · rfl
  · cases tag <;> rfl

theorem learnTag_fresh {s : State} {k : Nat} (nowhere : s.nowhere k) (n : SlotNo) :
    (s.learnTag n k).tables = ((s.learned n k).cameBack k n).tables := by
  have live : s.heldLive k (some n) = false := heldLive_of_untagged fun j _ => nowhere.1 j
  have knows := modSlotLamp_tables s n fun r => { r with occ := .held, tag := some k }
  have unseen : (s.modSlotLamp n fun r => { r with occ := .held, tag := some k }).clearLastSeen k (some n)
      = s.modSlotLamp n fun r => { r with occ := .held, tag := some k } := by
    refine clearLastSeen_of_untagged fun j other => ?_
    rw [(occ_tag_congr knows j).2, modSlot_eq, slot_withSlot_ne fun same => other (congrArg some same.symm)]
    exact nowhere.1 j
  have filled : (if (s.entry? k).isNone then (s.modSlotLamp n fun r => { r with occ := .held, tag := some k }).raiseOnSlot n .foreignKey
      else s.modSlotLamp n fun r => { r with occ := .held, tag := some k }).tables = (s.learned n k).tables := by
    split
    · rw [raiseOnSlot_tables, knows]
      rfl
    · exact knows
  unfold State.learnTag
  rw [live]
  simp only [Bool.false_eq_true, if_false]
  rw [unseen]
  rw [handOn_cameBack ((dropOfKey_none_congr filled k).mpr (dropOfKey_eq_none.mpr nowhere.2)), cameBack_form, filled, ← cameBack_form]

/-! ### The cases of one position -/

section
variable {p : Fin 16} {x : SlotStatus} {k : Nat}

theorem roomToCount_of_few {n : SlotNo} (few : (w.slot n).chatter < 5) : w.roomToCount n := Or.inl (by omega)

theorem lateFor_reconciled {n : SlotNo} {tag : Option Nat}
    (no : ∀ k : Nat, tag = some k → ¬ ∃ (b : Nat) (y : Booking), (w.slot n).lastRelease = some b ∧ w.booking? b = some y
      ∧ y.state = .loaded ∧ y.key = k) : w.lateFor n tag none = none := by
  refine Option.eq_none_iff_forall_ne_some.mpr fun b late => ?_
  obtain ⟨y, release, found, loaded, key⟩ := lateBooking_iff.mp late
  exact no y.key key ⟨b, y, release, found, loaded, rfl⟩

theorem removal_few {n : SlotNo} (channel : (w.slot n).channel = none) (few : (w.slot n).chatter < 5)
    (late : w.lateFor n (w.slot n).tag none = none) :
    (w.removal n none).tables = ((w.emptied n).removedFrom n (w.slot n).tag).tables := by
  rw [removal_unexplained channel late (roomToCount_of_few few),
    ((emptied_puts w n).then_removedFrom (w.slot n).tag).unjudged (by omega)]

variable (full : st.length = 16) (at_ : st[p.val]? = some x) (agrees : w.agrees m st fun q => q == p) (apart : w.tagsApart)
  (online : (w.unit (modUnit m)).state = .online) (channel : (w.slot (slotAt m p)).channel = none)
  (few : (w.slot (slotAt m p)).chatter < 5)

include full at_ agrees apart online channel few

/-- A key, or an unread key, gone from its slot; its removal is no late take. -/
theorem reconcile_gone (out : (w.planAt st (slotAt m p) x.seen).out = .remove) (into : (w.planAt st (slotAt m p) x.seen).into = .none)
    (late : w.lateFor (slotAt m p) (w.slot (slotAt m p)).tag none = none) :
    (w.reconcile m st).tables
        = (((w.emptied (slotAt m p)).removedFrom (slotAt m p) (w.slot (slotAt m p)).tag).restored m fun q => q == p).tables
      ∧ Untold (w.removal (slotAt m p) none) (w.reconcile m st) := by
  refine reconcile_at full at_ agrees apart online ?_ (removal_few channel few late) ((emptied_puts w _).then_removedFrom _) nofun nofun
  rw [planOut_removes out (slotOnline_of_unit online), planIn_none into]
  rfl

/-- A key gone by a late take, of which reconciliation asks no open latch (R19). -/
theorem reconcile_late {b : Booking} {now : Nat} (out : (w.planAt st (slotAt m p) x.seen).out = .remove)
    (into : (w.planAt st (slotAt m p) x.seen).into = .none) (tag : (w.slot (slotAt m p)).tag = some b.key)
    (release : (w.slot (slotAt m p)).lastRelease = some b.number) (found : w.booking? b.number = some b) (loaded : b.state = .loaded)
    (empty : w.release.queue = []) (time : w.time = some now) :
    (w.reconcile m st).tables = (((w.emptied (slotAt m p)).takenLate b now).restored m fun q => q == p).tables := by
  have puts := (emptied_puts w (slotAt m p)).then_takenLate b now
  have comes := removal_late (latch := none) channel nofun tag release found loaded empty time (roomToCount_of_few few)
  rw [puts.unjudged (by omega)] at comes
  refine (reconcile_at full at_ agrees apart online ?_ comes puts nofun nofun).1
  rw [planOut_removes out (slotOnline_of_unit online), planIn_none into]
  rfl

/-- One key in another's stead. -/
theorem reconcile_replaced {k' : Nat} (out : (w.planAt st (slotAt m p) x.seen).out = .remove)
    (into : (w.planAt st (slotAt m p) x.seen).into = .insert (some k'))
    (late : w.lateFor (slotAt m p) (w.slot (slotAt m p)).tag none = none) (nowhere : w.nowhere k') :
    (w.reconcile m st).tables
      = (((((w.emptied (slotAt m p)).removedFrom (slotAt m p) (w.slot (slotAt m p)).tag).filled (slotAt m p) .held (some k')).cameBack k'
          (slotAt m p)).restored m fun q => q == p).tables := by
  let n := slotAt m p
  let gone := (w.emptied n).removedFrom n (w.slot n).tag
  have was : Puts w gone n .empty none := (emptied_puts w n).then_removedFrom _
  have removed : (w.removal n none).tables = gone.tables := removal_few channel few late
  have faces (j : SlotNo) : ((w.removal n none).slot j).channel = (gone.slot j).channel
      ∧ ((w.removal n none).slot j).chatter = (gone.slot j).chatter ∧ ((w.removal n none).slot j).tag = (gone.slot j).tag :=
    ⟨show ((w.removal n none).slot j).bare.channel = (gone.slot j).bare.channel from congrArg SlotRec.channel (slot_bare removed j),
      chatter_congr removed j, (occ_tag_congr removed j).2⟩
  have outside : (w.removal n none).dropOfKey k' = none := by
    rw [dropOfKey_none_congr removed, dropOfKey_eq_none, removedFrom_bin]
    exact nowhere.2
  have untagged (j : SlotNo) (other : j ≠ n) : ((w.removal n none).slot j).tag ≠ some k' := by
    rw [(faces j).2.2, (face_eq.mp (was.others j other)).2.1]
    exact nowhere.1 j
  have low : (gone.slot n).chatter < 6 := lt_of_le_of_lt was.chatter (Nat.succ_lt_succ few)
  have came := insertion_fresh ((faces n).1.trans (was.channel.trans channel)) untagged outside
    (Or.inl ((faces n).2.1.trans_lt low))
  have then_ : Puts gone ((gone.filled n .held (some k')).cameBack k' n) n .held (some k') :=
    (filled_puts gone n .held (some k')).then_cameBack k' n
  have comes : ((w.removal n none).insertion n (some k')).tables = ((gone.filled n .held (some k')).cameBack k' n).tables := by
    rw [came, chatterJudged_form, cameBack_form, filled_form, removed, ← filled_form, ← cameBack_form, ← chatterJudged_form,
      then_.unjudged low]
  refine (reconcile_of_passes (but := fun q => q == p) full ?_ comes ?_ ?_ ?_ ?_).1
  · refine (passes_at full at_ agrees).trans ?_
    rw [planOut_removes out (slotOnline_of_unit online)]
    exact planIn_inserts (w := w.removal n none) into
      ((slotOnline_congr removed _).trans (slotOnline_of_unit ((was.states _).trans online)))
  · exact (then_.states _).trans ((was.states _).trans online)
  · exact agrees_of_same agrees fun q other => by
      have apart_ : slotAt m q ≠ n := fun same => by
        rw [slotAt_inj.mp same, beq_self_eq_true] at other
        cases other
      exact (then_.others _ apart_).trans (was.others _ apart_)
  · refine then_.apart (was.apart apart nofun) fun key same j other there => ?_
    cases same
    exact nowhere.1 j ((face_eq.mp (was.others j other)).2.1.symm.trans there)
  · intro q here
    rw [beq_iff_eq.mp here, then_.occ]
    exact Occupancy.noConfusion

/-- An unread key in an empty slot. -/
theorem reconcile_unread (out : (w.planAt st (slotAt m p) x.seen).out = .none)
    (into : (w.planAt st (slotAt m p) x.seen).into = .insert none) :
    (w.reconcile m st).tables = ((w.filled (slotAt m p) .heldNoTag none).restored m fun q => q == p).tables := by
  have puts := filled_puts w (slotAt m p) .heldNoTag none
  have comes := insertion_unread channel (roomToCount_of_few few)
  rw [puts.unjudged (by omega)] at comes
  refine (reconcile_at full at_ agrees apart online ?_ comes puts nofun nofun).1
  rw [planOut_none out, planIn_inserts into (slotOnline_of_unit online)]
  rfl

/-- A key that is nowhere in the cabinet, in an empty slot. -/
theorem reconcile_fresh (out : (w.planAt st (slotAt m p) x.seen).out = .none)
    (into : (w.planAt st (slotAt m p) x.seen).into = .insert (some k)) (nowhere : w.nowhere k) :
    (w.reconcile m st).tables
      = (((w.filled (slotAt m p) .held (some k)).cameBack k (slotAt m p)).restored m fun q => q == p).tables := by
  have puts := (filled_puts w (slotAt m p) .held (some k)).then_cameBack k (slotAt m p)
  have comes := insertion_fresh channel (fun j _ => nowhere.1 j) (dropOfKey_eq_none.mpr nowhere.2) (roomToCount_of_few few)
  rw [puts.unjudged (by omega)] at comes
  refine (reconcile_at full at_ agrees apart online ?_ comes puts nofun fun k' same j _ => ?_).1
  · rw [planOut_none out, planIn_inserts into (slotOnline_of_unit online)]
    rfl
  · cases same
    exact nowhere.1 j

/-- A key that another slot holds live, in an empty slot. -/
theorem reconcile_duplicate (out : (w.planAt st (slotAt m p) x.seen).out = .none)
    (into : (w.planAt st (slotAt m p) x.seen).into = .insert (some k)) (live : w.heldLive k (some (slotAt m p)) = true) :
    (w.reconcile m st).tables
      = (((w.filled (slotAt m p) .heldNoTag none).withMissing k false).restored m fun q => q == p).tables := by
  have puts := (filled_puts w (slotAt m p) .heldNoTag none).then_withMissing k false
  have comes := insertion_duplicate channel live (roomToCount_of_few few)
  rw [puts.unjudged (by omega)] at comes
  refine (reconcile_at full at_ agrees apart online ?_ comes puts nofun nofun).1
  rw [planOut_none out, planIn_inserts into (slotOnline_of_unit online)]
  rfl

omit channel few in
/-- The tag of an unread key, learned. -/
theorem reconcile_learned (out : (w.planAt st (slotAt m p) x.seen).out = .none)
    (into : (w.planAt st (slotAt m p) x.seen).into = .learn k) (nowhere : w.nowhere k) :
    (w.reconcile m st).tables
      = (((w.learned (slotAt m p) k).cameBack k (slotAt m p)).restored m fun q => q == p).tables := by
  have puts := (learned_puts w (slotAt m p) k).then_cameBack k (slotAt m p)
  refine (reconcile_at full at_ agrees apart online ?_ (learnTag_fresh nowhere (slotAt m p)) puts nofun fun k' same j _ => ?_).1
  · rw [planOut_none out, planIn_learns into (slotOnline_of_unit online)]
    rfl
  · cases same
    exact nowhere.1 j

end

/-! ### No position, and two -/

/-- A reply that agrees at every position only restores. -/
theorem reconcile_agreeing (full : st.length = 16) (agrees : w.agrees m st fun _ => false) (apart : w.tagsApart)
    (online : (w.unit (modUnit m)).state = .online) :
    (w.reconcile m st).tables = (w.restored m fun _ => false).tables ∧ Untold w (w.reconcile m st) := by
  refine reconcile_of_passes full ?_ rfl online agrees apart nofun
  rw [foldl_idle (f := State.planOut) fun e there t => ?_, foldl_idle (f := State.planIn) fun e there t => ?_]
  · obtain ⟨q, y, at_, rfl⟩ := mem_plan there
    exact planIn_none (agrees_acts agrees rfl at_).2 t
  · obtain ⟨q, y, at_, rfl⟩ := mem_plan there
    exact planOut_none (agrees_acts agrees rfl at_).1 t

theorem moveOut_eq {n : SlotNo} (channel : (w.slot n).channel = none) : w.moveOut n = (w.emptySlot n).countChange n := by
  simp only [State.moveOut, State.removalWith, channel]
  rfl

theorem moveOut_few {n : SlotNo} (channel : (w.slot n).channel = none) (few : (w.slot n).chatter < 5) :
    (w.moveOut n).tables = (w.emptied n).tables := by
  rw [moveOut_eq channel, countChange_of_tables (emptySlot_tables w n) (emptiedUncounted_roomToCount (roomToCount_of_few few)),
    emptiedUncounted_counted, (emptied_puts w n).unjudged (by omega)]

theorem planOut_moves {e : SlotPlan} (out : e.out = .move) (online : w.slotOnline e.slot = true) : w.planOut e = w.moveOut e.slot := by
  simp only [State.planOut, State.whileOnline, online, if_true, out]

/-- A key moved from one slot of the module to another (R19). -/
theorem reconcile_moved {p q : Fin 16} {x y : SlotStatus} {k : Nat} (full : st.length = 16) (other : q ≠ p)
    (atp : st[p.val]? = some x) (atq : st[q.val]? = some y) (agrees : w.agrees m st fun r => r == p || r == q) (apart : w.tagsApart)
    (online : (w.unit (modUnit m)).state = .online) (wasAt : (w.slot (slotAt m p)).countedAs = .held k) (emptyP : x.seen = .empty)
    (wasEmpty : (w.slot (slotAt m q)).countedAs = .empty) (nowAt : y.seen = .tagged k)
    (channelP : (w.slot (slotAt m p)).channel = none) (channelQ : (w.slot (slotAt m q)).channel = none)
    (fewP : (w.slot (slotAt m p)).chatter < 5) (fewQ : (w.slot (slotAt m q)).chatter < 5)
    (noDrop : ∀ e ∈ w.bin.entries, e.tag ≠ some k) :
    (w.reconcile m st).tables
      = ((((w.emptied (slotAt m p)).filled (slotAt m q) .held (some k)).cameBack k (slotAt m q)).restored m fun r =>
          r == p || r == q).tables := by
  have apartSlots : slotAt m q ≠ slotAt m p := fun same => other (slotAt_inj.mp same)
  have was := emptied_puts w (slotAt m p)
  have moved := moveOut_few channelP fewP
  have gone (j : SlotNo) : (w.emptied (slotAt m p)).tagsApart ∧ ((w.emptied (slotAt m p)).slot j).tag ≠ some k := by
    refine ⟨was.apart apart nofun, fun there => ?_⟩
    by_cases here : j = slotAt m p
    · rw [here, was.tag] at there
      cases there
    · rw [(face_eq.mp (was.others j here)).2.1] at there
      exact here (apart j _ k there (tag_of_countedAs wasAt))
  have faceQ := face_eq.mp (was.others _ apartSlots)
  have outAct : (w.planAt st (slotAt m p) x.seen).out = .move := by
    simp only [State.planAt, wasAt, emptyP, removalAct, removalOf]
    exact if_pos (List.any_eq_true.mpr ⟨y, List.mem_iff_getElem?.mpr ⟨q.val, atq⟩, by rw [nowAt]; exact beq_self_eq_true _⟩)
  have inAct : (w.planAt st (slotAt m q) y.seen).into = .insert (some k) := by
    simp only [State.planAt, wasEmpty, nowAt, insertionAct]
  have passes : (w.plan m st).foldl State.planIn ((w.plan m st).foldl State.planOut w)
      = (w.moveOut (slotAt m p)).insertion (slotAt m q) (some k) := by
    rw [plan_pass (f := State.planOut) full atp fun r z away atr t => planOut_none ?_ t,
      plan_pass (f := State.planIn) full atq fun r z away atr t => planIn_none ?_ t]
    · rw [planOut_moves outAct (slotOnline_of_unit online)]
      exact planIn_inserts (w := w.moveOut (slotAt m p)) inAct
        ((slotOnline_congr moved _).trans (slotOnline_of_unit ((was.states _).trans online)))
    · by_cases here : r = p
      · subst here
        rw [atp] at atr
        cases atr
        simp only [State.planAt, wasAt, emptyP, insertionAct]
      · exact (agrees_acts agrees (by rw [beq_false_of_ne here, beq_false_of_ne away]; rfl) atr).2
    · by_cases here : r = q
      · subst here
        rw [atq] at atr
        cases atr
        simp only [State.planAt, wasEmpty, nowAt, removalAct]
      · exact (agrees_acts agrees (by rw [beq_false_of_ne away, beq_false_of_ne here]; rfl) atr).1
  have then_ := (filled_puts (w.emptied (slotAt m p)) (slotAt m q) .held (some k)).then_cameBack k (slotAt m q)
  have low : ((w.emptied (slotAt m p)).slot (slotAt m q)).chatter < 6 := by
    rw [faceQ.2.2.2]
    omega
  have came := insertion_fresh (s := w.moveOut (slotAt m p)) (n := slotAt m q) (k := k)
    ((show ((w.moveOut (slotAt m p)).slot (slotAt m q)).bare.channel = ((w.emptied (slotAt m p)).slot (slotAt m q)).bare.channel from
      congrArg SlotRec.channel (slot_bare moved _)).trans (faceQ.2.2.1.trans channelQ))
    (fun j _ => (occ_tag_congr moved j).2 ▸ (gone j).2)
    (by rw [dropOfKey_none_congr moved, dropOfKey_eq_none]; exact noDrop) (Or.inl ((chatter_congr moved _).trans_lt low))
  have comes : ((w.moveOut (slotAt m p)).insertion (slotAt m q) (some k)).tables
      = (((w.emptied (slotAt m p)).filled (slotAt m q) .held (some k)).cameBack k (slotAt m q)).tables := by
    rw [came, chatterJudged_form, cameBack_form, filled_form, moved, ← filled_form, ← cameBack_form, ← chatterJudged_form,
      then_.unjudged low]
  refine (reconcile_of_passes (but := fun r => r == p || r == q) full passes comes ((then_.states _).trans ((was.states _).trans online))
    ?_ (then_.apart (gone (slotAt m p)).1 fun key same j _ => ?_) ?_).1
  · refine agrees_of_same agrees fun r away => ?_
    obtain ⟨notP, notQ⟩ := Bool.or_eq_false_iff.mp away
    have apartQ : slotAt m r ≠ slotAt m q := fun same => beq_eq_false_iff_ne.mp notQ (slotAt_inj.mp same)
    have apartP : slotAt m r ≠ slotAt m p := fun same => beq_eq_false_iff_ne.mp notP (slotAt_inj.mp same)
    exact (then_.others _ apartQ).trans (was.others _ apartP)
  · cases same
    exact (gone j).2
  · intro r here
    by_cases isQ : r = q
    · rw [isQ, then_.occ]
      exact Occupancy.noConfusion
    · have isP : r = p := beq_iff_eq.mp ((Bool.or_eq_true_iff.mp here).resolve_right fun yes => isQ (beq_iff_eq.mp yes))
      rw [isP, (face_eq.mp (then_.others _ apartSlots.symm)).1, was.occ]
      exact Occupancy.noConfusion

end

end Sys2Proof.Machine
end

section
/-! SUPPORT. A full status that is reconciled, brought by a STATUS or a PROBE reply (R18, R19, R35): the state the passes begin with, and
what follows them. -/

namespace Sys2Proof.Machine

/-! ### The state the passes begin with -/

/-- What reconciliation finds when the status of a module has come with its reply: the module ONLINE, and nothing changed but the
module's unit record, the mode, the alerts and what tells of them. -/
structure Heard (s w : State) (m : ModIx) : Prop where
  tables : ∃ (f : UnitRec → UnitRec) (mode : CabinetMode), w.tables = { s.withUnit (modUnit m) f with mode }.tables
  online : (w.unit (modUnit m)).state = .online
  bus : w.bus = (s.landed (modUnit m)).bus
  waits : ∀ n : Nat, n + 3 ≤ 32 → s.queued [] n → w.queued [] (n + 3)

section
variable {s w : State} {m : ModIx} {n : SlotNo}

theorem Heard.slot (heard : Heard s w m) (n : SlotNo) : (w.slot n).bare = (s.slot n).bare := by
  obtain ⟨f, mode, same⟩ := heard.tables
  exact slot_bare same n

theorem Heard.face (heard : Heard s w m) (n : SlotNo) : (w.slot n).face = (s.slot n).face :=
  show (w.slot n).bare.face = (s.slot n).bare.face from congrArg SlotRec.face (heard.slot n)

theorem Heard.tag (heard : Heard s w m) (n : SlotNo) : (w.slot n).tag = (s.slot n).tag := (face_eq.mp (heard.face n)).2.1

theorem Heard.countedAs (heard : Heard s w m) (n : SlotNo) : (w.slot n).countedAs = (s.slot n).countedAs := by
  obtain ⟨occ, tag, -, -⟩ := face_eq.mp (heard.face n)
  exact countedAs_congr occ tag

theorem Heard.lastRelease (heard : Heard s w m) (n : SlotNo) : (w.slot n).lastRelease = (s.slot n).lastRelease :=
  show (w.slot n).bare.lastRelease = (s.slot n).bare.lastRelease from congrArg SlotRec.lastRelease (heard.slot n)

theorem Heard.release (heard : Heard s w m) : w.release = s.release := by
  obtain ⟨f, mode, same⟩ := heard.tables
  exact (release_tables same).trans rfl

theorem Heard.time (heard : Heard s w m) : w.time = s.time := by
  obtain ⟨f, mode, same⟩ := heard.tables
  exact show w.tables.time = s.time from (congrArg State.time same).trans rfl

theorem Heard.session (heard : Heard s w m) : w.session = s.session := by
  obtain ⟨f, mode, same⟩ := heard.tables
  exact show w.tables.session = s.session from (congrArg State.session same).trans rfl

theorem Heard.booking (heard : Heard s w m) {b : Nat} {x : Booking} (found : s.booking? b = some x) :
    ∃ y : Booking, w.booking? b = some y ∧ y.bare = x.bare := by
  obtain ⟨f, mode, same⟩ := heard.tables
  exact booking?_some_congr (t := { s.withUnit (modUnit m) f with mode }) same found

theorem Heard.heldBooking (heard : Heard s w m) {b : Nat} {y : Booking} (found : w.booking? b = some y) :
    ∃ x : Booking, s.booking? b = some x ∧ x.bare = y.bare := by
  obtain ⟨f, mode, same⟩ := heard.tables
  exact booking?_some_congr (s := { s.withUnit (modUnit m) f with mode }) same.symm found

theorem Heard.dropOfKey (heard : Heard s w m) {k : Nat} (none_ : ∀ e ∈ s.bin.entries, e.tag ≠ some k) :
    ∀ e ∈ w.bin.entries, e.tag ≠ some k := by
  obtain ⟨f, mode, same⟩ := heard.tables
  exact dropOfKey_eq_none.mp ((dropOfKey_none_congr same k).mpr (dropOfKey_eq_none.mpr none_))

theorem Heard.nowhere (heard : Heard s w m) {k : Nat} (nowhere : s.nowhere k) : w.nowhere k :=
  ⟨fun n => heard.tag n ▸ nowhere.1 n, heard.dropOfKey nowhere.2⟩

theorem Heard.goneReport (heard : Heard s w m) (n : SlotNo) (k : Nat) : w.goneReport n k = s.goneReport n k := by
  obtain ⟨f, mode, same⟩ := heard.tables
  exact (goneReport_congr same n k).trans rfl

theorem Heard.agrees (heard : Heard s w m) {l : ModIx} {st : List SlotStatus} {but : Fin 16 → Bool} (agrees : s.agrees l st but) :
    w.agrees l st but := agrees_of_same agrees fun _ _ => heard.face _

theorem Heard.apart (heard : Heard s w m) (apart : s.tagsApart) : w.tagsApart := fun i j k ofI ofJ =>
  apart i j k ((heard.tag i).symm.trans ofI) ((heard.tag j).symm.trans ofJ)

theorem Heard.slotOnline (heard : Heard s w m) (online : s.slotOnline n = true) : w.slotOnline n = true := by
  rw [slotOnline_iff] at online ⊢
  by_cases own : moduleOf n = m
  · rw [own]
    exact heard.online
  · obtain ⟨f, mode, same⟩ := heard.tables
    rw [unit_state_congr same]
    have apart : modUnit (moduleOf n) ≠ modUnit m := fun eq => own (by
      have := unitMod_modUnit (moduleOf n)
      rw [eq, unitMod_modUnit] at this
      exact (Option.some.inj this).symm)
    exact (congrArg UnitRec.state ((unit_withUnit s (modUnit m) _ f).trans (if_neg apart))).trans online

/-- No late take is found in `w` where none is in `s`. -/
theorem Heard.notLate (heard : Heard s w m) {tag : Option Nat}
    (no : ∀ k : Nat, tag = some k → ¬ ∃ (b : Nat) (y : Booking), (s.slot n).lastRelease = some b ∧ s.booking? b = some y
      ∧ y.state = .loaded ∧ y.key = k) : w.lateFor n tag none = none := by
  refine lateFor_reconciled fun k same ⟨b, y, release, found, loaded, key⟩ => no k same ?_
  obtain ⟨x, there, bare⟩ := heard.heldBooking found
  exact ⟨b, x, (heard.lastRelease n).symm.trans release, there,
    (show x.bare.state = y.bare.state from congrArg Booking.state bare).trans loaded,
    (show x.bare.key = y.bare.key from congrArg Booking.key bare).trans key⟩

end

/-! ### A change of the tables by a reconciliation -/

/-- A change of the tables that leaves the START report's mark and the units' probes alone. -/
structure ReadChange (event : State → State) : Prop where
  form : ∀ t : State, (event t).tables = event t.tables
  marked : ∀ (t : State) (b : Bool), event (t.startMarked b) = (event t).startMarked b
  causes : ∀ (t : State) (x : UnitIx), ((event t).unit x).cause = (t.unit x).cause
  reported : ∀ t : State, (event t).mode.startReported = t.mode.startReported

theorem ReadChange.comp {f g : State → State} (outer : ReadChange f) (inner : ReadChange g) : ReadChange fun t => f (g t) where
  form t := by rw [outer.form, inner.form]
  marked t b := by rw [inner.marked, outer.marked]
  causes t x := by rw [outer.causes, inner.causes]
  reported t := by rw [outer.reported, inner.reported]

/-- How the reply ends once the slots have been reconciled: at once, or with the START report judged (R41, R170). -/
def State.endsIn (z t : State) : Prop := t = z.chooseCommand ∨ t = z.startCheck.chooseCommand

section
variable {s z t : State}

theorem startCheck_bus (s : State) : s.startCheck.bus = s.bus ∧ s.startCheck.release = s.release := by
  unfold State.startCheck
  split <;> exact ⟨rfl, rfl⟩

theorem startCheck_queued {bs : List ReportBody} {n : Nat} {s : State} (h : s.queued bs n) (room : n + 1 ≤ 32) :
    s.startCheck.queued bs (n + 1) := by
  unfold State.startCheck
  split
  · exact queued_mono h (by omega)
  · exact queued_weaken (queued_report (queued_congr (s := s) rfl h) (by omega) _) (List.subset_cons_self _ _)

theorem endsIn_asked (ends : z.endsIn t) {n : SlotNo} {dir : LatchDir} {c : Option ChanNo} (asked : z.latchAsked n dir c) :
    t.latchAsked n dir c := by
  rcases ends with rfl | rfl
  · exact latchAsked_chooseCommand asked
  · exact latchAsked_chooseCommand (latchAsked_congr (startCheck_bus z).1 asked)

theorem endsIn_queued {bs : List ReportBody} {n : Nat} (ends : z.endsIn t) (h : z.queued bs n) (room : n + 1 ≤ 32) {b : ReportBody}
    (at_ : b ∈ bs) : b ∈ t.link.reports.map (·.body) := by
  rcases ends with rfl | rfl
  · exact queued_chosen h at_
  · exact queued_chosen (startCheck_queued h room) at_

end

/-! ### The two replies -/

section
variable {s : State} {addr : Byte} {payload : List Byte} {m : ModIx} {st : List SlotStatus} {event : State → State}

theorem unit_withUnit_self (s : State) (u : UnitIx) (f : UnitRec → UnitRec) : (s.withUnit u f).unit u = f (s.unit u) :=
  (unit_withUnit s u u f).trans (if_pos rfl)

/-- The state a STATUS reply is reconciled in. -/
def State.statusHeard (s : State) (u : UnitIx) : State := (s.landed u).withUnit u fun r => { r with resync := false }

theorem statusHeard_tables (s : State) (u : UnitIx) :
    (s.statusHeard u).tables = (s.withUnit u fun r => { r with misses := 0, resync := false }).tables := by
  rw [State.statusHeard, withUnit_form _ _ (fun r => { r with resync := false }) fun _ => rfl, landed_tables,
    ← withUnit_form _ _ (fun r => { r with resync := false }) fun _ => rfl, State.replied, withUnit_withUnit]

theorem statusHeard_heard (online : (s.unit (modUnit m)).state = .online) : Heard s (s.statusHeard (modUnit m)) m where
  tables := ⟨fun r => { r with misses := 0, resync := false }, s.mode, statusHeard_tables s _⟩
  online := by
    rw [State.statusHeard, unit_withUnit_self]
    exact (congrArg UnitRec.state (replied_unit s (modUnit m))).trans online
  bus := rfl
  waits n _ h := queued_mono (queued_congr (s := s) rfl h) (by omega)

theorem readStatusReply_slots {f : Flight} (unit : f.unit = modUnit m) (cmd : f.cmd = .status)
    (read : readStatus (modUnit m) payload = some (.slots st)) :
    readStatusReply payload f = some fun s => s.deliverStatus (modUnit m) (.slots st) := by
  simp only [readStatusReply, cmd, unit, read]
  rfl

theorem deliverStatus_slots (s : State) (m : ModIx) (st : List SlotStatus) :
    s.deliverStatus (modUnit m) (.slots st) = ((s.withUnit (modUnit m) fun r => { r with resync := false }).moduleStatus m st).arbiter := by
  simp only [State.deliverStatus, unitMod_modUnit]
  rfl

theorem statusReply_next {z : State} (awaits : s.awaits (modUnit m) .status addr)
    (read : readStatus (modUnit m) payload = some (.slots st)) (comes : (s.statusHeard (modUnit m)).moduleStatus m st = z)
    (granted : z.granted) : exec (.statusReply addr payload) s = .next z.chooseCommand := by
  refine gives_reply (deliver := fun s => s.deliverStatus (modUnit m) (.slots st)) awaits rfl
    (fun f unit cmd => readStatusReply_slots unit cmd read) ?_
  show (s.landed (modUnit m)).deliverStatus (modUnit m) (.slots st) = z
  rw [deliverStatus_slots, show (s.landed (modUnit m)).withUnit (modUnit m) _ = s.statusHeard (modUnit m) from rfl, comes,
    arbiter_granted granted]

/-- The state a PROBE reply is reconciled in. -/
def State.probeHeard (s : State) (u : UnitIx) (cause : ProbeCause) : State := ((s.landed u).countStart cause).enterOnline u cause

theorem enterOnline_bus (s : State) (u : UnitIx) (cause : ProbeCause) : (s.enterOnline u cause).bus = s.bus := by
  have withdrawn (t : State) : (t.withdrawAlert (.module u) [.moduleLost]).bus = t.bus :=
    ((alert_kiosk t.kiosk t.bus).withdraw _ _ ⟨rfl, rfl⟩).2
  unfold State.enterOnline
  dsimp only
  split
  · exact withdrawn _
  · exact withdrawn _

theorem enterOnline_queued {bs : List ReportBody} {n : Nat} {s : State} (h : s.queued bs n) (room : n + 3 ≤ 32) (u : UnitIx)
    (cause : ProbeCause) : (s.enterOnline u cause).queued bs (n + 3) := by
  have withdrawn (r : UnitRec) : ((s.putUnit u r).withdrawAlert (.module u) [.moduleLost]).queued bs (n + 2) :=
    queued_withdraw (queued_congr (s := s) (t := s.putUnit u r) rfl h) (by omega) _ _
  unfold State.enterOnline
  dsimp only
  split
  · exact queued_weaken (queued_report (withdrawn _) (by omega) _) (List.subset_cons_self _ _)
  · exact queued_mono (withdrawn _) (by omega)

theorem countStart_bus (s : State) (cause : ProbeCause) : (s.countStart cause).bus = s.bus ∧ (s.countStart cause).link = s.link := by
  rw [countStart_eq]
  exact ⟨rfl, rfl⟩

theorem probeHeard_tables (s : State) (u : UnitIx) (cause : ProbeCause) : (s.probeHeard u cause).tables = (s.probed u cause).tables :=
  entered_landed s u cause

theorem probeHeard_heard (s : State) (m : ModIx) (cause : ProbeCause) : Heard s (s.probeHeard (modUnit m) cause) m where
  tables := ⟨UnitRec.entered, _, probeHeard_tables s _ cause⟩
  online := (unit_state_congr (probeHeard_tables s (modUnit m) cause) _).trans
    (congrArg UnitRec.state (unit_withUnit_self s (modUnit m) UnitRec.entered))
  bus := (enterOnline_bus _ _ _).trans (countStart_bus _ _).1
  waits n room h :=
    have landed : (s.landed (modUnit m)).queued [] n := queued_congr (s := s) rfl h
    enterOnline_queued (queued_congr (countStart_bus (s.landed (modUnit m)) cause).2 landed) room _ _

theorem readProbeReply_slots {f : Flight} (unit : f.unit = modUnit m) (cmd : f.cmd = .probe)
    (read : readProbe (modUnit m) payload = some (.slots st)) :
    readProbeReply payload f = some fun s => s.deliverProbe (modUnit m) (.slots st) := by
  simp only [readProbeReply, cmd, unit, read]
  rfl

theorem deliverProbe_slots {s : State} {cause : ProbeCause} (held : (s.unit (modUnit m)).cause = some cause) (st : List SlotStatus) :
    s.deliverProbe (modUnit m) (.slots st) =
      (let t := ((s.countStart cause).enterOnline (modUnit m) cause).probeSlots m cause st
      if cause = .start then t.startCheck else t).arbiter := by
  simp only [State.deliverProbe, held, unitMod_modUnit, State.thenGrant, Option.isSome_some, if_true]

theorem landed_cause {cause : ProbeCause} (held : (s.unit (modUnit m)).cause = some cause) :
    ((s.landed (modUnit m)).unit (modUnit m)).cause = some cause :=
  (congrArg UnitRec.cause (replied_unit s (modUnit m))).trans held

theorem probeReply_gives {z : State} {cause : ProbeCause} (awaits : s.awaits (modUnit m) .probe addr)
    (read : readProbe (modUnit m) payload = some (.slots st)) (held : (s.unit (modUnit m)).cause = some cause)
    (comes : (if cause = .start then ((s.probeHeard (modUnit m) cause).probeSlots m cause st).startCheck
      else (s.probeHeard (modUnit m) cause).probeSlots m cause st).arbiter = z) :
    exec (.probeReply addr payload) s = .next z.chooseCommand := by
  refine gives_reply (deliver := fun s => s.deliverProbe (modUnit m) (.slots st)) awaits rfl
    (fun f unit cmd => readProbeReply_slots unit cmd read) ?_
  exact (deliverProbe_slots (landed_cause held) st).trans comes

theorem directory_nil {s t : State} (same : s.tables = t.tables) : s.directory = [] ↔ t.directory = [] := by
  have bare : s.directory.map KeyEntry.bare = t.directory.map KeyEntry.bare := congrArg State.directory same
  rw [← List.map_eq_nil_iff (f := KeyEntry.bare), bare, List.map_eq_nil_iff]

theorem probeSlots_reconciled {cause : ProbeCause} (reconciled : cause ≠ .start ∨ s.directory ≠ []) :
    (s.probeHeard (modUnit m) cause).probeSlots m cause st = (s.probeHeard (modUnit m) cause).moduleStatus m st := by
  refine if_neg fun ⟨start, empty⟩ => reconciled.elim (fun other => other start) fun filled => filled ?_
  exact (directory_nil (t := s.probed (modUnit m) cause) (probeHeard_tables s (modUnit m) cause)).mp empty

end

/-! ### A reconciled status, from its change of the tables -/

theorem strayClose_tables (s : State) (e : SlotNo × SlotStatus) : (s.strayClose e).tables = s.tables := by
  unfold State.strayClose
  split
  · exact addLatch_tables _ _ _ _
  · rfl

theorem strayCloses_tables (s : State) (m : ModIx) (st : List SlotStatus) : (s.strayCloses m st).tables = s.tables := by
  unfold State.strayCloses
  induction reported m st generalizing s with
  | nil => rfl
  | cons e l ih => exact (ih (s.strayClose e)).trans (strayClose_tables s e)

/-- What the reply comes to once the reconciliation is known as a change of the tables. -/
theorem reads_makes {s base : State} {i : Instr} {m : ModIx} {st : List SlotStatus} {event : State → State} (change : ReadChange event)
    (reads : s.reads i m st base)
    (comes : ∀ w : State, Heard s w m → st.length = 16 → (w.reconcile m st).tables = (event w).tables)
    (granted : ∀ w : State, Heard s w m → (event w).granted) :
    ∃ w t : State, Heard s w m ∧ st.length = 16 ∧ exec i s = .next t ∧ t.tables = (event base).tables
      ∧ (w.moduleStatus m st).endsIn t
      ∧ ∀ (addr : Byte) (payload : List Byte), i = .statusReply addr payload →
        w = s.statusHeard (modUnit m) ∧ t = (w.moduleStatus m st).chooseCommand := by
  have stray (w : State) : (w.moduleStatus m st).tables = (w.reconcile m st).tables := strayCloses_tables _ m st
  obtain ⟨addr, payload, ⟨rfl, awaits, read, rfl⟩ | ⟨cause, rfl, awaits, read, held, reconciled, rfl⟩⟩ := reads
  · have full := readStatus_count read
    have heard := statusHeard_heard (s := s) (m := m) (awaits_online awaits nofun)
    have tables := (stray _).trans (comes _ heard full)
    refine ⟨_, _, heard, full, statusReply_next awaits read rfl (granted_congr (release_tables tables) (granted _ heard)), ?_,
      Or.inl rfl, fun _ _ _ => ⟨rfl, rfl⟩⟩
    rw [chooseCommand_tables, tables, change.form, statusHeard_tables, ← change.form]
  · have full := readProbe_count read
    have heard := probeHeard_heard s m cause
    have tables := (stray _).trans (comes _ heard full)
    have idle : ((s.probeHeard (modUnit m) cause).moduleStatus m st).granted := granted_congr (release_tables tables) (granted _ heard)
    let z := (s.probeHeard (modUnit m) cause).moduleStatus m st
    have quiet : (if cause = .start then z.startCheck else z).arbiter = if cause = .start then z.startCheck else z := by
      refine arbiter_granted ?_
      split
      · exact granted_congr (startCheck_bus z).2 idle
      · exact idle
    have next := probeReply_gives (z := if cause = .start then z.startCheck else z) awaits read held
      (by rw [probeSlots_reconciled reconciled]; exact quiet)
    have same : z.tables = (event (s.probed (modUnit m) cause)).tables := by
      rw [tables, change.form, probeHeard_tables, ← change.form]
    refine ⟨_, _, heard, full, next, ?_, ?_, nofun⟩
    · rw [chooseCommand_tables, startCheck_probed (s := s) (u := modUnit m), startMarked_form, same, ← startMarked_form,
        ← change.marked]
      · rfl
      · intro x
        show (z.unit x).bare.cause = _
        rw [unit_bare same x]
        exact change.causes _ x
      · exact (show z.tables.mode.startReported = (event (s.probed (modUnit m) cause)).tables.mode.startReported from
          congrArg (fun t : State => t.mode.startReported) same).trans (change.reported _)
    · by_cases start : cause = .start
      · rw [if_pos start]
        exact Or.inr rfl
      · rw [if_neg start]
        exact Or.inl rfl

end Sys2Proof.Machine
end

section
/-! SUPPORT. A full status that agrees with the records (R19, R29): what is restored, and the stray closes; and the chute unit's STATUS
reply (R42). -/

namespace Sys2Proof.Machine

/-! ### Stray closes (R29) -/

section
variable {s : State} {n : SlotNo}

theorem strayClose_kept (s : State) (e : SlotNo × SlotStatus) : ∃ bus : BusMaster, s.strayClose e = s.setBus bus := by
  unfold State.strayClose
  split
  · exact addLatch_kept _ _ _ _
  · exact ⟨s.bus, rfl⟩

theorem strayCloses_kept (s : State) (m : ModIx) (st : List SlotStatus) :
    (s.strayCloses m st).link = s.link ∧ (s.strayCloses m st).alerts = s.alerts ∧ (s.strayCloses m st).kiosk = s.kiosk := by
  unfold State.strayCloses
  induction reported m st generalizing s with
  | nil => exact ⟨rfl, rfl, rfl⟩
  | cons e l ih =>
    obtain ⟨bus, same⟩ := strayClose_kept s e
    rw [List.foldl_cons, same]
    exact ih (s.setBus bus)

theorem addLatch_latches (s : State) (n : SlotNo) (dir : LatchDir) (c : Option ChanNo) {l : LatchCmd} (there : l ∈ s.bus.latches) :
    l ∈ (s.addLatch n dir c).bus.latches := by
  unfold State.addLatch
  split
  · exact List.mem_append_left _ there
  · exact there

/-- A close that waits stays asked for. -/
theorem strayClose_waits {e : SlotNo × SlotStatus} {l : LatchCmd} (there : l ∈ s.bus.latches) : l ∈ (s.strayClose e).bus.latches := by
  unfold State.strayClose
  split
  · exact addLatch_latches s _ _ _ there
  · exact there

theorem foldl_strayClose_waits {l : LatchCmd} (list : List (SlotNo × SlotStatus)) {s : State} (there : l ∈ s.bus.latches) :
    l ∈ (list.foldl State.strayClose s).bus.latches := by
  induction list generalizing s with
  | nil => exact there
  | cons e list ih => exact ih (strayClose_waits there)

/-- No LATCH command concerns the slot, and no channel holds it. -/
def State.unlatched (s : State) (n : SlotNo) : Prop :=
  s.slotOnline n = true ∧ (s.slot n).channel = none ∧ s.bus.flight = none ∧ ∀ l ∈ s.bus.latches, l.slot ≠ n

theorem latchBusy_unlatched (unlatched : s.unlatched n) : s.latchBusy n = false := by
  obtain ⟨-, -, idle, none_⟩ := unlatched
  rw [State.latchBusy, idle, Bool.or_false, Bool.eq_false_iff]
  intro any
  obtain ⟨l, there, same⟩ := List.any_eq_true.mp any
  exact none_ l there (beq_iff_eq.mp same)

theorem strayClose_closes (unlatched : s.unlatched n) {x : SlotStatus} (isOpen : x.latchOpen = true) :
    s.strayClose (n, x) = s.addLatch n .closeIt none := by
  refine if_pos ?_
  rw [isOpen, unlatched.2.1, latchBusy_unlatched unlatched]
  rfl

theorem strayClose_unlatched (unlatched : s.unlatched n) {e : SlotNo × SlotStatus} (other : e.1 ≠ n ∨ e.2.latchOpen = false) :
    (s.strayClose e).unlatched n := by
  obtain ⟨online, channel, idle, none_⟩ := unlatched
  unfold State.strayClose
  split
  · rename_i closes
    have apart : e.1 ≠ n := other.resolve_right fun shut => by
      rw [shut] at closes
      cases closes
    unfold State.addLatch
    split
    · refine ⟨online, channel, idle, fun l there => ?_⟩
      rcases List.mem_append.mp there with before | added
      · exact none_ l before
      · rw [List.mem_singleton.mp added]
        exact apart
    · exact ⟨online, channel, idle, none_⟩
  · exact ⟨online, channel, idle, none_⟩

theorem addLatch_added (online : s.slotOnline n = true) (dir : LatchDir) (c : Option ChanNo) :
    { slot := n, dir, channel := c, age := s.bus.nextAge, tries := 0 } ∈ (s.addLatch n dir c).bus.latches := by
  rw [State.addLatch, if_pos online]
  exact List.mem_append_right _ (List.mem_singleton.mpr rfl)

theorem foldl_strayClose_asked {x : SlotStatus} (isOpen : x.latchOpen = true) {list : List (SlotNo × SlotStatus)}
    (there : (n, x) ∈ list) {s : State} (unlatched : s.unlatched n) : (list.foldl State.strayClose s).latchAsked n .closeIt none := by
  induction list generalizing s with
  | nil => cases there
  | cons e list ih =>
    by_cases here : e.1 = n ∧ e.2.latchOpen = true
    · obtain ⟨same, opens⟩ := here
      have closes : s.strayClose e = s.addLatch n .closeIt none := same ▸ strayClose_closes (same ▸ unlatched) opens
      rw [List.foldl_cons, closes]
      exact ⟨_, rfl, rfl, rfl, Or.inl (foldl_strayClose_waits list (addLatch_added unlatched.1 .closeIt none))⟩
    · have later : (n, x) ∈ list := (List.mem_cons.mp there).resolve_left fun same => here (same ▸ ⟨rfl, isOpen⟩)
      have other : e.1 ≠ n ∨ e.2.latchOpen = false := (not_and_or.mp here).imp_right Bool.eq_false_iff.mpr
      exact ih later (strayClose_unlatched unlatched other)

end

/-! ### A reply that agrees -/

theorem restored_startMarked (s : State) (m : ModIx) (but : Fin 16 → Bool) (b : Bool) :
    (s.startMarked b).restored m but = (s.restored m but).startMarked b := by
  have slots : (s.startMarked b).restoredSlot m but = s.restoredSlot m but := rfl
  rw [restored_eq_ofFn, restored_eq_ofFn, slots]
  rfl

theorem setSlots_kept (s : State) (v : Vector SlotRec 384) :
    (s.setSlots v).units = s.units ∧ (s.setSlots v).mode = s.mode ∧ (s.setSlots v).release = s.release := ⟨rfl, rfl, rfl⟩

theorem restored_kept (s : State) (m : ModIx) (but : Fin 16 → Bool) :
    (s.restored m but).units = s.units ∧ (s.restored m but).mode = s.mode ∧ (s.restored m but).release = s.release := by
  rw [restored_eq_ofFn]
  exact setSlots_kept s _

theorem restored_change (m : ModIx) (but : Fin 16 → Bool) : ReadChange fun t => t.restored m but where
  form t := restored_form t m but
  marked t b := restored_startMarked t m but b
  causes t x := by rw [State.unit, (restored_kept t m but).1]; rfl
  reported t := by rw [(restored_kept t m but).2.1]

theorem channel_congr {s t : State} (same : s.tables = t.tables) (n : SlotNo) : (s.slot n).channel = (t.slot n).channel :=
  show (s.slot n).bare.channel = (t.slot n).bare.channel from congrArg SlotRec.channel (slot_bare same n)

theorem slot_withSlots (s : State) (l : List SlotNo) (f : SlotRec → SlotRec) (n : SlotNo) :
    (s.withSlots l f).slot n = if n ∈ l then f (s.slot n) else s.slot n := Vector.getElem_ofFn ..

theorem restoredAt_channel (time : Option Nat) (r : SlotRec) : (r.restoredAt time).channel = r.channel := by
  unfold SlotRec.restoredAt
  split <;> rfl

theorem restored_channel (s : State) (m : ModIx) (n : SlotNo) :
    ((s.restored m fun _ => false).slot n).channel = (s.slot n).channel := by
  rw [restored_eq fun _ no => absurd no Bool.false_ne_true, slot_withSlots]
  split
  · exact restoredAt_channel _ _
  · rfl

section
variable {s : State} {addr : Byte} {payload : List Byte}

theorem agreeing_granted {s w : State} {m : ModIx} (heard : Heard s w m) (granted : s.granted) {event : State → State}
    (kept : (event w).release = w.release) : (event w).granted :=
  granted_congr (kept.trans heard.release) granted

/-- A reply that agrees, and the slots it restores. -/
theorem reads_agreeing {i : Instr} {m : ModIx} {st : List SlotStatus} {base : State} (reads : s.reads i m st base)
    (granted : s.granted) (agrees : s.agrees m st fun _ => false) (apart : s.tagsApart) :
    ∃ t : State, exec i s = .next t ∧ t.tables = (base.restored m fun _ => false).tables
      ∧ (i = .statusReply addr payload → t.link = s.link ∧ t.alerts = s.alerts ∧ t.kiosk = s.kiosk)
      ∧ ∀ (p : Fin 16) (x : SlotStatus), st[p.val]? = some x → x.latchOpen = true → (s.slot (slotAt m p)).channel = none →
        (∀ l ∈ s.bus.latches, l.slot ≠ slotAt m p) → t.latchAsked (slotAt m p) .closeIt none := by
  have comes (w : State) (heard : Heard s w m) (full : st.length = 16) :=
    reconcile_agreeing full (heard.agrees agrees) (heard.apart apart) heard.online
  obtain ⟨w, t, heard, full, next, tables, ends, status⟩ := reads_makes (restored_change m fun _ => false) reads
    (fun w heard full => (comes w heard full).1) fun w heard => agreeing_granted (event := fun t => t.restored m fun _ => false) heard granted
      (restored_kept w m _).2.2
  obtain ⟨restored, untold⟩ := comes w heard full
  refine ⟨t, next, tables, fun same => ?_, fun p x at_ isOpen channel unasked => endsIn_asked ends ?_⟩
  · obtain ⟨rfl, rfl⟩ := status addr payload same
    obtain ⟨link, alerts, kiosk⟩ := strayCloses_kept ((s.statusHeard (modUnit m)).reconcile m st) m st
    obtain ⟨keptKiosk, keptAlerts, -⟩ := chooseCommand_kept ((s.statusHeard (modUnit m)).moduleStatus m st)
    exact ⟨(chooseCommand_link _).1.trans (link.trans untold.link), keptAlerts.trans (alerts.trans untold.alerts),
      keptKiosk.trans (kiosk.trans untold.kiosk)⟩
  · refine foldl_strayClose_asked isOpen (reported_mem at_) ⟨?_, ?_, ?_, ?_⟩
    · rw [slotOnline_congr restored, slotOnline_iff, State.unit, (restored_kept w m _).1, moduleOf_slotAt]
      exact heard.online
    · exact (channel_congr restored _).trans ((restored_channel w m _).trans ((face_eq.mp (heard.face _)).2.2.1.trans channel))
    · rw [untold.bus, heard.bus]
      rfl
    · rw [untold.bus, heard.bus]
      exact unasked

/-! ### The chute unit's STATUS reply (R42) -/

theorem readStatusReply_chute {f : Flight} {flap hatch : Byte} (unit : f.unit = chuteIx) (cmd : f.cmd = .status)
    (flapIn : flap = 0 ∨ flap = 1) (hatchIn : hatch = 0 ∨ hatch = 1) :
    readStatusReply [flap, hatch] f = some fun s => s.deliverStatus chuteIx (.chute (flapAt flap) (hatch == 0)) := by
  have read : readStatus chuteIx [flap, hatch] = some (.chute (flapAt flap) (hatch == 0)) := by
    rcases flapIn with rfl | rfl <;> rcases hatchIn with rfl | rfl <;> rfl
  simp only [readStatusReply, cmd, unit, read]
  rfl

theorem statusReply_chute {flap hatch : Byte} (awaits : s.awaits chuteIx .status addr) (flapIn : flap = 0 ∨ flap = 1)
    (hatchIn : hatch = 0 ∨ hatch = 1) :
    Makes s (.statusReply addr [flap, hatch])
      ((s.withUnit chuteIx fun r => { r with misses := 0, resync := false }).chuteSeen flap hatch) := by
  refine makes_reply (deliver := fun s => s.deliverStatus chuteIx (.chute (flapAt flap) (hatch == 0))) awaits rfl
    (fun f unit cmd => readStatusReply_chute unit cmd flapIn hatchIn) ?_
  have seen : (s.landed chuteIx).deliverStatus chuteIx (.chute (flapAt flap) (hatch == 0))
      = (s.statusHeard chuteIx).chuteStatus (flapAt flap) (hatch == 0) := rfl
  rw [seen, chuteStatus_tables _ flapIn, chuteSeen_form, statusHeard_tables, ← chuteSeen_form]

end

/-- Settles O45: what agrees is restored, and the latches reported open with nothing to close them are closed. -/
theorem aStatusReplyThatAgreesRestores : Obligations.AStatusReplyThatAgreesRestores := by
  intro s addr payload i
  refine ⟨fun m st base reads granted agrees apart => reads_agreeing reads granted agrees apart, ?_⟩
  rintro flap hatch awaits rfl flapIn hatchIn
  exact statusReply_chute awaits flapIn hatchIn

end Sys2Proof.Machine
end

section
/-! SUPPORT. A full status that differs from the records at one position, or by a move (R16, R19, R20). -/

namespace Sys2Proof.Machine

/-! ### The changes of the tables -/

theorem emptied_read (n : SlotNo) : ReadChange fun t => t.emptied n where
  form t := emptied_form t n
  marked _ _ := rfl
  causes _ _ := rfl
  reported _ := rfl

theorem filled_read (n : SlotNo) (occ : Occupancy) (tag : Option Nat) : ReadChange fun t => t.filled n occ tag where
  form t := filled_form t n occ tag
  marked _ _ := rfl
  causes _ _ := rfl
  reported _ := rfl

theorem learned_read (n : SlotNo) (k : Nat) : ReadChange fun t => t.learned n k where
  form t := withSlot_form t n (fun r => { r with occ := .held, tag := some k }) fun _ => rfl
  marked _ _ := rfl
  causes _ _ := rfl
  reported _ := rfl

theorem withMissing_read (k : Nat) (missing : Bool) : ReadChange fun t => t.withMissing k missing where
  form t := withMissing_form t k missing
  marked _ _ := rfl
  causes _ _ := rfl
  reported _ := rfl

theorem removedFrom_read (n : SlotNo) (tag : Option Nat) : ReadChange fun t => t.removedFrom n tag where
  form t := removedFrom_form t n tag
  marked t b := by
    rw [removedFrom_eq, removedFrom_eq]
    by_cases noted : t.session.remaining.isSome ∧ t.session.removals.length < 32
    · rw [if_pos noted, if_pos (show (t.startMarked b).session.remaining.isSome ∧ (t.startMarked b).session.removals.length < 32 from noted)]
      rfl
    · rw [if_neg noted,
        if_neg (show ¬ ((t.startMarked b).session.remaining.isSome ∧ (t.startMarked b).session.removals.length < 32) from noted)]
      cases tag <;> rfl
  causes t x := by rw [State.unit, (removedFrom_kept t n tag).2.1]; rfl
  reported t := by
    rw [removedFrom_eq]
    split
    · rfl
    · cases tag <;> rfl

theorem takenLate_read (b : Booking) (now : Nat) : ReadChange fun t => t.takenLate b now where
  form t := takenLate_form t b now
  marked t m := by rw [takenLate_eq, takenLate_eq]; rfl
  causes t x := by rw [takenLate_eq]; rfl
  reported t := by rw [takenLate_eq]; rfl

theorem cameBack_read (k : Nat) (n : SlotNo) : ReadChange fun t => t.cameBack k n where
  form t := cameBack_form t k n
  marked t b := by
    have out : (t.startMarked b).outNumber k = t.outNumber k := rfl
    rw [cameBack_eq, cameBack_eq, out]
    cases t.outNumber k <;> rfl
  causes t x := by rw [unit_cameBack]
  reported t := by
    rw [cameBack_eq]
    cases t.outNumber k <;> rfl

theorem takenLate_release (s : State) (b : Booking) (now : Nat) : (s.takenLate b now).release = s.release := by
  rw [takenLate_eq]
  rfl

/-! ### What the passes do at the position -/

section
variable {s base : State} {i : Instr} {m : ModIx} {st : List SlotStatus} {p : Fin 16} {x : SlotStatus} {event : State → State}

/-- A reconciliation known as a change of the tables, with the UNKNOWN slots restored. -/
theorem makes_restored {but : Fin 16 → Bool} (reads : s.reads i m st base) (granted : s.granted) (change : ReadChange event)
    (release : ∀ w : State, (event w).release = w.release)
    (comes : ∀ w : State, Heard s w m → st.length = 16 → (w.reconcile m st).tables = ((event w).restored m but).tables) :
    Makes s i ((event base).restored m but) := by
  obtain ⟨w, t, -, -, next, tables, -⟩ := reads_makes ((restored_change m but).comp change) reads comes fun w heard =>
    agreeing_granted (event := fun t => (event t).restored m but) heard granted ((restored_kept _ m but).2.2.trans (release w))
  exact ⟨t, next, tables⟩

theorem planAt_eq {w : State} {c : Counted} (st : List SlotStatus) {n : SlotNo} (counted : (w.slot n).countedAs = c) (seen : SlotSeen) :
    (w.planAt st n seen).out = removalAct st c seen ∧ (w.planAt st n seen).into = insertionAct c seen := by
  subst counted
  exact ⟨rfl, rfl⟩

section
variable (at_ : st[p.val]? = some x) (agrees : s.agrees m st fun q => q == p) (apart : s.tagsApart) (full : st.length = 16) {k : Nat}
  (counted : (s.slot (slotAt m p)).countedAs = .held k)

include at_ agrees apart full counted

/-- A key that has gone is removed, and nothing comes in its stead. -/
theorem acts_gone (seen : x.seen = .empty) {w : State} (heard : Heard s w m) :
    (w.planAt st (slotAt m p) x.seen).out = .remove ∧ (w.planAt st (slotAt m p) x.seen).into = .none := by
  obtain ⟨out, into⟩ := planAt_eq st ((heard.countedAs _).trans counted) x.seen
  have gone := removalOf_gone (fun q y atq => agrees_gone at_ agrees apart counted (by rw [seen]; exact SlotSeen.noConfusion) q y atq) full
  rw [out, into, seen]
  exact ⟨gone, rfl⟩

/-- A key in whose stead another has come is removed, and the other inserted. -/
theorem acts_replaced {k' : Nat} (seen : x.seen = .tagged k') (other : k' ≠ k) {w : State} (heard : Heard s w m) :
    (w.planAt st (slotAt m p) x.seen).out = .remove ∧ (w.planAt st (slotAt m p) x.seen).into = .insert (some k') := by
  obtain ⟨out, into⟩ := planAt_eq st ((heard.countedAs _).trans counted) x.seen
  have gone := removalOf_gone (fun q y atq => agrees_gone at_ agrees apart counted
    (by rw [seen]; exact fun same => other (SlotSeen.tagged.inj same)) q y atq) full
  rw [out, into, seen]
  simp only [removalAct, insertionAct, if_neg other, gone, and_self]

end

/-! ### The obligation, case by case -/

section
variable (reads : s.reads i m st base) (granted : s.granted) (apart : s.tagsApart) (at_ : st[p.val]? = some x)
  (channel : (s.slot (slotAt m p)).channel = none) (few : (s.slot (slotAt m p)).chatter < 5)
  (agrees : s.agrees m st fun q => q == p)

include channel few in
theorem heard_slot {w : State} (heard : Heard s w m) :
    (w.slot (slotAt m p)).channel = none ∧ (w.slot (slotAt m p)).chatter < 5 := by
  obtain ⟨-, -, chan, count⟩ := face_eq.mp (heard.face (slotAt m p))
  exact ⟨chan.trans channel, count ▸ few⟩

include reads granted apart at_ channel few agrees

/-- A removal that is no late take. -/
theorem reads_gone {k : Nat} (counted : (s.slot (slotAt m p)).countedAs = .held k) (seen : x.seen = .empty)
    (late : ¬ ∃ (b : Nat) (y : Booking), (s.slot (slotAt m p)).lastRelease = some b ∧ s.booking? b = some y ∧ y.state = .loaded
      ∧ y.key = k) :
    Makes s i (((base.emptied (slotAt m p)).removedFrom (slotAt m p) (some k)).restored m fun q => q == p)
      ∧ ∃ t : State, exec i s = .next t
        ∧ (s.session.remaining = none → s.linkBusy →
          ((∃ (addr : Byte) (payload : List Byte), i = .statusReply addr payload) →
              t.lastReport = some (s.goneReport (slotAt m p) k))
            ∧ (s.link.reports.length ≤ 20 → s.goneReport (slotAt m p) k ∈ t.link.reports.map (·.body))) := by
  have tagged := tag_of_countedAs counted
  have comes (w : State) (heard : Heard s w m) (full : st.length = 16) := by
    obtain ⟨out, into⟩ := acts_gone at_ agrees apart full counted seen heard
    obtain ⟨chan, count⟩ := heard_slot channel few heard
    have key := (heard.tag (slotAt m p)).trans tagged
    have made := reconcile_gone full at_ (heard.agrees agrees) (heard.apart apart) heard.online chan count out into
      (heard.notLate fun k' same => Option.some.inj (key.symm.trans same) ▸ late)
    rw [key] at made
    exact made
  obtain ⟨w, t, heard, full, next, tables, ends, status⟩ := reads_makes
    ((restored_change m fun q => q == p).comp ((removedFrom_read (slotAt m p) (some k)).comp (emptied_read (slotAt m p)))) reads
    (fun w heard full => (comes w heard full).1) fun w heard =>
      agreeing_granted (event := fun t => ((t.emptied (slotAt m p)).removedFrom (slotAt m p) (some k)).restored m fun q => q == p) heard
        granted ((restored_kept _ m _).2.2.trans (removedFrom_kept _ _ _).2.2)
  refine ⟨⟨t, next, tables⟩, t, next, fun session busy => ?_⟩
  obtain ⟨chan, count⟩ := heard_slot channel few heard
  have key := (heard.tag (slotAt m p)).trans tagged
  have removed : w.removal (slotAt m p) none = (w.unexplainedAt (slotAt m p) k).countChange (slotAt m p) :=
    removal_unexplainedAt chan key (heard.notLate fun k' same => Option.some.inj same ▸ late)
  have link : (w.moduleStatus m st).link = ((w.unexplainedAt (slotAt m p) k).countChange (slotAt m p)).link := by
    rw [← removed]
    exact (strayCloses_kept _ m st).1.trans (comes w heard full).2.link
  have open_ : w.session.remaining = none := (congrArg (·.remaining) heard.session).trans session
  have quiet : (w.unexplainedAt (slotAt m p) k).countChange (slotAt m p) = (w.unexplainedAt (slotAt m p) k).counted (slotAt m p) :=
    countChange_uncounted ((unexplainedAt_chattered w _ k).trans (emptied_few (by omega)))
  refine ⟨fun ⟨addr, payload, same⟩ => ?_, fun fits => ?_⟩
  · obtain ⟨rfl, rfl⟩ := status addr payload same
    have told := (unexplained_forced (s := s.statusHeard (modUnit m)) (n := slotAt m p) (k := k) open_ busy).1 (by omega)
    rw [heard.goneReport] at told
    rw [State.lastReport, (chooseCommand_link _).1, link]
    exact told
  · have waits := forced_queued (emptySlot_queued (heard.waits 20 (by omega) (queued_start busy fits)) (by omega) (slotAt m p)) (by omega)
      (slotAt m p) k
    rw [← unexplainedAt_forced open_, emptySlot_goneReport, heard.goneReport] at waits
    rw [quiet] at link
    exact endsIn_queued ends (queued_congr link waits) (by omega) List.mem_cons_self

/-- A late take. -/
theorem reads_late {k now : Nat} {b : Booking} (counted : (s.slot (slotAt m p)).countedAs = .held k) (seen : x.seen = .empty)
    (release : (s.slot (slotAt m p)).lastRelease = some b.number) (found : s.booking? b.number = some b) (loaded : b.state = .loaded)
    (key : b.key = k) (empty : s.release.queue = []) (time : s.time = some now) :
    Makes s i (((base.emptied (slotAt m p)).takenLate b now).restored m fun q => q == p) := by
  refine makes_restored reads granted ((takenLate_read b now).comp (emptied_read (slotAt m p))) (fun w => takenLate_release _ b now)
    fun w heard full => ?_
  obtain ⟨out, into⟩ := acts_gone at_ agrees apart full counted seen heard
  obtain ⟨chan, count⟩ := heard_slot channel few heard
  obtain ⟨y, there, bare⟩ := heard.booking found
  have number : y.number = b.number := show y.bare.number = b.bare.number from congrArg Booking.number bare
  have keys : y.key = b.key := show y.bare.key = b.bare.key from congrArg Booking.key bare
  have state : y.state = b.state := show y.bare.state = b.bare.state from congrArg Booking.state bare
  have made := reconcile_late full at_ (heard.agrees agrees) (heard.apart apart) heard.online chan count (b := y) (now := now) out into
    ((heard.tag _).trans ((tag_of_countedAs counted).trans (by rw [keys, key]))) ((heard.lastRelease _).trans (by rw [number, release]))
    (by rw [number]; exact there) (state.trans loaded) ((congrArg ReleaseUnit.queue heard.release).trans empty) (heard.time.trans time)
  rwa [takenLate_bare _ bare] at made

/-- One key in another's stead. -/
theorem reads_replaced {k k' : Nat} (counted : (s.slot (slotAt m p)).countedAs = .held k) (seen : x.seen = .tagged k') (other : k' ≠ k)
    (nowhere : s.nowhere k')
    (late : ¬ ∃ (b : Nat) (y : Booking), (s.slot (slotAt m p)).lastRelease = some b ∧ s.booking? b = some y ∧ y.state = .loaded
      ∧ y.key = k) :
    Makes s i (((((base.emptied (slotAt m p)).removedFrom (slotAt m p) (some k)).filled (slotAt m p) .held (some k')).cameBack k'
      (slotAt m p)).restored m fun q => q == p) := by
  refine makes_restored reads granted ((cameBack_read k' (slotAt m p)).comp ((filled_read (slotAt m p) .held (some k')).comp
      ((removedFrom_read (slotAt m p) (some k)).comp (emptied_read (slotAt m p)))))
    (fun w => (cameBack_release _ _ _).trans ((removedFrom_kept (w.emptied (slotAt m p)) _ (some k)).2.2)) fun w heard full => ?_
  obtain ⟨out, into⟩ := acts_replaced at_ agrees apart full counted seen other heard
  obtain ⟨chan, count⟩ := heard_slot channel few heard
  have key := (heard.tag (slotAt m p)).trans (tag_of_countedAs counted)
  have made := reconcile_replaced full at_ (heard.agrees agrees) (heard.apart apart) heard.online chan count out into
    (heard.notLate fun k'' same => Option.some.inj (key.symm.trans same) ▸ late) (heard.nowhere nowhere)
  rwa [key] at made

/-- An unread key gone. -/
theorem reads_unreadGone (counted : (s.slot (slotAt m p)).countedAs = .noTag) (untagged : (s.slot (slotAt m p)).tag = none)
    (seen : x.seen = .empty) :
    Makes s i (((base.emptied (slotAt m p)).removedFrom (slotAt m p) none).restored m fun q => q == p) := by
  refine makes_restored (event := fun t => (t.emptied (slotAt m p)).removedFrom (slotAt m p) none) reads granted
    ((removedFrom_read (slotAt m p) none).comp (emptied_read (slotAt m p))) (fun w => (removedFrom_kept (w.emptied (slotAt m p)) _ none).2.2) fun w heard full => ?_
  obtain ⟨out, into⟩ := planAt_eq st ((heard.countedAs _).trans counted) x.seen
  rw [seen] at out into
  obtain ⟨chan, count⟩ := heard_slot channel few heard
  have key := (heard.tag (slotAt m p)).trans untagged
  have made := reconcile_gone full at_ (heard.agrees agrees) (heard.apart apart) heard.online chan count (by rw [seen]; exact out)
    (by rw [seen]; exact into) (heard.notLate fun k same => by rw [key] at same; cases same)
  rw [key] at made
  exact made.1

omit channel few in
/-- The tag of an unread key, learned. -/
theorem reads_learned {k : Nat} (counted : (s.slot (slotAt m p)).countedAs = .noTag) (seen : x.seen = .tagged k) (nowhere : s.nowhere k) :
    Makes s i (((base.learned (slotAt m p) k).cameBack k (slotAt m p)).restored m fun q => q == p) := by
  refine makes_restored reads granted ((cameBack_read k (slotAt m p)).comp (learned_read (slotAt m p) k))
    (fun w => cameBack_release (w.learned (slotAt m p) k) _ _) fun w heard full => ?_
  obtain ⟨out, into⟩ := planAt_eq st ((heard.countedAs _).trans counted) x.seen
  rw [seen] at out into
  exact reconcile_learned full at_ (heard.agrees agrees) (heard.apart apart) heard.online (by rw [seen]; exact out)
    (by rw [seen]; exact into) (heard.nowhere nowhere)

/-- An unread key has come. -/
theorem reads_unread (counted : (s.slot (slotAt m p)).countedAs = .empty) (seen : x.seen = .unread) :
    Makes s i ((base.filled (slotAt m p) .heldNoTag none).restored m fun q => q == p) := by
  refine makes_restored reads granted (filled_read (slotAt m p) .heldNoTag none) (fun _ => rfl) fun w heard full => ?_
  obtain ⟨out, into⟩ := planAt_eq st ((heard.countedAs _).trans counted) x.seen
  rw [seen] at out into
  obtain ⟨chan, count⟩ := heard_slot channel few heard
  exact reconcile_unread full at_ (heard.agrees agrees) (heard.apart apart) heard.online chan count (by rw [seen]; exact out)
    (by rw [seen]; exact into)

/-- A key that was nowhere has come. -/
theorem reads_fresh {k : Nat} (counted : (s.slot (slotAt m p)).countedAs = .empty) (seen : x.seen = .tagged k) (nowhere : s.nowhere k) :
    Makes s i (((base.filled (slotAt m p) .held (some k)).cameBack k (slotAt m p)).restored m fun q => q == p) := by
  refine makes_restored reads granted ((cameBack_read k (slotAt m p)).comp (filled_read (slotAt m p) .held (some k)))
    (fun w => cameBack_release (w.filled (slotAt m p) .held (some k)) _ _) fun w heard full => ?_
  obtain ⟨out, into⟩ := planAt_eq st ((heard.countedAs _).trans counted) x.seen
  rw [seen] at out into
  obtain ⟨chan, count⟩ := heard_slot channel few heard
  exact reconcile_fresh full at_ (heard.agrees agrees) (heard.apart apart) heard.online chan count (by rw [seen]; exact out)
    (by rw [seen]; exact into) (heard.nowhere nowhere)

/-- A key that another slot holds live has been read here too. -/
theorem reads_duplicate {k : Nat} {n' : SlotNo} (counted : (s.slot (slotAt m p)).countedAs = .empty) (seen : x.seen = .tagged k)
    (other : n' ≠ slotAt m p) (held : (s.slot n').occ = .held) (tag : (s.slot n').tag = some k) (online : s.slotOnline n' = true) :
    Makes s i (((base.filled (slotAt m p) .heldNoTag none).withMissing k false).restored m fun q => q == p) := by
  refine makes_restored reads granted ((withMissing_read k false).comp (filled_read (slotAt m p) .heldNoTag none)) (fun _ => rfl)
    fun w heard full => ?_
  obtain ⟨out, into⟩ := planAt_eq st ((heard.countedAs _).trans counted) x.seen
  rw [seen] at out into
  obtain ⟨chan, count⟩ := heard_slot channel few heard
  have live : w.heldLive k (some (slotAt m p)) = true :=
    (heldLive_iff _ _ _).mpr ⟨n', (face_eq.mp (heard.face n')).1.trans held, (heard.tag n').trans tag, heard.slotOnline online,
      fun same => other (Option.some.inj same).symm⟩
  exact reconcile_duplicate full at_ (heard.agrees agrees) (heard.apart apart) heard.online chan count (by rw [seen]; exact out)
    (by rw [seen]; exact into) live

end

/-- A key moved within the module. -/
theorem reads_moved {q : Fin 16} {y : SlotStatus} {k : Nat} (reads : s.reads i m st base) (granted : s.granted) (apart : s.tagsApart)
    (atp : st[p.val]? = some x) (channelP : (s.slot (slotAt m p)).channel = none) (fewP : (s.slot (slotAt m p)).chatter < 5)
    (other : q ≠ p) (atq : st[q.val]? = some y) (agrees : s.agrees m st fun r => r == p || r == q)
    (wasAt : (s.slot (slotAt m p)).countedAs = .held k) (emptyP : x.seen = .empty) (wasEmpty : (s.slot (slotAt m q)).countedAs = .empty)
    (nowAt : y.seen = .tagged k) (channelQ : (s.slot (slotAt m q)).channel = none) (fewQ : (s.slot (slotAt m q)).chatter < 5)
    (noDrop : ∀ e ∈ s.bin.entries, e.tag ≠ some k) :
    Makes s i ((((base.emptied (slotAt m p)).filled (slotAt m q) .held (some k)).cameBack k (slotAt m q)).restored m fun r =>
      r == p || r == q) := by
  refine makes_restored reads granted ((cameBack_read k (slotAt m q)).comp ((filled_read (slotAt m q) .held (some k)).comp
      (emptied_read (slotAt m p))))
    (fun w => cameBack_release ((w.emptied (slotAt m p)).filled (slotAt m q) .held (some k)) _ _) fun w heard full => ?_
  obtain ⟨chanP, countP⟩ := heard_slot channelP fewP heard
  obtain ⟨chanQ, countQ⟩ := heard_slot channelQ fewQ heard
  exact reconcile_moved full other atp atq (heard.agrees agrees) (heard.apart apart) heard.online ((heard.countedAs _).trans wasAt) emptyP
    ((heard.countedAs _).trans wasEmpty) nowAt chanP chanQ countP countQ (heard.dropOfKey noDrop)

end

/-- Settles O46: each difference is the removal, the insertion or the tag learned that it stands for. -/
theorem aStatusReplyThatDiffersIsReconciled : Obligations.AStatusReplyThatDiffersIsReconciled := by
  intro s i m st base p x reads granted apart at_ channel few n late
  refine ⟨?_, ?_⟩
  · intro agrees makes
    refine ⟨?_, ?_, ?_, fun counted => ⟨?_, ?_, ?_⟩⟩
    · intro k counted gone
      refine ⟨?_, ?_, ?_⟩
      · exact fun seen notLate => reads_gone reads granted apart at_ channel few agrees counted seen notLate
      · exact fun b now seen release found loaded key empty time =>
          reads_late reads granted apart at_ channel few agrees counted seen release found loaded key empty time
      · exact fun k' seen other nowhere notLate =>
          reads_replaced reads granted apart at_ channel few agrees counted seen other nowhere notLate
    · exact fun counted untagged seen => reads_unreadGone reads granted apart at_ channel few agrees counted untagged seen
    · exact fun counted k seen nowhere => reads_learned reads granted apart at_ agrees counted seen nowhere
    · exact fun seen => reads_unread reads granted apart at_ channel few agrees counted seen
    · exact fun k seen nowhere => reads_fresh reads granted apart at_ channel few agrees counted seen nowhere
    · exact fun k n' seen other held tag online =>
        reads_duplicate reads granted apart at_ channel few agrees counted seen other held tag online
  · exact fun q y k other atq agrees wasAt emptyP wasEmpty nowAt channelQ fewQ noDrop =>
      reads_moved reads granted apart at_ channel few other atq agrees wasAt emptyP wasEmpty nowAt channelQ fewQ noDrop

end Sys2Proof.Machine
end

section
/-! SUPPORT. The start-up fill (R18): a START probe reply with an empty Directory. -/

namespace Sys2Proof.Machine

/-! ### One slot filled -/

/-- The occupancy and the tag a report stands for in a fill. -/
def SlotSeen.key : SlotSeen → Occupancy × Option Nat
  | .empty => (.empty, none)
  | .unread => (.heldNoTag, none)
  | .tagged k => (.held, some k)

/-- The occupancy and the tag of a slot. -/
def State.keyAt (s : State) (n : SlotNo) : Occupancy × Option Nat := ((s.slot n).occ, (s.slot n).tag)

/-- The keys in the slots, the unit records as far as the tables keep them, and the mode are as they were but at the slots `l`. -/
structure Undisturbed (s t : State) (l : List SlotNo) : Prop where
  keys : ∀ j : SlotNo, j ∉ l → t.keyAt j = s.keyAt j
  units : ∀ u : UnitIx, (t.unit u).bare = (s.unit u).bare
  startOnline : t.mode.startOnline = s.mode.startOnline

theorem Undisturbed.refl (s : State) (l : List SlotNo) : Undisturbed s s l := ⟨fun _ _ => rfl, fun _ => rfl, rfl⟩

theorem Undisturbed.trans {s t u : State} {l : List SlotNo} (h : Undisturbed s t l) (k : Undisturbed t u l) : Undisturbed s u l :=
  ⟨fun j other => (k.keys j other).trans (h.keys j other), fun x => (k.units x).trans (h.units x), k.startOnline.trans h.startOnline⟩

theorem Undisturbed.widen {s t : State} {l l' : List SlotNo} (h : Undisturbed s t l) (wider : l ⊆ l') : Undisturbed s t l' :=
  ⟨fun j other => h.keys j fun there => other (wider there), h.units, h.startOnline⟩

/-- The tables tell what has been left undisturbed. -/
theorem undisturbed_of_tables {s t u : State} {l : List SlotNo} (same : t.tables = u.tables) (h : Undisturbed s u l) :
    Undisturbed s t l := by
  refine ⟨fun j other => ?_, fun x => (unit_bare same x).trans (h.units x), ?_⟩
  · obtain ⟨occ, tag⟩ := occ_tag_congr same j
    exact (Prod.ext occ tag : t.keyAt j = u.keyAt j).trans (h.keys j other)
  · exact (show t.tables.mode.startOnline = u.tables.mode.startOnline by rw [same]).trans h.startOnline

section
variable {s : State} {n : SlotNo}

theorem settle_tables (s : State) (n : SlotNo) (occ : Occupancy) (tag : Option Nat) :
    (s.settle n occ tag).tables = (s.withSlot n fun r => { r with occ, tag, since := s.time }).tables := modSlotLamp_tables _ _ _

theorem fillSlot_settles {seen : SlotSeen} (alone : ∀ k : Nat, seen = .tagged k → ∀ j : SlotNo, (s.slot j).tag ≠ some k) :
    s.fillSlot n seen = s.settle n seen.key.1 seen.key.2 := by
  cases seen with
  | empty => rfl
  | unread => rfl
  | tagged k =>
    have live : s.heldLive k (some n) = false := heldLive_of_untagged fun j _ => alone k rfl j
    have unseen : s.clearLastSeen k (some n) = s := clearLastSeen_of_untagged fun j _ => alone k rfl j
    simp only [State.fillSlot, live, Bool.false_eq_true, if_false, unseen]
    rfl

theorem fillSlot_puts {seen : SlotSeen} (alone : ∀ k : Nat, seen = .tagged k → ∀ j : SlotNo, (s.slot j).tag ≠ some k) :
    (s.fillSlot n seen).keyAt n = seen.key ∧ Undisturbed s (s.fillSlot n seen) [n] := by
  have same := settle_tables s n seen.key.1 seen.key.2
  rw [← fillSlot_settles alone] at same
  obtain ⟨occ, tag⟩ := occ_tag_congr same n
  have here : (s.withSlot n fun r => { r with occ := seen.key.1, tag := seen.key.2, since := s.time }).slot n
      = { s.slot n with occ := seen.key.1, tag := seen.key.2, since := s.time } := slot_withSlot_self ..
  refine ⟨Prod.ext (occ.trans (by rw [here])) (tag.trans (by rw [here])), undisturbed_of_tables same ⟨fun j other => ?_, fun _ => rfl, rfl⟩⟩
  have apart : j ≠ n := fun eq => other (List.mem_singleton.mpr eq)
  rw [State.keyAt, slot_withSlot_ne apart]
  rfl

/-- A fill puts into each of its slots what is reported of it, where no tag of the reports is known and none is reported twice. -/
theorem foldl_fillSlot {l : List (SlotNo × SlotStatus)} {s : State} (nodup : (l.map Prod.fst).Nodup)
    (alone : ∀ (k : Nat) (j : SlotNo), .tagged k ∈ l.map (·.2.seen) → (s.slot j).tag ≠ some k)
    (once : ∀ k : Nat, (l.map (·.2.seen)).count (.tagged k) ≤ 1) :
    (∀ e ∈ l, (l.foldl (fun s p => s.fillSlot p.1 p.2.seen) s).keyAt e.1 = e.2.seen.key)
      ∧ Undisturbed s (l.foldl (fun s p => s.fillSlot p.1 p.2.seen) s) (l.map Prod.fst) := by
  induction l generalizing s with
  | nil => exact ⟨fun _ there => absurd there List.not_mem_nil, Undisturbed.refl s _⟩
  | cons e l ih =>
    obtain ⟨fresh, rest⟩ := List.nodup_cons.mp nodup
    have own : ∀ k : Nat, e.2.seen = .tagged k → ∀ j : SlotNo, (s.slot j).tag ≠ some k := fun k same j =>
      alone k j (same ▸ List.mem_cons_self)
    obtain ⟨put, quiet⟩ := fillSlot_puts (n := e.1) own
    have unused (k : Nat) (later : .tagged k ∈ l.map (·.2.seen)) : e.2.seen ≠ .tagged k := fun same => by
      have twice := once k
      rw [List.map_cons, same, List.count_cons_self] at twice
      exact absurd (List.count_pos_iff.mpr later) (by omega)
    obtain ⟨filled, others⟩ := ih rest (s := s.fillSlot e.1 e.2.seen)
      (fun k j later there => by
        by_cases here : j = e.1
        · have tag : ((s.fillSlot e.1 e.2.seen).slot j).tag = e.2.seen.key.2 := here ▸ congrArg Prod.snd put
          rw [tag] at there
          cases seen : e.2.seen with
          | tagged k' =>
            rw [seen] at there
            cases there
            exact unused k later seen
          | empty => rw [seen] at there; cases there
          | unread => rw [seen] at there; cases there
        · have kept := congrArg Prod.snd (quiet.keys j fun at_ => here (List.mem_singleton.mp at_))
          exact alone k j (List.mem_cons_of_mem _ later) (kept.symm.trans there))
      fun k => (List.count_le_count_cons ..).trans (once k)
    rw [List.foldl_cons]
    refine ⟨fun d there => ?_, (quiet.widen ?_).trans (others.widen (List.subset_cons_self _ _))⟩
    · rcases List.mem_cons.mp there with rfl | later
      · exact (others.keys _ fresh).trans put
      · exact filled d later
    · exact List.cons_subset_cons _ (List.nil_subset _)

end

/-! ### The arbiter's turns leave the keys alone -/

theorem withSlot_keyAt (s : State) (n : SlotNo) {f : SlotRec → SlotRec} (occ : ∀ r, (f r).occ = r.occ) (tag : ∀ r, (f r).tag = r.tag)
    (j : SlotNo) : (s.withSlot n f).keyAt j = s.keyAt j := by
  by_cases here : j = n
  · subst here
    rw [State.keyAt, slot_withSlot_self, occ, tag, State.keyAt]
  · rw [State.keyAt, slot_withSlot_ne here, State.keyAt]

/-- The records of a grant. -/
def State.grantMade (s : State) (e : QueueEntry) (c : ChanNo) : State :=
  ((s.setRelease { s.release with queue := s.release.queue.erase e }).withChan c (.opening e.slot e.booking)).withSlot e.slot
    fun r => { r with queued := false, channel := some c }

theorem grantMade_tables (s : State) (e : QueueEntry) (c : ChanNo) : (s.grant e c).tables = (s.grantMade e c).tables := by
  rw [grant_tables, State.grantMade, withSlot_form _ _ (fun r => { r with queued := false, channel := some c }) fun _ => rfl,
    withChan_form]
  rfl

theorem grant_undisturbed (s : State) (e : QueueEntry) (c : ChanNo) : Undisturbed s (s.grant e c) [] :=
  undisturbed_of_tables (grantMade_tables s e c)
    ⟨fun j _ => withSlot_keyAt ((s.setRelease { s.release with queue := s.release.queue.erase e }).withChan c
        (.opening e.slot e.booking)) e.slot (f := fun r => { r with queued := false, channel := some c }) (fun _ => rfl) (fun _ => rfl) j,
      fun _ => rfl, rfl⟩

theorem abortEntry_undisturbed (s : State) (e : QueueEntry) (cause : AbortCause) : Undisturbed s (s.abortEntry e cause) [] :=
  undisturbed_of_tables (abortEntry_tables s e cause)
    ⟨fun j _ => withSlot_keyAt (s.withBooking e.booking fun b => { b with state := .loaded }) e.slot
        (f := fun r => { r with queued := false }) (fun _ => rfl) (fun _ => rfl) j,
      fun _ => rfl, rfl⟩

theorem arbiterTurns_undisturbed (fuel : Nat) (s : State) : Undisturbed s (State.arbiterTurns fuel s) [] := by
  induction fuel generalizing s with
  | zero => exact Undisturbed.refl s []
  | succ fuel ih =>
    unfold State.arbiterTurns
    split
    · exact Undisturbed.refl s []
    · split
      · split
        · exact Undisturbed.refl s []
        · refine Undisturbed.trans ?_ (ih _)
          split
          · exact grant_undisturbed _ _ _
          · exact abortEntry_undisturbed _ _ _
      · exact Undisturbed.refl s []

theorem arbiter_undisturbed (s : State) : Undisturbed s s.arbiter [] := arbiterTurns_undisturbed _ s

theorem startCheck_undisturbed (s : State) : Undisturbed s s.startCheck [] := by
  obtain ⟨reported, same⟩ := startCheck_tables s
  exact undisturbed_of_tables same ⟨fun _ _ => rfl, fun _ => rfl, rfl⟩

/-! ### The reply -/

theorem probeSlots_filled {s : State} {m : ModIx} {st : List SlotStatus} (empty : s.directory = []) :
    (s.probeHeard (modUnit m) .start).probeSlots m .start st = ((s.probeHeard (modUnit m) .start).fill m st).strayCloses m st :=
  if_pos ⟨rfl, (directory_nil (t := s.probed (modUnit m) .start) (probeHeard_tables s (modUnit m) .start)).mpr empty⟩

/-- Settles O44: the module ONLINE, its slots as reported, and every other slot as it was. -/
theorem aStartProbeReplyFillsTheSlots : Obligations.AStartProbeReplyFillsTheSlots := by
  intro s addr m payload st awaits held empty read alone once
  let w := s.probeHeard (modUnit m) .start
  have full := readProbe_count read
  have heard := probeHeard_heard s m .start
  have reports : (reported m st).map (·.2.seen) = st.map (·.seen) := by
    have second : (reported m st).map Prod.snd = st := by
      rw [reported, List.map_snd_zip]
      rw [List.length_map, positions_eq, List.length_finRange, full]
    exact (List.map_map (g := fun x : SlotStatus => x.seen) (f := Prod.snd) (l := reported m st)).symm.trans
      (congrArg (List.map fun x : SlotStatus => x.seen) second)
  obtain ⟨filled, others⟩ := foldl_fillSlot (s := w) (l := reported m st) (by rw [reported_slots full]; exact slots_nodup m)
    (fun k j there => by rw [heard.tag j]; exact alone k j (reports ▸ there)) (fun k => reports ▸ once k)
  rw [reported_slots full] at others
  have stray : Undisturbed (w.fill m st) ((w.fill m st).strayCloses m st) [] :=
    undisturbed_of_tables (strayCloses_tables _ m st) (Undisturbed.refl _ _)
  have ends : Undisturbed (w.fill m st) (((w.fill m st).strayCloses m st).startCheck.arbiter.chooseCommand) [] :=
    (stray.trans (startCheck_undisturbed _)).trans ((arbiter_undisturbed _).trans
      (undisturbed_of_tables (chooseCommand_tables _) (Undisturbed.refl _ _)))
  have next := probeReply_gives awaits read held (z := ((w.fill m st).strayCloses m st).startCheck.arbiter)
    (by rw [probeSlots_filled empty]; rfl)
  have record : (w.unit (modUnit m)).bare = ((s.unit (modUnit m)).entered).bare :=
    (unit_bare (probeHeard_tables s (modUnit m) .start) (modUnit m)).trans (congrArg UnitRec.bare (unit_withUnit_self s _ UnitRec.entered))
  have unit := ((ends.units (modUnit m)).trans (others.units (modUnit m))).trans record
  have field {α : Type} (f : UnitRec → α) := congrArg f unit
  refine ⟨_, next, field UnitRec.state, field UnitRec.cause, field UnitRec.misses, ?_, fun p x at_ => ?_, fun n other => ?_⟩
  · refine (ends.startOnline.trans others.startOnline).trans ?_
    exact (show w.tables.mode.startOnline = s.mode.startOnline + 1 by rw [probeHeard_tables]; rfl)
  · refine ((ends.keys _ List.not_mem_nil).trans (filled _ (reported_mem at_))).trans ?_
    show x.seen.key = _
    cases x.seen <;> rfl
  · refine ((ends.keys n List.not_mem_nil).trans (others.keys n fun there => other (mem_module_slots.mp there))).trans ?_
    obtain ⟨occ, tag, -, -⟩ := face_eq.mp (heard.face n)
    exact Prod.ext occ tag

end Sys2Proof.Machine
end

section
/-! SUPPORT. The requests that touch no alert and no report while the link is not STANDALONE: what their owners leave as it
is, and what a new record brings. -/

namespace Sys2Proof.Machine

/-! ### What a quiet owner keeps -/

/-- The ports, the Alert List and the LATCH commands as they were, and no alert field changed but a new record's, which is
clear. -/
structure Quiet (s t : State) : Prop where
  link : t.link = s.link
  list : t.alerts.list = s.alerts.list
  kiosk : t.kiosk = s.kiosk
  bus : t.bus = s.bus
  fields : ∀ (x : Subject) (f : AlertFields), t.alertOf x = some f →
    s.alertOf x = some f ∨ (s.alertOf x = none ∧ f = .clear)

theorem Quiet.refl (s : State) : Quiet s s := ⟨rfl, rfl, rfl, rfl, fun _ _ h => .inl h⟩

/-- The conclusion of O54: what a part that has served a quiet command shows at its ports, in its list and its alert fields. -/
def QuietlyServed (s : State) (i : Instr) : Prop :=
  ∃ t : State, exec i s = .next t ∧ t.alerts.list = s.alerts.list ∧ t.link.reports = s.link.reports
    ∧ t.link.counts = s.link.counts ∧ t.kiosk = s.kiosk ∧ (∀ l ∈ t.bus.latches, l ∈ s.bus.latches)
    ∧ ∀ (x : Subject) (f : AlertFields), t.alertOf x = some f →
        s.alertOf x = some f ∨ (s.alertOf x = none ∧ f = { cls := none, waiting := false, acked := none, raised := none })

/-- What changes no alert field at all may follow. -/
theorem Quiet.of_untold {s t u : State} (h : Quiet s t) (k : Untold t u) (same : ∀ x, u.alertOf x = t.alertOf x) : Quiet s u :=
  ⟨k.link.trans h.link, (congrArg AlertUnit.list k.alerts).trans h.list, k.kiosk.trans h.kiosk, k.bus.trans h.bus,
    fun x f there => h.fields x f ((same x).symm.trans there)⟩

theorem relamp_untold (s : State) (n : SlotNo) : Untold s (s.relamp n) :=
  ⟨relamp_link s n, relamp_alerts s n, (relamp_ports s n).1, (relamp_ports s n).2⟩

theorem relampAll_untold (l : List SlotNo) (s : State) : Untold s (s.relampAll l) := by
  induction l generalizing s with
  | nil => exact .refl s
  | cons n l ih => exact (relamp_untold s n).trans (ih (s.relamp n))

theorem frameEnd_counts (s : State) : s.frameEnd.link.counts = s.link.counts := by
  have chosen (p : Prop) [Decidable p] (l : BranchLink) : (if p then l.choose else l).counts = l.counts := by
    split
    · exact BranchLink.choose_counts l
    · rfl
  exact chosen _ { s.link with supervision := some s.params.supervision }

theorem finish_counts {s : State} (a : Answer) (h : s.link.tx ≠ .idle) : (s.finish a).link.counts = s.link.counts := by
  rw [State.finish, (chooseCommand_records _).2.2.2.2.2, placeAnswer_held a h, frameEnd_counts]
  rfl

theorem Quiet.relampAll {s t : State} (h : Quiet s t) (l : List SlotNo) : Quiet s (t.relampAll l) :=
  h.of_untold (relampAll_untold l t) (alertOf_relampAll l t)

/-- A frame whose owner is quiet, heard while the link is not STANDALONE. -/
theorem quiet_takeFrame {s : State} {i : Instr} {kind tag : Byte} {owner : State → State × Reply} (hears : s.hears)
    (attached : s.link.state ≠ .standalone) (e : exec i s = .next (s.event fun s => s.takeFrame kind tag owner))
    (quiet : Quiet s.frameBegin (owner s.frameBegin).1) :
    QuietlyServed s i := by
  have begun := frameBegin_of_not_standalone attached
  have tx : (owner s.frameBegin).1.link.tx ≠ .idle := by rw [quiet.link]; exact frameBegin_tx s
  obtain ⟨link, list, kiosk, bus, fields⟩ := quiet
  refine ⟨_, e.trans (congrArg _ (event_takeFrame s kind tag owner hears)), ?_, ?_, ?_, ?_, fun l there => ?_, fun x f there => ?_⟩
  · exact (congrArg AlertUnit.list (finish_alerts _ _)).trans (list.trans (by rw [begun]; rfl))
  · exact (finish_reports _ tx).trans ((congrArg BranchLink.reports link).trans (by rw [begun]; rfl))
  · exact (finish_counts _ tx).trans ((congrArg BranchLink.counts link).trans (by rw [begun]; rfl))
  · exact (finish_kiosk _ _).trans (kiosk.trans (by rw [begun]; rfl))
  · have kept := chooseCommand_latches (s := State.frameEnd _) l there
    change l ∈ (owner s.frameBegin).1.bus.latches at kept
    rw [bus, begun] at kept
    exact kept
  · have before := fields x f ((finish_alertOf _ _ x).symm.trans there)
    rw [begun] at before
    exact before

/-- A request whose owner is quiet whatever it is asked. -/
theorem quiet_takeRequest {α : Type} {s : State} {i : Instr} {kind : Nat} {tag : Byte} {body : Option α}
    {owner : α → State → State × Reply} (hears : s.hears) (attached : s.link.state ≠ .standalone)
    (e : exec i s = .next (s.takeRequest kind tag body owner)) (quiet : ∀ (b : α) (s : State), Quiet s (owner b s).1) :
    QuietlyServed s i := by
  cases body with
  | none => exact quiet_takeFrame hears attached e (Quiet.refl _)
  | some b => exact quiet_takeFrame (owner := fun s => owner b s) hears attached e (quiet b _)

/-! ### New records -/

/-- What is found in a list that a new member has joined. -/
theorem find?_insertBy {α : Type} {before : α → α → Bool} {p : α → Bool} {x y : α} {l : List α}
    (fresh : l.find? p = none ∨ p x = false) (found : (insertBy before x l).find? p = some y) :
    l.find? p = some y ∨ (l.find? p = none ∧ y = x) := by
  induction l with
  | nil =>
    have := List.mem_of_find?_eq_some found
    exact .inr ⟨rfl, by simpa [insertBy] using this⟩
  | cons z l ih =>
    unfold insertBy at found
    split at found
    · cases hit : p x with
      | true =>
        rw [List.find?_cons_of_pos hit] at found
        exact .inr ⟨fresh.resolve_right (by simp [hit]), (Option.some.inj found).symm⟩
      | false =>
        rw [List.find?_cons_of_neg (by simp [hit])] at found
        exact .inl found
    · cases hit : p z with
      | true =>
        rw [List.find?_cons_of_pos hit] at found ⊢
        exact .inl found
      | false =>
        have miss : ¬ p z = true := by simp [hit]
        rw [List.find?_cons_of_neg miss] at found fresh ⊢
        exact ih fresh found

theorem addKey_quiet {s : State} {tag : Nat} (unit : Nat) (home : Option SlotNo) (fresh : s.entry? tag = none) :
    Quiet s (s.addKey tag unit home) := by
  let new : KeyEntry := { tag, unit, home, missing := false, alert := .clear }
  refine Quiet.relampAll (s := s) (t := s.setDirectory (insertBy (fun a b => decide (a.tag < b.tag)) new s.directory))
    ⟨rfl, rfl, rfl, rfl, fun x f there => ?_⟩ (s.touched tag none home)
  cases x with
  | key k =>
    obtain ⟨e, found, rfl⟩ := Option.map_eq_some_iff.mp there
    have absent : s.directory.find? (fun e => e.tag == k) = none ∨ (tag == k) = false := by
      by_cases same : tag = k
      · subst same; exact .inl fresh
      · exact .inr (by simpa using same)
    obtain old | ⟨none, rfl⟩ := find?_insertBy absent found
    · exact .inl (congrArg (Option.map fun e : KeyEntry => e.alert) old)
    · exact .inr ⟨congrArg (Option.map fun e : KeyEntry => e.alert) none, rfl⟩
  | _ => exact .inl there

theorem addBooking_quiet {s : State} {b : Booking} (fresh : s.booking? b.number = none) (clear : b.alert = .clear) :
    Quiet s (s.addBooking b) := by
  refine ⟨rfl, rfl, rfl, rfl, fun x f there => ?_⟩
  cases x with
  | booking k =>
    obtain ⟨e, found, rfl⟩ := Option.map_eq_some_iff.mp there
    have absent : s.bookings.find? (fun b => b.number == k) = none ∨ (b.number == k) = false := by
      by_cases same : b.number = k
      · subst same; exact .inl fresh
      · exact .inr (by simpa using same)
    obtain old | ⟨none, rfl⟩ := find?_insertBy absent found
    · exact .inl (congrArg (Option.map fun b : Booking => b.alert) old)
    · exact .inr ⟨congrArg (Option.map fun b : Booking => b.alert) none, clear⟩
  | _ => exact .inl there

/-! ### The owners -/

theorem mapEntry_alertOf (s : State) (tag : Nat) (f : KeyEntry → KeyEntry) (number : ∀ e, (f e).tag = e.tag)
    (alert : ∀ e, (f e).alert = e.alert) (x : Subject) : (s.mapEntry tag f).alertOf x = s.alertOf x := by
  cases x with
  | key k =>
    have through : ((fun e : KeyEntry => e.tag == k) ∘ fun e => if e.tag = tag then f e else e) = fun e => e.tag == k := by
      funext e; dsimp only [Function.comp]; split
      · rw [number]
      · rfl
    have same : ((fun e : KeyEntry => e.alert) ∘ fun e => if e.tag = tag then f e else e) = fun e => e.alert := by
      funext e; dsimp only [Function.comp]; split
      · exact alert e
      · rfl
    simp only [State.alertOf, State.entry?, State.mapEntry, State.setDirectory, List.find?_map, Option.map_map, through, same]
  | _ => rfl

theorem keyLoad_quiet (r : KeyLoadReq) (s : State) : Quiet s (s.keyLoad r).1 := by
  rw [keyLoad_eq]
  split
  · change Quiet s (s.keyLoadEffect r)
    unfold State.keyLoadEffect
    split
    · next fresh => exact addKey_quiet _ _ fresh
    · exact ((Quiet.refl s).of_untold (u := s.mapEntry r.tag fun e => { e with unit := r.unit, home := r.wanted })
        ⟨rfl, rfl, rfl, rfl⟩ (mapEntry_alertOf s r.tag _ (fun _ => rfl) fun _ => rfl)).relampAll _
  · exact .refl s

theorem bookingLoad_quiet (r : BookingLoadReq) (s : State) : Quiet s (s.bookingLoad r).1 := by
  rw [bookingLoad_eq]
  split
  · next ok =>
    refine addBooking_quiet (b := r.booking r.wantedKind) ?_ rfl
    have fresh : ¬ (s.bookings.any fun b => b.number == r.number) = true := by
      intro twice
      simp only [State.bookingLoadResult, twice, if_true] at ok
      split at ok <;> try cases ok
      split at ok <;> try cases ok
      split at ok <;> cases ok
    rw [← booking?_isSome_eq_any, Bool.not_eq_true, Option.isSome_eq_false_iff, Option.isNone_iff_eq_none] at fresh
    exact fresh
  · exact .refl s

theorem policySet_quiet (r : PolicySetReq) (s : State) : Quiet s (s.policySet r).1 := by
  unfold State.policySet
  split
  · exact .refl s
  · split
    · exact .refl s
    · exact ⟨rfl, rfl, rfl, rfl, fun _ _ there => .inl there⟩

theorem setMask_quiet (s : State) (m : Option Nat) : Quiet s (s.setAlerts { s.alerts with mask := m }).judgeLines :=
  ⟨rfl, rfl, rfl, rfl, fun _ _ there => .inl there⟩

theorem alertMask_quiet (n : Nat) (s : State) : Quiet s (s.alertMask n).1 := by
  unfold State.alertMask
  split
  · exact .refl s
  · exact setMask_quiet s _

theorem moduleRevive_quiet (a : Nat) (s : State) : Quiet s (s.moduleRevive a).1 := by
  have revived (u : UnitIx) (cause : ProbeCause) : Quiet s (s.revive u cause) :=
    ⟨rfl, rfl, rfl, rfl, fun x _ there => .inl ((alertOf_putUnit s u
      { s.unit u with state := .probing, cause := some cause, misses := 0, attempts := 0, retry := none } rfl x).symm.trans there)⟩
  unfold State.moduleRevive
  split
  · exact .refl s
  · split
    · exact .refl s
    · split
      · exact revived _ _
      · exact revived _ _
      · exact .refl s

/-- A query's owner changes nothing at all. -/
theorem asked_quietly {α : Type} {s : State} {i : Instr} {kind : Nat} {tag : Byte} {body : Option α} {f : State → α → Reply}
    (hears : s.hears) (attached : s.link.state ≠ .standalone)
    (e : exec i s = .next (s.takeRequest kind tag body (asked f))) :
    QuietlyServed s i :=
  quiet_takeRequest hears attached e fun _ s => Quiet.refl s

/-- Settles O54: each owner is quiet, or only answers. -/
theorem quietRequestsTouchNoAlertOrReport : Obligations.QuietRequestsTouchNoAlertOrReport := by
  intro s tag kind body i hears attached one
  simp only [List.mem_cons, List.not_mem_nil, or_false] at one
  obtain rfl | rfl | rfl | rfl | rfl | rfl | rfl | rfl | rfl | rfl | rfl | rfl | rfl | rfl | rfl | rfl | rfl := one
  · exact quiet_takeRequest (owner := fun r s => s.keyLoad r) hears attached rfl keyLoad_quiet
  · exact quiet_takeRequest (owner := fun r s => s.bookingLoad r) hears attached rfl bookingLoad_quiet
  · exact quiet_takeRequest (owner := fun r s => s.policySet r) hears attached rfl policySet_quiet
  · exact quiet_takeRequest (owner := fun n s => s.alertMask n) hears attached rfl alertMask_quiet
  · exact quiet_takeRequest (owner := fun _ s => s.alertUnmask) hears attached rfl fun _ s => setMask_quiet s none
  · exact quiet_takeRequest (owner := fun n s => s.moduleRevive n) hears attached rfl moduleRevive_quiet
  · exact quiet_takeRequest (owner := fun _ s => s.accept) hears attached rfl fun _ s => Quiet.refl s
  · exact asked_quietly (f := State.statusQuery) hears attached rfl
  · exact asked_quietly (f := State.statusQuery) hears attached rfl
  · exact asked_quietly (f := fun (s : State) (r : PairReq) => s.slotQuery r.first r.second) hears attached rfl
  · exact asked_quietly (e := Eq.refl (Host.Outcome.next (s.takeBookingQuery tag body))) hears attached
  · exact asked_quietly (e := Eq.refl (Host.Outcome.next (s.takeBookingQuery tag body))) hears attached
  · exact asked_quietly (f := State.keyQuery) hears attached rfl
  · exact asked_quietly (e := Eq.refl (Host.Outcome.next (s.takeAlertQuery tag body))) hears attached
  · exact asked_quietly (e := Eq.refl (Host.Outcome.next (s.takeAlertQuery tag body))) hears attached
  · exact asked_quietly (f := fun (t : State) (_ : Unit) => t.heartbeat s.link.state) hears attached rfl
  · exact quiet_takeFrame (owner := fun s => (s, { result := .unknownKind, fields := .kindByte kind })) hears attached rfl
      (Quiet.refl _)

end Sys2Proof.Machine
end

section
/-! SUPPORT. Start-up (R168, R169): the state a start-up leads to, condition by condition. -/

namespace Sys2Proof.Machine

/-! ### The conditions that stand at a start-up -/

/-- A condition record whose alert is in the list since a start-up. -/
def Condition.lit (c : Condition) : CondRec :=
  { active := true, alert := { cls := some c.cls, waiting := false, acked := none, raised := none } }

/-- The report of a condition raised at a start-up, the record `k` of the list. -/
def Condition.litReport (k : Nat) (c : Condition) : ReportBody :=
  .alertRaised { subject := .cabinet c, cls := c.cls, listLen := k + 1, waitLen := 0 } 7 none false

/-- `t` is the base of a start-up with the conditions `l` raised in order, after the reports `first`. -/
structure Lit (b : State) (first : List ReportBody) (l : List Condition) (t : State) : Prop where
  frame : t = { b with conds := t.conds, alerts := t.alerts, link := t.link }
  cond : ∀ c, t.cond c = if c ∈ l then c.lit else { active := false, alert := .clear }
  list : t.alerts.list = l.map fun c => { subject := .cabinet c, cls := c.cls, raised := none }
  mask : t.alerts.mask = none
  link : t.link = { BranchLink.start with reports := t.link.reports }
  reports : t.link.reports.map (·.body) = first ++ l.mapIdx Condition.litReport
  untimed : ∀ r ∈ t.link.reports, r.time = none ∧ r.gap = false

/-- What a start-up's conditions read of its base: the default policy, no time, and no alert field set outside the conditions. -/
structure Blank (b : State) : Prop where
  policy : b.policy = Policy.start
  time : b.time = none
  units : ∀ u, (b.unit u).alert = .clear
  slots : ∀ n, (b.slot n).alert = .clear
  directory : b.directory = []
  bookings : b.bookings = []
  bin : b.bin.entries = []

theorem waiterOf_eq_none {x : Subject} {f : AlertFields} (h : f.waiting = false) : waiterOf x f = none := by
  simp [waiterOf, h]

/-- Nobody waits where no record is marked. -/
theorem waiters_eq_nil {s : State} (conds : ∀ c, (s.cond c).alert.waiting = false) (units : ∀ u, (s.unit u).alert.waiting = false)
    (slots : ∀ n, (s.slot n).alert.waiting = false) (directory : s.directory = []) (bookings : s.bookings = [])
    (bin : s.bin.entries = []) : s.waiters = [] := by
  have cabinet : (Condition.all.filterMap fun c => waiterOf (.cabinet c) (s.cond c).alert) = [] :=
    List.filterMap_eq_nil_iff.mpr fun c _ => waiterOf_eq_none (conds c)
  have modules : (allUnits.filterMap fun u => waiterOf (.module u) (s.unit u).alert) = [] :=
    List.filterMap_eq_nil_iff.mpr fun u _ => waiterOf_eq_none (units u)
  have held : (s.slotList.filterMap fun p => waiterOf (.slot p.1) p.2.alert) = [] := by
    refine List.filterMap_eq_nil_iff.mpr fun p there => waiterOf_eq_none ?_
    rw [slotList_eq] at there
    obtain ⟨n, -, rfl⟩ := List.mem_map.mp there
    exact slots n
  simp only [State.waiters, cabinet, modules, held, directory, bookings, bin, List.filterMap_nil, List.append_nil]

section
variable {b t : State} {first : List ReportBody} {l : List Condition}

theorem Lit.waiters (blank : Blank b) (h : Lit b first l t) : t.waiters = [] := by
  obtain ⟨-, -, units, slots, directory, bookings, bin⟩ := blank
  have frame := h.frame
  refine waiters_eq_nil (fun c => ?_) (fun u => ?_) (fun n => ?_) ?_ ?_ ?_
  · rw [h.cond]; split <;> rfl
  · rw [frame]; exact congrArg AlertFields.waiting (units u)
  · rw [frame]; exact congrArg AlertFields.waiting (slots n)
  · rw [frame]; exact directory
  · rw [frame]; exact bookings
  · rw [frame]; exact bin

/-- A report queued while nothing is connected only joins the queue. -/
theorem queueReport_started {s : State} (link : s.link = { BranchLink.start with reports := s.link.reports })
    (room : s.link.reports.length < 32) (r : ReportBody) :
    s.queueReport r =
      s.setLink { BranchLink.start with reports := s.link.reports ++ [{ time := s.time, gap := false, body := r }] } := by
  have joined : s.link.enqueue { time := s.time, gap := false, body := r } =
      { BranchLink.start with reports := s.link.reports ++ [{ time := s.time, gap := false, body := r }] } := by
    rw [link]
    unfold BranchLink.enqueue
    rw [if_neg (by simp only [Config.reportCap]; omega)]
  unfold State.queueReport
  rw [joined]
  rfl

theorem Lit.report (blank : Blank b) (h : Lit b first [] t) (r : ReportBody) (room : first.length < 32) :
    Lit b (first ++ [r]) [] (t.queueReport r) := by
  obtain ⟨frame, cond, list, mask, link, reports, untimed⟩ := h
  have time : t.time = none := by rw [frame]; exact blank.time
  have count : t.link.reports.length = first.length := by simpa using congrArg List.length reports
  rw [queueReport_started link (by omega) r, time]
  refine ⟨by rw [frame]; rfl, cond, list, mask, rfl, ?_, fun q there => ?_⟩
  · simp only [State.setLink_link, List.map_append, reports]
    simp
  · rcases List.mem_append.mp there with old | new
    · exact untimed q old
    · rw [List.mem_singleton.mp new]; exact ⟨rfl, rfl⟩

/-- The state a condition's beginning makes of `t`, before its report. -/
def State.withLit (t : State) (c : Condition) : State :=
  (t.putCond c c.lit).putAlertList (t.alerts.list ++ [{ subject := .cabinet c, cls := c.cls, raised := none }])

theorem cond_putCond (s : State) (c d : Condition) (r : CondRec) : (s.putCond c r).cond d = if d = c then r else s.cond d := by
  cases c <;> cases d <;> simp [State.cond, State.putCond, State.setConds, Condition.ix]

theorem Lit.withLit (blank : Blank b) (h : Lit b first l t) (c : Condition) (room : first.length + l.length < 32) :
    Lit b first (l ++ [c]) ((t.withLit c).queueReport (c.litReport l.length)) := by
  obtain ⟨frame, cond, list, mask, link, reports, untimed⟩ := h
  have time : t.time = none := by rw [frame]; exact blank.time
  have count : t.link.reports.length = first.length + l.length := by simpa using congrArg List.length reports
  rw [queueReport_started (s := t.withLit c) link (by rw [← count] at room; exact room)]
  refine ⟨by rw [frame]; rfl, fun d => ?_, ?_, mask, rfl, ?_, fun q there => ?_⟩
  · have put := cond_putCond t c d c.lit
    refine Eq.trans put ?_
    rw [cond]
    by_cases same : d = c
    · subst same; simp
    · simp [same]
  · change t.alerts.list ++ [_] = _
    rw [list, List.map_append]
    rfl
  · change (t.link.reports ++ [_]).map (fun r : Report => r.body) = _
    rw [List.map_append, reports, List.mapIdx_append]
    simp
  · change q ∈ t.link.reports ++ [_] at there
    rcases List.mem_append.mp there with old | new
    · exact untimed q old
    · rw [List.mem_singleton.mp new]; exact ⟨time, rfl⟩

theorem beginCond_eq {c : Condition} (clear : t.cond c = { active := false, alert := .clear }) (time : t.time = none)
    (enabled : (t.policyOf c.cls).enabled = true) (priority : (t.policyOf c.cls).priority = 7)
    (unlisted : t.listed (.cabinet c) = none) (room : t.alerts.list.length < 8) (waiters : (t.withLit c).waiters = []) :
    t.beginCond c = (t.withLit c).queueReport (c.litReport t.alerts.list.length) := by
  have begun : (t.putCond c { t.cond c with active := true }).cond c = { active := true, alert := .clear } := by
    rw [cond_putCond, if_pos rfl, clear]
  have appended : (t.putCond c { t.cond c with active := true }).appendRecord (.cabinet c) .clear c.cls t.time = t.withLit c := by
    unfold State.appendRecord State.setAlert State.withLit
    dsimp only
    rw [begun, time]
    simp [State.putCond, State.setConds, State.putAlertList, Condition.lit, AlertFields.clear]
  have raised := raiseAlert_room (s := t.putCond c { t.cond c with active := true }) (x := .cabinet c) (c := c.cls)
    (congrArg (fun r : CondRec => some r.alert) begun) enabled (by simp [AlertFields.clear]) unlisted rfl room
  have counted : (t.withLit c).alertInfo (.cabinet c) c.cls =
      { subject := .cabinet c, cls := c.cls, listLen := t.alerts.list.length + 1, waitLen := 0 } := by
    unfold State.alertInfo
    rw [waiters]
    simp [State.withLit, State.putAlertList, State.judgeLines, State.setAlerts]
  rw [State.beginCond, raised]
  change ((t.putCond c _).appendRecord _ _ _ t.time).reportRaised _ _ t.time _ = _
  rw [appended, State.reportRaised, counted, time, show ((t.withLit c).policyOf c.cls).priority = 7 from priority]
  rfl

/-- A condition that begins at a start-up enters the list, and is reported. -/
theorem Lit.begin_ (blank : Blank b) (h : Lit b first l t) {c : Condition} (fresh : c ∉ l)
    (policy : (Policy.start[c.cls.ix] : PolicyEntry).enabled = true ∧ (Policy.start[c.cls.ix] : PolicyEntry).priority = 7)
    (room : l.length < 8) (few : first.length + l.length < 32) : Lit b first (l ++ [c]) (t.beginCond c) := by
  have next := h.withLit blank c few
  have frame := h.frame
  have entry : t.policyOf c.cls = Policy.start[c.cls.ix] := by
    unfold State.policyOf
    rw [frame]
    simp only [blank.policy]
  have unlisted : t.listed (.cabinet c) = none := by
    unfold State.listed
    rw [h.list, List.find?_map, Option.map_eq_none_iff, List.find?_eq_none]
    intro d there same
    have : d = c := by simpa using same
    exact fresh (this ▸ there)
  have count : t.alerts.list.length = l.length := by rw [h.list, List.length_map]
  rw [beginCond_eq (by rw [h.cond, if_neg fresh]) (by rw [frame]; exact blank.time) (by rw [entry]; exact policy.1)
    (by rw [entry]; exact policy.2) unlisted (by rw [count]; exact room) ?_, count]
  · exact next
  · exact (waiters_queueReport _ _).symm.trans (next.waiters blank)

end

/-! ### The start-up itself -/

section
variable (pending : List Instr) (pins : Pins) (cause : StartCause)

theorem startBase_unit (u : UnitIx) :
    (startBase pending pins cause).unit u =
      if (startMode pins cause).level = .lost then { UnitRec.start with state := .dark } else .start := by
  unfold startBase
  dsimp only
  split <;> simp [State.unit, State.startDark, State.setUnits, State.cleared]

theorem startBase_eq :
    startBase pending pins cause =
      { State.cleared pending pins (startMode pins cause) pins.strap2 (budgetOf (startMode pins cause).level) with
        units := (startBase pending pins cause).units } := by
  unfold startBase
  dsimp only
  split <;> rfl

theorem startBase_blank : Blank (startBase pending pins cause) where
  policy := by rw [startBase_eq]; rfl
  time := by rw [startBase_eq]; rfl
  units u := by rw [startBase_unit]; split <;> rfl
  slots n := by rw [startBase_eq]; simp [State.slot, State.cleared, SlotRec.start]
  directory := by rw [startBase_eq]; rfl
  bookings := by rw [startBase_eq]; rfl
  bin := by rw [startBase_eq]; rfl

theorem startBase_lit : Lit (startBase pending pins cause) [] [] (startBase pending pins cause) where
  frame := rfl
  cond c := by rw [startBase_eq]; simp [State.cond, State.cleared]
  list := by rw [startBase_eq]; rfl
  mask := by rw [startBase_eq]; rfl
  link := by rw [startBase_eq]; rfl
  reports := by rw [startBase_eq]; rfl
  untimed r there := by rw [startBase_eq] at there; exact absurd there List.not_mem_nil

/-- What a start-up reports first: the supply level it finds, where that is not GOOD. -/
def startReports (level : SupplyLevel) : List ReportBody :=
  if level = .good then [] else [.supplyState none level (level == .lost) (budgetOf level) 0]

/-- The conditions a start-up finds, in the order in which it begins them. -/
def startConditions (level : SupplyLevel) (panel : Bool) : List Condition :=
  (if level = .good then [] else [.supply]) ++ if panel then [.panelOpen] else []

/-- The state of a start-up before the bus's first command. -/
def startJudged : State :=
  (if (startMode pins cause).level = .good then startBase pending pins cause
    else ((startBase pending pins cause).supplyState none (budgetOf (startMode pins cause).level)).beginCond .supply).judgePanel

theorem startSupply_lit :
    Lit (startBase pending pins cause) (startReports (startMode pins cause).level)
      (if (startMode pins cause).level = .good then [] else [.supply])
      (if (startMode pins cause).level = .good then startBase pending pins cause
        else ((startBase pending pins cause).supplyState none (budgetOf (startMode pins cause).level)).beginCond .supply) := by
  have blank := startBase_blank pending pins cause
  have base := startBase_lit pending pins cause
  unfold startReports
  by_cases good : (startMode pins cause).level = .good
  · simp only [good, if_true]
    exact base
  · simp only [good, if_false]
    have told := base.report blank
      (.supplyState none (startMode pins cause).level ((startMode pins cause).level == .lost) (budgetOf (startMode pins cause).level) 0)
      (by simp)
    have report : (startBase pending pins cause).supplyState none (budgetOf (startMode pins cause).level) =
        (startBase pending pins cause).queueReport (.supplyState none (startMode pins cause).level
          ((startMode pins cause).level == .lost) (budgetOf (startMode pins cause).level) 0) := by
      unfold State.supplyState State.hold State.usedChannels
      rw [startBase_eq]
      rfl
    rw [report]
    exact told.begin_ blank (c := .supply) (by simp) (by decide) (by simp) (by simp)

theorem startJudged_lit :
    Lit (startBase pending pins cause) (startReports (startMode pins cause).level)
      (startConditions (startMode pins cause).level pins.panel) (startJudged pending pins cause) := by
  have blank := startBase_blank pending pins cause
  have before := startSupply_lit pending pins cause
  unfold startJudged startConditions
  generalize (if (startMode pins cause).level = .good then startBase pending pins cause
    else ((startBase pending pins cause).supplyState none (budgetOf (startMode pins cause).level)).beginCond .supply) = t at before ⊢
  have fresh : Condition.panelOpen ∉ (if (startMode pins cause).level = .good then [] else [Condition.supply]) := by
    split <;> simp
  have overrun : Condition.serviceOverrun ∉ (if (startMode pins cause).level = .good then [] else [Condition.supply]) := by
    split <;> simp
  have wanted : (t.mode.panelOpen && !t.inSession && !(t.cond .serviceOverrun).active) = pins.panel := by
    rw [before.cond, if_neg overrun]
    have frame := before.frame
    rw [startBase_eq] at frame
    rw [State.inSession, frame]
    simp [State.cleared, startMode]
  unfold State.judgePanel State.judgeCond
  rw [wanted, before.cond .panelOpen, if_neg fresh]
  cases pins.panel with
  | false => simpa using before
  | true =>
    refine before.begin_ blank fresh (by decide) ?_ ?_
    · split <;> simp
    · unfold startReports; split <;> simp

/-- Before the bus's first command a start-up differs from its base in conditions, alerts and the Branch Link only. -/
theorem startJudged_eq :
    startJudged pending pins cause =
      { State.cleared pending pins (startMode pins cause) pins.strap2 (budgetOf (startMode pins cause).level) with
        units := (startBase pending pins cause).units
        conds := (startJudged pending pins cause).conds
        alerts := (startJudged pending pins cause).alerts
        link := (startJudged pending pins cause).link } := by
  have frame := (startJudged_lit pending pins cause).frame
  rw [startBase_eq] at frame
  exact frame

theorem startJudged_unit (u : UnitIx) :
    (startJudged pending pins cause).unit u =
      if (startMode pins cause).level = .lost then { UnitRec.start with state := .dark } else .start := by
  rw [startJudged_eq]
  exact startBase_unit pending pins cause u

/-- With every unit PROBING the PROBE of the lowest address goes first (R31). -/
theorem nextCommand_startJudged (live : (startMode pins cause).level ≠ .lost) :
    (startJudged pending pins cause).nextCommand = some (0, .probe) := by
  have unit (u : UnitIx) : (startJudged pending pins cause).unit u = .start := by
    rw [startJudged_unit, if_neg live]
  have offline (u : UnitIx) : (startJudged pending pins cause).online u = false := by
    rw [State.online, unit]; rfl
  refine nextCommand_probe (nextLatch_none ?_) ?_ ?_ ?_
  · rw [State.openLatches, startJudged_eq]; rfl
  · rw [State.flapPending, offline]; rfl
  · refine List.find?_eq_none.mpr fun u _ => ?_
    rw [State.statusPending, offline]; simp
  · have every : (startJudged pending pins cause).probePending = fun _ => true := by
      funext u; rw [State.probePending, unit]; rfl
    rw [every]
    decide

theorem startUp_chooses :
    startUp pending pins cause =
      if (startMode pins cause).level = .lost then startJudged pending pins cause
      else (startJudged pending pins cause).setBus
        { latches := [], nextAge := 0, lastPolled := none
          flight := some { unit := 0, cmd := .probe, phase := .transmitting, stale := false } } := by
  have level : (startJudged pending pins cause).mode.level = (startMode pins cause).level := by rw [startJudged_eq]; rfl
  have bus : (startJudged pending pins cause).bus = { latches := [], nextAge := 0, lastPolled := none, flight := none } := by
    rw [startJudged_eq]; rfl
  change (startJudged pending pins cause).chooseCommand = _
  split
  · next lost =>
    unfold State.chooseCommand
    rw [if_pos (by simp [State.hold, level, lost])]
  · next live =>
    rw [chooseCommand_sends (by rw [bus]) (by rw [level]; exact live) (nextCommand_startJudged pending pins cause live)]
    unfold State.send
    dsimp only [State.taken]
    rw [bus]

/-- Two states that differ in the bus only have the same values of what a start-up sets. -/
theorem startUp_eq_judged :
    startUp pending pins cause =
      { startJudged pending pins cause with bus := (startUp pending pins cause).bus } := by
  rw [startUp_chooses]
  split <;> rfl

theorem startUp_judged :
    (startUp pending pins cause).alerts = (startJudged pending pins cause).alerts
      ∧ (startUp pending pins cause).link = (startJudged pending pins cause).link
      ∧ (∀ c, (startUp pending pins cause).cond c = (startJudged pending pins cause).cond c)
      ∧ ∀ u, (startUp pending pins cause).unit u = (startJudged pending pins cause).unit u := by
  rw [startUp_chooses]
  split <;> exact ⟨rfl, rfl, fun _ => rfl, fun _ => rfl⟩

theorem startUp_bus :
    (startUp pending pins cause).bus.latches = [] ∧ (startUp pending pins cause).bus.lastPolled = none
      ∧ (startUp pending pins cause).bus.flight = (if (startMode pins cause).level = .lost then none
        else some { unit := 0, cmd := .probe, phase := .transmitting, stale := false }) := by
  rw [startUp_chooses]
  split
  · rw [startJudged_eq]; exact ⟨rfl, rfl, rfl⟩
  · exact ⟨rfl, rfl, rfl⟩

/-- The blocks of a start-up, all but the conditions, the alerts, the Branch Link and the bus. -/
theorem startUp_blocks :
    startUp pending pins cause =
      { State.cleared pending pins (startMode pins cause) pins.strap2 (budgetOf (startMode pins cause).level) with
        units := (startBase pending pins cause).units
        conds := (startJudged pending pins cause).conds
        alerts := (startJudged pending pins cause).alerts
        link := (startJudged pending pins cause).link
        bus := (startUp pending pins cause).bus } := by
  rw [startUp_eq_judged, startJudged_eq]

theorem startMode_level :
    (startMode pins cause).level = if pins.supa = false then .lost else if pins.supb then .good else .low := by
  unfold startMode supplyLevel
  cases pins.supa <;> simp

theorem startMode_eq (level : SupplyLevel) (h : (startMode pins cause).level = level) :
    startMode pins cause =
      { level, cause, rate := if pins.strap0 then .baud115200 else if pins.strap1 then .baud230400 else .baud57600
        strapFault := pins.strap0 && pins.strap1, panelOpen := pins.panel, startOnline := 0, startReported := false } := by
  subst h
  unfold startMode
  cases pins.strap0 <;> cases pins.strap1 <;> rfl

/-- The condition of a list as `Started` states it, by look-up in the list of the pairs. -/
theorem lookup_conditions (l : List Condition) (c : Condition) :
    (l.map fun c => (c, c.cls)).lookup c = if c ∈ l then some c.cls else none := by
  induction l with
  | nil => rfl
  | cons d l ih =>
    rw [List.map_cons, List.lookup_cons, ih]
    by_cases same : c = d
    · subst same; simp
    · have other : (c == d) = false := beq_false_of_ne same
      simp [other, same]

theorem started : Started pending pins cause (startUp pending pins cause) := by
  obtain ⟨-, cond, list, mask, link, reports, untimed⟩ := startJudged_lit pending pins cause
  obtain ⟨latches, polled, flight⟩ := startUp_bus pending pins cause
  have right := (linesRight_kept.startUp pending pins cause).inv
  have blocks := startUp_blocks pending pins cause
  obtain ⟨alerts, links, conds, units⟩ := startUp_judged pending pins cause
  have unit (u : UnitIx) := (units u).trans (startJudged_unit pending pins cause u)
  unfold Started
  intro level rate listed raised
  have lev : (startMode pins cause).level = level := startMode_level pins cause
  have pairs : listed = (startConditions level pins.panel).map fun c => (c, c.cls) := by
    simp only [listed, startConditions]
    generalize level = l
    cases l <;> cases pins.panel <;> rfl
  rw [startMode_eq pins cause level lev] at blocks
  rw [lev] at unit flight cond list reports
  rw [← links] at link reports untimed
  rw [← alerts] at list mask
  refine ⟨congrArg State.pending blocks, congrArg State.pins blocks, congrArg State.power blocks, congrArg State.mode blocks,
    congrArg State.session blocks, congrArg State.params blocks, congrArg State.policy blocks, congrArg State.time blocks,
    congrArg State.dueList blocks, congrArg State.directory blocks, congrArg State.bookings blocks, fun n => ?slots,
    congrArg (·.release.queue) blocks, fun c => ?chans, ?budget, unit, latches, polled, flight, congrArg State.chute blocks,
    congrArg State.bin blocks, congrArg State.kiosk blocks, congrArg BranchLink.rx link, congrArg BranchLink.tx link,
    congrArg BranchLink.state link, congrArg BranchLink.supervision link, congrArg BranchLink.answers link,
    congrArg BranchLink.counts link, ?reports, untimed, fun c => ?cond, mask, ?list, right⟩
  case slots => rw [blocks]; simp [State.slot, State.cleared]
  case chans => rw [blocks]; simp [State.chan, State.cleared]
  case budget => rw [blocks]; generalize level = l; cases l <;> rfl
  case reports =>
    rw [reports]
    simp only [listed, startReports, startConditions]
    generalize level = l
    cases l <;> cases pins.panel <;> rfl
  case cond =>
    rw [conds, cond, pairs, lookup_conditions]
    by_cases there : c ∈ startConditions level pins.panel
    · rw [if_pos there, if_pos there]; rfl
    · rw [if_neg there, if_neg there]; rfl
  case list => rw [list, pairs, List.map_map]; rfl

end

/-! ### The start-up values (R168, R169) -/

/-- A start-up leaves the bus with nothing to choose. -/
theorem startUp_chosen (pending : List Instr) (pins : Pins) (cause : StartCause) :
    (startUp pending pins cause).chooseCommand = startUp pending pins cause := by
  have flight := (startUp_bus pending pins cause).2.2
  have level : (startUp pending pins cause).mode.level = (startMode pins cause).level :=
    congrArg (·.mode.level) (startUp_blocks pending pins cause)
  unfold State.chooseCommand
  by_cases lost : (startMode pins cause).level = .lost
  · rw [if_pos (by simp [State.hold, level, lost])]
  · rw [if_pos (by simp [flight, lost])]

theorem restarting_iff (s : State) :
    s.restarting = true ↔ ∃ a : Answer, s.link.tx = .sending (.answer a) ∧ a.kind = 0x94 ∧ a.result = .ok := by
  unfold State.restarting
  cases s.link.tx with
  | sending f => cases f <;> simp [LinkFrame.restarts]
  | _ => simp

/-- Settles O3: each of the commands is a start-up (`started`), which leaves the bus nothing to choose. -/
theorem startUpSetsEveryStartUpValue : Obligations.StartUpSetsEveryStartUpValue := by
  intro s pins
  refine ⟨⟨_, rfl, started _ _ _⟩, ⟨_, rfl, started _ _ _⟩, fun a running sending kind ok => ?_, fun running plain => ?_⟩
  · have restarts := (restarting_iff s).mpr ⟨a, sending, kind, ok⟩
    obtain ⟨sent, asked⟩ := restart_starts restarts pins
    have event (f : State → State) (p : Pins) (h : f s = startUp s.pending p .restartRequest) :
        s.event f = startUp s.pending p .restartRequest := by
      rw [State.event, if_neg (by simp [running]), h, startUp_chosen]
    exact ⟨⟨_, congrArg Host.Outcome.next (event State.linkSent s.pins sent), started _ _ _⟩,
      ⟨_, congrArg Host.Outcome.next (event (fun s => s.restartNow pins) pins asked), started _ _ _⟩⟩
  · refine gives_event _ rfl running ?_
    have idle : ¬ s.restarting = true := fun restarts => by
      obtain ⟨a, sending, accepted⟩ := (restarting_iff s).mp restarts
      exact plain a sending accepted
    exact if_neg idle

/-- The state after reset is the start-up at the pins of log 1. -/
theorem startUp_atReset : startUp [] Pins.atReset .powerOn = State.reset := rfl

/-- Settles O2: a start-up has every invariant, and at the reset pins it is `State.reset`. -/
theorem resetIsAPowerOnStart : Obligations.ResetIsAPowerOnStart := by
  obtain ⟨ports, list, tables, settings, time⟩ := (bounded_kept.startUp [] Pins.atReset .powerOn).inv
  have ordered := startUp_ordered [] Pins.atReset .powerOn
  have lines := (linesRight_kept.startUp [] Pins.atReset .powerOn).inv
  have quiet := (holdQuiet_kept.startUp [] Pins.atReset .powerOn).inv
  have start := started [] Pins.atReset .powerOn
  rw [startUp_atReset] at ports list tables settings time ordered lines quiet start
  exact ⟨fun _ => rfl, start, rfl, ports, list, tables, ordered, settings, time, lines, quiet⟩

end Sys2Proof.Machine
end

section
/-! SUPPORT. What aborts do (R93, R94): one relation between the state before and after any number of them, kept by the free of a
channel and by the end of a queue entry. -/

namespace Sys2Proof.Machine

/-! ### Bookings set LOADED -/

/-- The booking, LOADED if its number is one of `ns`. -/
def Booking.loadedIf (ns : List Nat) (b : Booking) : Booking := if b.number ∈ ns then { b with state := .loaded } else b

theorem Booking.loadedIf_bare (ns : List Nat) (b : Booking) : (b.loadedIf ns).bare = b.bare.loadedIf ns := by
  unfold Booking.loadedIf
  by_cases there : b.number ∈ ns <;> simp [Booking.bare, there]

theorem Booking.loadedIf_number (ns : List Nat) (b : Booking) : (b.loadedIf ns).number = b.number := by
  unfold Booking.loadedIf; split <;> rfl

theorem Booking.loadedIf_key (ns : List Nat) (b : Booking) : (b.loadedIf ns).key = b.key := by
  unfold Booking.loadedIf; split <;> rfl

theorem Booking.loadedIf_source (ns : List Nat) (b : Booking) : (b.loadedIf ns).source = b.source := by
  unfold Booking.loadedIf; split <;> rfl

theorem Booking.loadedIf_nil (b : Booking) : b.loadedIf [] = b := if_neg List.not_mem_nil

theorem Booking.loadedIf_append (ns ms : List Nat) (b : Booking) : (b.loadedIf ns).loadedIf ms = b.loadedIf (ns ++ ms) := by
  unfold Booking.loadedIf
  by_cases first : b.number ∈ ns <;> by_cases second : b.number ∈ ms <;> simp [first, second]

theorem map_loadedIf_bare (ns : List Nat) (l : List Booking) :
    (l.map (Booking.loadedIf ns)).map Booking.bare = (l.map Booking.bare).map (Booking.loadedIf ns) := by
  simp [Function.comp_def, Booking.loadedIf_bare]

/-- A channel in phase OPENING or OPEN, with its slot, its booking and its phase (R84). -/
def Channel.uses (x : Channel) (n : SlotNo) (b : Nat) (phase : ReleasePhase) : Prop :=
  x = .opening n b ∧ phase = .opening ∨ (∃ d : Nat, x = .opened n b d) ∧ phase = .opened

theorem Channel.uses_slot {x : Channel} {n : SlotNo} {b : Nat} {phase : ReleasePhase} (h : x.uses n b phase) : x.slot? = some n := by
  obtain ⟨rfl, -⟩ | ⟨⟨d, rfl⟩, -⟩ := h <;> rfl

/-! ### The relation -/

/-- What aborts never touch: all of the tables but slots, units, bookings, the Release Queue and the channels. -/
def State.elsewhere (s : State) : State :=
  { s.tables with
    slots := Vector.replicate 384 .start, units := Vector.replicate 25 .start, bookings := []
    release := { queue := [], channels := Vector.replicate 4 .free, budget := s.release.budget } }

theorem elsewhere_congr {s t : State} (same : s.tables = t.tables) : s.elsewhere = t.elsewhere := by
  unfold State.elsewhere
  rw [same, release_tables same]

/-- `t` is reached from `s` by aborts that set the bookings `ns` LOADED. -/
structure Aborted (s t : State) (ns : List Nat) : Prop where
  keys : ∀ n, t.keyAt n = s.keyAt n
  service : ∀ n, (t.slot n).service = (s.slot n).service
    ∨ ((s.slot n).service = .quarantinePending ∧ (t.slot n).service = .quarantined)
  queued : ∀ n, (t.slot n).queued = (s.slot n).queued ∨ (t.slot n).queued = false
  channel : ∀ n, (t.slot n).channel = (s.slot n).channel ∨ (t.slot n).channel = none
  last : ∀ n, (t.slot n).lastRelease = (s.slot n).lastRelease
    ∨ ∃ k b phase, (s.chan k).uses n b phase ∧ (t.slot n).lastRelease = some b
  state : ∀ u, (t.unit u).state = (s.unit u).state
  mark : ∀ u, (t.unit u).retireMark = (s.unit u).retireMark
  counted : ∀ u, (s.unit u).quarantined ≤ (t.unit u).quarantined
  chan : ∀ k, t.chan k = s.chan k ∨ t.chan k = .free
  queue : t.release.queue.Sublist s.release.queue
  bookings : t.bookings.map Booking.bare = (s.bookings.map (Booking.loadedIf ns)).map Booking.bare
  rest : t.elsewhere = s.elsewhere

theorem Aborted.refl (s : State) : Aborted s s [] where
  keys _ := rfl
  service _ := .inl rfl
  queued _ := .inl rfl
  channel _ := .inl rfl
  last _ := .inl rfl
  state _ := rfl
  mark _ := rfl
  counted _ := le_refl _
  chan _ := .inl rfl
  queue := .refl _
  bookings := by rw [map_loadedIf_bare]; simp [Booking.loadedIf_nil]
  rest := rfl

theorem Aborted.trans {s t u : State} {ns ms : List Nat} (h : Aborted s t ns) (k : Aborted t u ms) : Aborted s u (ns ++ ms) where
  keys n := (k.keys n).trans (h.keys n)
  service n := by
    rcases k.service n with same | ⟨was, is⟩
    · rw [same]; exact h.service n
    · rcases h.service n with same' | ⟨was', is'⟩
      · exact .inr ⟨same' ▸ was, is⟩
      · exact .inr ⟨was', is⟩
  queued n := (k.queued n).imp_left (fun same => same) |>.elim (fun same => by rw [same]; exact h.queued n) .inr
  channel n := (k.channel n).elim (fun same => by rw [same]; exact h.channel n) .inr
  last n := by
    rcases k.last n with same | ⟨c, b, phase, uses, last⟩
    · rw [same]; exact h.last n
    · refine .inr ⟨c, b, phase, ?_, last⟩
      rcases h.chan c with same | free
      · rwa [← same]
      · rw [free] at uses
        exact absurd (Channel.uses_slot uses) nofun
  state x := (k.state x).trans (h.state x)
  mark x := (k.mark x).trans (h.mark x)
  counted x := (h.counted x).trans (k.counted x)
  chan c := (k.chan c).elim (fun same => by rw [same]; exact h.chan c) .inr
  queue := k.queue.trans h.queue
  bookings := by
    have both : (s.bookings.map (Booking.loadedIf ns)).map (Booking.loadedIf ms) = s.bookings.map (Booking.loadedIf (ns ++ ms)) := by
      rw [List.map_map]
      exact List.map_congr_left fun b _ => Booking.loadedIf_append ns ms b
    rw [k.bookings, map_loadedIf_bare, h.bookings, ← map_loadedIf_bare, both]
  rest := k.rest.trans h.rest

/-- A field of a record that the tables keep. -/
theorem slot_congr {s t : State} (same : t.tables = s.tables) (n : SlotNo) {α : Type} (f : SlotRec → α)
    (kept : ∀ r : SlotRec, f r.bare = f r) : f (t.slot n) = f (s.slot n) := by
  rw [← kept, slot_bare same, kept]

theorem unit_congr {s t : State} (same : t.tables = s.tables) (u : UnitIx) {α : Type} (f : UnitRec → α)
    (kept : ∀ r : UnitRec, f r.bare = f r) : f (t.unit u) = f (s.unit u) := by
  rw [← kept, unit_bare same, kept]

/-- The tables tell what has been aborted. -/
theorem aborted_of_tables {s t t' : State} {ns : List Nat} (same : t.tables = t'.tables) (h : Aborted s t' ns) : Aborted s t ns := by
  have service (n : SlotNo) := slot_congr same n SlotRec.service fun _ => rfl
  have queued (n : SlotNo) := slot_congr same n SlotRec.queued fun _ => rfl
  have channel (n : SlotNo) := slot_congr same n SlotRec.channel fun _ => rfl
  have last (n : SlotNo) := slot_congr same n SlotRec.lastRelease fun _ => rfl
  have counted (u : UnitIx) := unit_congr same u UnitRec.quarantined fun _ => rfl
  refine ⟨fun n => ?_, fun n => ?_, fun n => ?_, fun n => ?_, fun n => ?_, fun u => ?_, fun u => ?_, fun u => ?_, fun k => ?_, ?_,
    ?_, (elsewhere_congr same).trans h.rest⟩
  · obtain ⟨occ, tag⟩ := occ_tag_congr same n
    exact (Prod.ext occ tag : t.keyAt n = t'.keyAt n).trans (h.keys n)
  · rw [service]; exact h.service n
  · rw [queued]; exact h.queued n
  · rw [channel]; exact h.channel n
  · rw [last]; exact h.last n
  · exact (unit_congr same u UnitRec.state fun _ => rfl).trans (h.state u)
  · exact (unit_congr same u UnitRec.retireMark fun _ => rfl).trans (h.mark u)
  · rw [counted]; exact h.counted u
  · rw [chan_congr same]; exact h.chan k
  · rw [release_tables same]; exact h.queue
  · exact (congrArg State.bookings same).trans h.bookings

/-! ### The single updates -/

section
variable {s : State}

/-- A slot record changed in its service, its queue mark or its channel. -/
theorem aborted_withSlot (n : SlotNo) (f : SlotRec → SlotRec)
    (key : (f (s.slot n)).occ = (s.slot n).occ ∧ (f (s.slot n)).tag = (s.slot n).tag)
    (service : (f (s.slot n)).service = (s.slot n).service
      ∨ ((s.slot n).service = .quarantinePending ∧ (f (s.slot n)).service = .quarantined))
    (queued : (f (s.slot n)).queued = (s.slot n).queued ∨ (f (s.slot n)).queued = false)
    (channel : (f (s.slot n)).channel = (s.slot n).channel ∨ (f (s.slot n)).channel = none)
    (last : (f (s.slot n)).lastRelease = (s.slot n).lastRelease
      ∨ ∃ k b phase, (s.chan k).uses n b phase ∧ (f (s.slot n)).lastRelease = some b) : Aborted s (s.withSlot n f) [] := by
  have read (m : SlotNo) (P : SlotRec → SlotRec → Prop) (here : m = n → P (f (s.slot m)) (s.slot m)) (same : P (s.slot m) (s.slot m)) :
      P ((s.withSlot n f).slot m) (s.slot m) := by
    by_cases eq : m = n
    · subst eq; rw [slot_withSlot_self]; exact here rfl
    · rw [slot_withSlot_ne eq]; exact same
  have base := Aborted.refl s
  refine ⟨fun m => ?_, fun m => ?_, fun m => ?_, fun m => ?_, fun m => ?_, base.state, base.mark, base.counted, base.chan, base.queue,
    base.bookings, rfl⟩
  · refine read m (fun r q => (r.occ, r.tag) = (q.occ, q.tag)) (fun eq => ?_) rfl
    subst eq; exact Prod.ext key.1 key.2
  · exact read m (fun r q => r.service = q.service ∨ (q.service = .quarantinePending ∧ r.service = .quarantined))
      (fun eq => by subst eq; exact service) (.inl rfl)
  · exact read m (fun r q => r.queued = q.queued ∨ r.queued = false) (fun eq => by subst eq; exact queued) (.inl rfl)
  · exact read m (fun r q => r.channel = q.channel ∨ r.channel = none) (fun eq => by subst eq; exact channel) (.inl rfl)
  · exact read m (fun r q => r.lastRelease = q.lastRelease ∨ ∃ k b phase, (s.chan k).uses m b phase ∧ r.lastRelease = some b)
      (fun eq => by subst eq; exact last) (.inl rfl)

theorem aborted_withUnit (u : UnitIx) (f : UnitRec → UnitRec) (state : (f (s.unit u)).state = (s.unit u).state)
    (mark : (f (s.unit u)).retireMark = (s.unit u).retireMark) (counted : (s.unit u).quarantined ≤ (f (s.unit u)).quarantined) :
    Aborted s (s.withUnit u f) [] := by
  have read (v : UnitIx) (P : UnitRec → UnitRec → Prop) (here : v = u → P (f (s.unit v)) (s.unit v)) (same : P (s.unit v) (s.unit v)) :
      P ((s.withUnit u f).unit v) (s.unit v) := by
    rw [unit_withUnit]
    split
    · next eq => subst eq; exact here rfl
    · exact same
  have base := Aborted.refl s
  exact ⟨base.keys, base.service, base.queued, base.channel, base.last,
    fun v => read v (fun r q => r.state = q.state) (fun eq => by subst eq; exact state) rfl,
    fun v => read v (fun r q => r.retireMark = q.retireMark) (fun eq => by subst eq; exact mark) rfl,
    fun v => read v (fun r q => q.quarantined ≤ r.quarantined) (fun eq => by subst eq; exact counted) (le_refl _),
    base.chan, base.queue, base.bookings, rfl⟩

theorem chan_withChan (c k : ChanNo) (x : Channel) : (s.withChan c x).chan k = if k = c then x else s.chan k := by
  unfold State.chan State.withChan
  by_cases same : k = c
  · subst same; simp
  · have other : ¬ (c : Nat) = k := fun eq => same (Fin.ext eq.symm)
    simp [same, other]

theorem aborted_withChan (c : ChanNo) : Aborted s (s.withChan c .free) [] := by
  have base := Aborted.refl s
  refine ⟨base.keys, base.service, base.queued, base.channel, base.last, base.state, base.mark, base.counted, fun k => ?_,
    base.queue, base.bookings, rfl⟩
  rw [chan_withChan]
  split
  · exact .inr rfl
  · exact .inl rfl

theorem aborted_withBooking (b : Nat) : Aborted s (s.withBooking b fun k => { k with state := .loaded }) [b] := by
  have base := Aborted.refl s
  refine ⟨base.keys, base.service, base.queued, base.channel, base.last, base.state, base.mark, base.counted, base.chan,
    base.queue, ?_, rfl⟩
  refine congrArg _ (List.map_congr_left fun k _ => ?_)
  simp only [Booking.loadedIf, List.mem_singleton]

theorem aborted_erase (e : QueueEntry) : Aborted s (s.setRelease { s.release with queue := s.release.queue.erase e }) [] := by
  have base := Aborted.refl s
  exact ⟨base.keys, base.service, base.queued, base.channel, base.last, base.state, base.mark, base.counted, base.chan,
    List.erase_sublist, base.bookings, rfl⟩

end

end Sys2Proof.Machine
end

section
/-! SUPPORT. The channels on some slots freed without a take (R84, R93, R94): the records, the reports and the notices. -/

namespace Sys2Proof.Machine

/-! ### One channel -/

section
variable {s : State}

theorem outOfService_aborted {n : SlotNo} (pending : (s.slot n).service = .quarantinePending) :
    Aborted s (s.outOfService n id) [] := by
  have slot : Aborted s (s.withSlot n fun r => { r with service := .quarantined, faults := id r.faults }) [] :=
    aborted_withSlot n _ ⟨rfl, rfl⟩ (.inr ⟨pending, rfl⟩) (.inl rfl) (.inl rfl) (.inl rfl)
  refine slot.trans (aborted_withUnit (s := s.withSlot n fun r => { r with service := .quarantined, faults := id r.faults }) _ _ rfl rfl ?_)
  dsimp only
  split
  · exact le_refl _
  · exact Nat.le_succ _

theorem freed_aborted (c : ChanNo) (n : SlotNo) : Aborted s (s.freed c n) [] := by
  have free := aborted_withChan (s := s) c
  have slot : Aborted (s.withChan c .free) ((s.withChan c .free).withSlot n fun r => { r with channel := none }) [] :=
    aborted_withSlot n _ ⟨rfl, rfl⟩ (.inl rfl) (.inl rfl) (.inr rfl) (.inl rfl)
  unfold State.freed
  dsimp only
  split
  · next pending =>
    refine (free.trans slot).trans (outOfService_aborted ?_)
    rw [slot_withSlot_self]
    exact pending
  · exact free.trans slot

/-- The slot of a freed channel. -/
theorem freed_slot (c : ChanNo) (n : SlotNo) :
    ((s.freed c n).slot n).channel = none
      ∧ ((s.slot n).service = .quarantinePending → ((s.freed c n).slot n).service = .quarantined) := by
  unfold State.freed
  dsimp only
  split
  · have out (t : State) : (t.outOfService n id).slot n = { t.slot n with service := .quarantined, faults := id (t.slot n).faults } :=
      slot_withSlot_self t n fun r => { r with service := .quarantined, faults := id r.faults }
    rw [out, slot_withSlot_self]
    exact ⟨rfl, fun _ => rfl⟩
  · next serves =>
    rw [slot_withSlot_self]
    exact ⟨rfl, fun pending => absurd pending serves⟩

theorem chan_freed (c k : ChanNo) (n : SlotNo) : (s.freed c n).chan k = if k = c then .free else s.chan k := by
  rw [← chan_withChan (s := s) c k .free]
  unfold State.freed
  dsimp only
  split <;> rfl

/-- The records of a channel freed without a take: the booking LOADED again, the slot's last release set. -/
def State.chanAborted (s : State) (c : ChanNo) (n : SlotNo) (b : Nat) : State :=
  ((s.freed c n).withBooking b fun y => { y with state := .loaded }).withSlot n fun r => { r with lastRelease := some b }

theorem chanAborted_aborted {c : ChanNo} {n : SlotNo} {b : Nat} {phase : ReleasePhase} (uses : (s.chan c).uses n b phase) :
    Aborted s (s.chanAborted c n b) [b] := by
  have before : Aborted s ((s.freed c n).withBooking b fun y => { y with state := .loaded }) [b] :=
    (freed_aborted c n).trans (aborted_withBooking b)
  let z := (s.freed c n).withBooking b fun y => { y with state := .loaded }
  have read (m : SlotNo) (P : SlotRec → Prop) (kept : P (z.slot m)) (set : ∀ r : SlotRec, P r → P { r with lastRelease := some b }) :
      P ((s.chanAborted c n b).slot m) := by
    by_cases here : m = n
    · subst here
      rw [State.chanAborted, slot_withSlot_self]
      exact set _ kept
    · rw [State.chanAborted, slot_withSlot_ne here]
      exact kept
  refine ⟨fun m => ?_, fun m => ?_, fun m => ?_, fun m => ?_, fun m => ?_, before.state, before.mark, before.counted, before.chan,
    before.queue, before.bookings, before.rest⟩
  · exact read m (fun r => (r.occ, r.tag) = s.keyAt m) (before.keys m) fun _ h => h
  · exact read m (fun r => r.service = (s.slot m).service ∨ ((s.slot m).service = .quarantinePending ∧ r.service = .quarantined))
      (before.service m) fun _ h => h
  · exact read m (fun r => r.queued = (s.slot m).queued ∨ r.queued = false) (before.queued m) fun _ h => h
  · exact read m (fun r => r.channel = (s.slot m).channel ∨ r.channel = none) (before.channel m) fun _ h => h
  · by_cases here : m = n
    · subst here
      rw [State.chanAborted, slot_withSlot_self]
      exact .inr ⟨c, b, phase, uses, rfl⟩
    · rw [State.chanAborted, slot_withSlot_ne here]
      exact before.last m

theorem openFailed_aborts {c : ChanNo} {n : SlotNo} (chan : (s.chan c).slot? = some n) (b : Nat) :
    (s.openFailed c n b).tables = (s.chanAborted c n b).tables := by
  rw [State.openFailed, State.chanAborted, withSlot_form _ _ (fun r => { r with lastRelease := some b }) fun _ => rfl,
    withSlot_form _ _ (fun r => { r with lastRelease := some b }) fun _ => rfl, State.givenUp, toLoaded_form, freeChannel_form chan,
    withBooking_form _ _ (fun y => { y with state := .loaded }) fun _ => rfl, freed_form]

/-- The report of a release that is aborted. -/
def State.abortedReport (s : State) (n : SlotNo) (b : Nat) (phase : ReleasePhase) (cause : AbortCause) : ReportBody :=
  .releaseAborted (s.relInfo b n) (s.sourceOf b) phase cause

theorem abortChannel_uses {c : ChanNo} {n : SlotNo} {b : Nat} {phase : ReleasePhase} (uses : (s.chan c).uses n b phase)
    (cause : AbortCause) :
    s.abortChannel c cause true =
      (s.openFailed c n b).told (s.abortedReport n b phase cause) (s.sourceOf b) b .aborted := by
  obtain ⟨chan, rfl⟩ | ⟨⟨d, chan⟩, rfl⟩ := uses
  · exact abortChannel_opening_last chan cause
  · simp only [State.abortChannel, chan]
    rfl

/-- A channel that is no release any more is only freed. -/
theorem abortChannel_closing {c : ChanNo} {n : SlotNo} {b : Nat} {why : CloseReason} (chan : s.chan c = .closing n b why)
    (cause : AbortCause) (setLast : Bool) : s.abortChannel c cause setLast = s.freeChannel c := by
  simp only [State.abortChannel, chan]

end

/-! ### Notices that wait -/

/-- The Kiosk Port is sending, each of the notices `xs` waits, and at most `n` wait in all. -/
def State.noticed (xs : List Notice) (n : Nat) (s : State) : Prop :=
  s.kioskBusy ∧ (∀ x ∈ xs, x ∈ s.kiosk.notices) ∧ s.kiosk.notices.length ≤ n

theorem noticed_congr {xs : List Notice} {n : Nat} {s t : State} (same : t.kiosk = s.kiosk) (h : s.noticed xs n) : t.noticed xs n := by
  rw [State.noticed, State.kioskBusy, same]
  exact h

theorem noticed_mono {xs : List Notice} {n m : Nat} {s : State} (h : s.noticed xs n) (le : n ≤ m) : s.noticed xs m :=
  ⟨h.1, h.2.1, h.2.2.trans le⟩

/-- The notice of a release, where its source is the kiosk. -/
def noticeOf (source : Option Source) (booking : Nat) (event : NoticeEvent) : List Notice :=
  if source = some .kiosk then [{ booking, event }] else []

theorem noticed_told {xs : List Notice} {n : Nat} {s : State} (h : s.noticed xs n) (room : n < 4) (r : ReportBody)
    (source : Option Source) (booking : Nat) (event : NoticeEvent) :
    (s.told r source booking event).noticed (noticeOf source booking event ++ xs) (n + 1) := by
  have reported : (s.queueReport r).noticed xs n := noticed_congr rfl h
  unfold State.told State.noticeFor noticeOf
  split
  · obtain ⟨busy, wait, few⟩ := reported
    have placed : (s.queueReport r).kiosk.enqueue { booking, event } =
        { (s.queueReport r).kiosk with notices := (s.queueReport r).kiosk.notices ++ [{ booking, event }] } :=
      if_neg (by simp only [Config.noticeCap]; omega)
    rw [placeNotice_busy booking event busy, placed]
    refine ⟨busy, fun x there => ?_, ?_⟩
    · rcases List.mem_append.mp there with new | old
      · exact List.mem_append_right _ new
      · exact List.mem_append_left _ (wait x old)
    · simp only [State.setKiosk, List.length_append, List.length_singleton]
      omega
  · exact noticed_mono reported (Nat.le_succ n)

/-! ### What bookings say after aborts -/

section
variable {s t : State} {ns : List Nat}

theorem find?_loadedIf (k : Nat) (l : List Booking) :
    (l.map (Booking.loadedIf ns)).find? (fun b => b.number == k) = (l.find? fun b => b.number == k).map (Booking.loadedIf ns) := by
  rw [List.find?_map]
  congr 1
  exact congrArg (fun p => l.find? p) (funext fun b => by rw [Function.comp_apply, Booking.loadedIf_number])

/-- A booking found after aborts is the one found before, LOADED where they say so. -/
theorem Aborted.booking (h : Aborted s t ns) (k : Nat) :
    (t.booking? k).map Booking.bare = ((s.booking? k).map (Booking.loadedIf ns)).map Booking.bare := by
  have bare (l : List Booking) : (l.find? fun b => b.number == k).map Booking.bare = (l.map Booking.bare).find? fun b => b.number == k := by
    rw [List.find?_map]; rfl
  rw [State.booking?, State.booking?, bare, h.bookings, ← bare, find?_loadedIf]

theorem Aborted.relInfo (h : Aborted s t ns) (k : Nat) (n : SlotNo) : t.relInfo k n = s.relInfo k n := by
  have key : (t.booking? k).map (·.key) = (s.booking? k).map (·.key) := by
    have same := congrArg (Option.map fun b : Booking => b.key) (h.booking k)
    simp only [Option.map_map] at same
    rw [show ((fun b : Booking => b.key) ∘ Booking.bare) = fun b => b.key from rfl] at same
    rw [same]
    congr 1
    exact funext fun b => Booking.loadedIf_key ns b
  rw [State.relInfo, State.relInfo, key]

theorem Aborted.source (h : Aborted s t ns) (k : Nat) : t.sourceOf k = s.sourceOf k := by
  have step (o : Option Booking) : o.bind (·.source) = (o.map Booking.bare).bind (·.source) := by cases o <;> rfl
  have loaded (o : Option Booking) : (o.map (Booking.loadedIf ns)).bind (·.source) = o.bind (·.source) := by
    cases o with
    | none => rfl
    | some b => exact Booking.loadedIf_source ns b
  rw [State.sourceOf, State.sourceOf, step, h.booking, ← step, loaded]

theorem Aborted.report (h : Aborted s t ns) (n : SlotNo) (b : Nat) (phase : ReleasePhase) (cause : AbortCause) :
    t.abortedReport n b phase cause = s.abortedReport n b phase cause := by
  rw [State.abortedReport, State.abortedReport, h.relInfo, h.source]

end

/-! ### Some channels -/

/-- The channels `l` have been freed where they are on the slots `on`. -/
structure ChannelsAborted (on : SlotNo → Bool) (cause : AbortCause) (s t : State) (l : List ChanNo) : Prop where
  aborted : ∃ ns, Aborted s t ns ∧ ∀ b, b ∈ ns ↔ ∃ k ∈ l, ∃ n phase, on n = true ∧ (s.chan k).uses n b phase
  kept : ∀ k ∉ l, t.chan k = s.chan k
  freed : ∀ k ∈ l, ∀ n, (s.chan k).slot? = some n → on n = true → t.chan k = .free ∧ (t.slot n).channel = none
    ∧ ((s.slot n).service = .quarantinePending → (t.slot n).service = .quarantined)
  last : ∀ k ∈ l, ∀ n b phase, (s.chan k).uses n b phase → on n = true →
    ∃ k' b' phase', (s.chan k').uses n b' phase' ∧ (t.slot n).lastRelease = some b'
  bus : t.bus = s.bus
  queue : t.release.queue = s.release.queue
  told : ∃ rs, (∀ k ∈ l, ∀ n b phase, (s.chan k).uses n b phase → on n = true → s.abortedReport n b phase cause ∈ rs)
    ∧ ∀ bs m, s.queued bs m → m + l.length ≤ 32 → t.queued (rs ++ bs) (m + l.length)
  noticed : ∃ xs, (∀ k ∈ l, ∀ n b phase, (s.chan k).uses n b phase → on n = true → s.sourceOf b = some .kiosk →
      { booking := b, event := .aborted } ∈ xs)
    ∧ ∀ ys m, s.noticed ys m → m + l.length ≤ 4 → t.noticed (xs ++ ys) (m + l.length)

section
variable {on : SlotNo → Bool} {cause : AbortCause} {s t u : State}

theorem ChannelsAborted.nil : ChannelsAborted on cause s s [] where
  aborted := ⟨[], .refl s, fun b => by simp⟩
  kept _ _ := rfl
  freed _ there := absurd there List.not_mem_nil
  last _ there := absurd there List.not_mem_nil
  bus := rfl
  queue := rfl
  told := ⟨[], fun _ there => absurd there List.not_mem_nil, fun _ _ h _ => h⟩
  noticed := ⟨[], fun _ there => absurd there List.not_mem_nil, fun _ _ h _ => h⟩

/-- A channel that is not on the slots stays. -/
theorem ChannelsAborted.idle {c : ChanNo} (off : ∀ n, (s.chan c).slot? = some n → on n = false) : ChannelsAborted on cause s s [c] := by
  have none_ (k : ChanNo) (there : k ∈ [c]) (n : SlotNo) (slot : (s.chan k).slot? = some n) (hit : on n = true) : False := by
    rw [List.mem_singleton.mp there] at slot
    rw [off n slot] at hit
    cases hit
  refine ⟨⟨[], .refl s, fun b => ⟨fun there => absurd there List.not_mem_nil, ?_⟩⟩, fun _ _ => rfl, fun k there n slot hit => ?_,
    fun k there n b phase uses hit => ?_, rfl, rfl, ⟨[], fun k there n b phase uses hit => ?_, fun _ _ h _ => queued_mono h (Nat.le_succ _)⟩,
    ⟨[], fun k there n b phase uses hit => ?_, fun _ _ h _ => noticed_mono h (Nat.le_succ _)⟩⟩
  · rintro ⟨k, there, n, phase, hit, uses⟩
    exact (none_ k there n (Channel.uses_slot uses) hit).elim
  · exact (none_ k there n slot hit).elim
  · exact (none_ k there n (Channel.uses_slot uses) hit).elim
  · exact (none_ k there n (Channel.uses_slot uses) hit).elim
  · exact (none_ k there n (Channel.uses_slot uses) hit).elim

theorem Channel.uses_unique {x : Channel} {n m : SlotNo} {b d : Nat} {phase phase' : ReleasePhase} (h : x.uses n b phase)
    (k : x.uses m d phase') : n = m ∧ b = d ∧ phase = phase' := by
  obtain ⟨rfl, rfl⟩ | ⟨⟨e, rfl⟩, rfl⟩ := h
  · obtain ⟨same, rfl⟩ | ⟨⟨e', same⟩, rfl⟩ := k
    · cases same; exact ⟨rfl, rfl, rfl⟩
    · cases same
  · obtain ⟨same, rfl⟩ | ⟨⟨e', same⟩, rfl⟩ := k
    · cases same
    · cases same; exact ⟨rfl, rfl, rfl⟩

/-- A release is aborted. -/
theorem ChannelsAborted.release {c : ChanNo} {n : SlotNo} {b : Nat} {phase : ReleasePhase} (uses : (s.chan c).uses n b phase)
    (hit : on n = true) (cause : AbortCause) : ChannelsAborted on cause s (s.abortChannel c cause true) [c] := by
  have slot := Channel.uses_slot uses
  have whole := abortChannel_uses uses cause
  have same : (s.abortChannel c cause true).tables = (s.chanAborted c n b).tables := by
    rw [whole, told_tables, openFailed_aborts slot]
  have read {α : Type} (f : SlotRec → α) (kept : ∀ r : SlotRec, f r.bare = f r) := slot_congr same n f kept
  have record : (s.chanAborted c n b).slot n = { (s.freed c n).slot n with lastRelease := some b } := slot_withSlot_self ..
  have only (k : ChanNo) (there : k ∈ [c]) (m : SlotNo) (d : Nat) (ph : ReleasePhase) (h : (s.chan k).uses m d ph) :
      m = n ∧ d = b ∧ ph = phase := by
    rw [List.mem_singleton.mp there] at h
    exact Channel.uses_unique h uses
  refine ⟨⟨[b], aborted_of_tables same (chanAborted_aborted uses), fun d => ⟨fun there => ?_, ?_⟩⟩, fun k other => ?_,
    fun k there m at_ hit => ?_, fun k there m d ph h hit => ?_, ?_, ?_, ⟨[s.abortedReport n b phase cause], ?_, ?_⟩,
    ⟨noticeOf (s.sourceOf b) b .aborted, ?_, ?_⟩⟩
  · rw [List.mem_singleton.mp there]
    exact ⟨c, List.mem_singleton_self c, n, phase, hit, uses⟩
  · rintro ⟨k, there, m, ph, -, h⟩
    rw [(only k there m d ph h).2.1]
    exact List.mem_singleton_self b
  · have apart : k ≠ c := fun eq => other (List.mem_singleton.mpr eq)
    rw [chan_congr same]
    exact (chan_freed c k n).trans (if_neg apart)
  · cases List.mem_singleton.mp there
    cases slot.symm.trans at_
    refine ⟨?_, ?_, fun pending => ?_⟩
    · rw [chan_congr same]
      exact (chan_freed c c n).trans (if_pos rfl)
    · rw [read SlotRec.channel fun _ => rfl, record]
      exact (freed_slot c n).1
    · rw [read SlotRec.service fun _ => rfl, record]
      exact (freed_slot c n).2 pending
  · obtain ⟨rfl, rfl, rfl⟩ := only k there m d ph h
    refine ⟨c, d, ph, uses, ?_⟩
    rw [read SlotRec.lastRelease fun _ => rfl, record]
  · rw [whole, told_bus]
    exact (freeChannel_ports s c).2
  · rw [release_tables same]
    exact freed_queue s c n
  · intro k there m d ph h _
    obtain ⟨rfl, rfl, rfl⟩ := only k there m d ph h
    exact List.mem_singleton_self _
  · intro bs m h room
    rw [whole]
    exact queued_told (queued_congr (t := s.openFailed c n b) (freeChannel_link s c) h) (by simpa using room) _ _ _ _
  · intro k there m d ph h _ kiosk
    obtain ⟨rfl, rfl, rfl⟩ := only k there m d ph h
    rw [noticeOf, if_pos kiosk]
    exact List.mem_singleton_self _
  · intro ys m h room
    rw [whole]
    exact noticed_told (noticed_congr (t := s.openFailed c n b) (freeChannel_ports s c).1 h) (by simpa using room) _ _ _ _

/-- A channel in CLOSING is freed. -/
theorem ChannelsAborted.close {c : ChanNo} {n : SlotNo} {b : Nat} {why : CloseReason} (chan : s.chan c = .closing n b why)
    (cause : AbortCause) : ChannelsAborted on cause s (s.abortChannel c cause true) [c] := by
  have slot : (s.chan c).slot? = some n := by rw [chan]; rfl
  have whole := abortChannel_closing chan cause true
  have same : (s.abortChannel c cause true).tables = (s.freed c n).tables := by
    rw [whole, freeChannel_form slot, freed_form]
  have read {α : Type} (f : SlotRec → α) (kept : ∀ r : SlotRec, f r.bare = f r) := slot_congr same n f kept
  have none_ (k : ChanNo) (there : k ∈ [c]) (m : SlotNo) (d : Nat) (ph : ReleasePhase) (h : (s.chan k).uses m d ph) : False := by
    rw [List.mem_singleton.mp there, chan] at h
    obtain ⟨eq, -⟩ | ⟨⟨e, eq⟩, -⟩ := h <;> cases eq
  refine ⟨⟨[], aborted_of_tables same (freed_aborted c n), fun d => ⟨fun there => absurd there List.not_mem_nil, ?_⟩⟩, fun k other => ?_,
    fun k there m at_ hit => ?_, fun k there m d ph h _ => (none_ k there m d ph h).elim, ?_, ?_,
    ⟨[], fun k there m d ph h _ => (none_ k there m d ph h).elim, fun bs m h _ => ?_⟩,
    ⟨[], fun k there m d ph h _ => (none_ k there m d ph h).elim, fun ys m h _ => ?_⟩⟩
  · rintro ⟨k, there, m, ph, -, h⟩
    exact (none_ k there m d ph h).elim
  · have apart : k ≠ c := fun eq => other (List.mem_singleton.mpr eq)
    rw [chan_congr same]
    exact (chan_freed c k n).trans (if_neg apart)
  · cases List.mem_singleton.mp there
    cases slot.symm.trans at_
    refine ⟨?_, ?_, fun pending => ?_⟩
    · rw [chan_congr same]
      exact (chan_freed c c n).trans (if_pos rfl)
    · rw [read SlotRec.channel fun _ => rfl]
      exact (freed_slot c n).1
    · rw [read SlotRec.service fun _ => rfl]
      exact (freed_slot c n).2 pending
  · rw [whole]
    exact (freeChannel_ports s c).2
  · rw [release_tables same]
    exact freed_queue s c n
  · rw [whole]
    exact queued_mono (queued_congr (s := s) (freeChannel_link s c) h) (Nat.le_succ _)
  · rw [whole]
    exact noticed_mono (noticed_congr (s := s) (freeChannel_ports s c).1 h) (Nat.le_succ _)

/-- The step of `abortChannels`. -/
def State.abortOn (on : SlotNo → Bool) (cause : AbortCause) (s : State) (c : ChanNo) : State :=
  match (s.chan c).slot? with
  | some n => if on n then s.abortChannel c cause true else s
  | none => s

theorem abortOn_aborts (on : SlotNo → Bool) (cause : AbortCause) (s : State) (c : ChanNo) :
    ChannelsAborted on cause s (s.abortOn on cause c) [c] := by
  unfold State.abortOn
  cases chan : s.chan c with
  | free => exact .idle (by rw [chan]; exact fun _ h => nomatch h)
  | opening n b =>
    by_cases hit : on n = true
    · simp only [Channel.slot?, hit, if_true]
      exact .release (phase := .opening) (.inl ⟨chan, rfl⟩) hit cause
    · simp only [Channel.slot?, hit, Bool.false_eq_true, if_false]
      exact .idle (by rw [chan]; rintro _ ⟨⟩; simpa using hit)
  | opened n b d =>
    by_cases hit : on n = true
    · simp only [Channel.slot?, hit, if_true]
      exact .release (phase := .opened) (.inr ⟨⟨d, chan⟩, rfl⟩) hit cause
    · simp only [Channel.slot?, hit, Bool.false_eq_true, if_false]
      exact .idle (by rw [chan]; rintro _ ⟨⟩; simpa using hit)
  | closing n b why =>
    by_cases hit : on n = true
    · simp only [Channel.slot?, hit, if_true]
      exact .close chan cause
    · simp only [Channel.slot?, hit, Bool.false_eq_true, if_false]
      exact .idle (by rw [chan]; rintro _ ⟨⟩; simpa using hit)

/-- One channel, then others. -/
theorem ChannelsAborted.cons {c : ChanNo} {l : List ChanNo} (h : ChannelsAborted on cause s t [c])
    (k : ChannelsAborted on cause t u l) (fresh : c ∉ l) : ChannelsAborted on cause s u (c :: l) := by
  obtain ⟨ns, first, numbers⟩ := h.aborted
  obtain ⟨ms, second, others⟩ := k.aborted
  have same {j : ChanNo} (there : j ∈ l) : t.chan j = s.chan j :=
    h.kept j fun at_ => fresh (List.mem_singleton.mp at_ ▸ there)
  have back {j : ChanNo} {n : SlotNo} {b : Nat} {phase : ReleasePhase} (uses : (t.chan j).uses n b phase) : (s.chan j).uses n b phase := by
    rcases first.chan j with eq | free
    · rwa [← eq]
    · rw [free] at uses
      exact absurd (Channel.uses_slot uses) nofun
  obtain ⟨rs, named, queues⟩ := h.told
  obtain ⟨qs, named', queues'⟩ := k.told
  obtain ⟨xs, placed, notices⟩ := h.noticed
  obtain ⟨zs, placed', notices'⟩ := k.noticed
  have own := List.mem_singleton_self c
  refine ⟨⟨ns ++ ms, first.trans second, fun b => ?_⟩, fun j other => ?_, fun j there n slot hit => ?_,
    fun j there n b phase uses hit => ?_, k.bus.trans h.bus, k.queue.trans h.queue, ⟨qs ++ rs, fun j there n b phase uses hit => ?_, fun bs m held room => ?_⟩,
    ⟨zs ++ xs, fun j there n b phase uses hit kiosk => ?_, fun ys m held room => ?_⟩⟩
  · rw [List.mem_append, numbers, others]
    constructor
    · rintro (⟨j, there, n, phase, hit, uses⟩ | ⟨j, there, n, phase, hit, uses⟩)
      · exact ⟨j, List.mem_cons.mpr (.inl (List.mem_singleton.mp there)), n, phase, hit, uses⟩
      · exact ⟨j, List.mem_cons_of_mem _ there, n, phase, hit, back uses⟩
    · rintro ⟨j, there, n, phase, hit, uses⟩
      rcases List.mem_cons.mp there with rfl | later
      · exact .inl ⟨j, own, n, phase, hit, uses⟩
      · exact .inr ⟨j, later, n, phase, hit, by rwa [same later]⟩
  · exact (k.kept j fun later => other (List.mem_cons_of_mem _ later)).trans
      (h.kept j fun at_ => other (List.mem_cons.mpr (.inl (List.mem_singleton.mp at_))))
  · rcases List.mem_cons.mp there with rfl | later
    · obtain ⟨free, none_, quarantined⟩ := h.freed j own n slot hit
      refine ⟨(second.chan j).elim (fun eq => eq.trans free) id, (second.channel n).elim (fun eq => eq.trans none_) id, fun pending => ?_⟩
      rcases second.service n with eq | ⟨-, is⟩
      · exact eq.trans (quarantined pending)
      · exact is
    · obtain ⟨free, none_, quarantined⟩ := k.freed j later n (by rw [same later]; exact slot) hit
      refine ⟨free, none_, fun pending => ?_⟩
      rcases first.service n with eq | ⟨-, is⟩
      · exact quarantined (eq.trans pending)
      · rcases second.service n with eq | ⟨-, is'⟩
        · exact eq.trans is
        · exact is'
  · rcases List.mem_cons.mp there with rfl | later
    · obtain ⟨k', b', phase', uses', last⟩ := h.last j own n b phase uses hit
      rcases second.last n with eq | ⟨i, d, ph, uses'', last'⟩
      · exact ⟨k', b', phase', uses', eq.trans last⟩
      · exact ⟨i, d, ph, back uses'', last'⟩
    · obtain ⟨k', b', phase', uses', last⟩ := k.last j later n b phase (by rwa [same later]) hit
      exact ⟨k', b', phase', back uses', last⟩
  · rcases List.mem_cons.mp there with rfl | later
    · exact List.mem_append_right _ (named j own n b phase uses hit)
    · rw [← first.report]
      exact List.mem_append_left _ (named' j later n b phase (by rwa [same later]) hit)
  · rw [List.length_cons] at room ⊢
    have step := queues' _ _ (queues bs m held (by simp only [List.length_singleton]; omega)) (by simp only [List.length_singleton]; omega)
    rw [← List.append_assoc] at step
    exact queued_mono step (by simp only [List.length_singleton]; omega)
  · rcases List.mem_cons.mp there with rfl | later
    · exact List.mem_append_right _ (placed j own n b phase uses hit kiosk)
    · exact List.mem_append_left _ (placed' j later n b phase (by rwa [same later]) hit (by rw [first.source]; exact kiosk))
  · rw [List.length_cons] at room ⊢
    have step := notices' _ _ (notices ys m held (by simp only [List.length_singleton]; omega)) (by simp only [List.length_singleton]; omega)
    rw [← List.append_assoc] at step
    exact noticed_mono step (by simp only [List.length_singleton]; omega)

end

theorem foldl_abortOn (on : SlotNo → Bool) (cause : AbortCause) {l : List ChanNo} (nodup : l.Nodup) (s : State) :
    ChannelsAborted on cause s (l.foldl (State.abortOn on cause) s) l := by
  induction l generalizing s with
  | nil => exact .nil
  | cons c l ih =>
    obtain ⟨fresh, rest⟩ := List.nodup_cons.mp nodup
    exact (abortOn_aborts on cause s c).cons (ih rest _) fresh

theorem mem_allChannels (c : ChanNo) : c ∈ allChannels := by revert c; decide

/-- Every channel on the slots is freed. -/
theorem abortChannels_aborts (on : SlotNo → Bool) (cause : AbortCause) (s : State) :
    ChannelsAborted on cause s (s.abortChannels on cause) allChannels :=
  foldl_abortOn on cause (by decide) s

end Sys2Proof.Machine
end

section
/-! SUPPORT. Queue entries aborted one after the other (R80, R93, R94). -/

namespace Sys2Proof.Machine

theorem unqueued_aborted (s : State) (e : QueueEntry) : Aborted s (s.unqueued e) [e.booking] := by
  have loaded := aborted_withBooking (s := s) e.booking
  have slot : Aborted (s.withBooking e.booking fun b => { b with state := .loaded })
      ((s.withBooking e.booking fun b => { b with state := .loaded }).withSlot e.slot fun r => { r with queued := false }) [] :=
    aborted_withSlot e.slot _ ⟨rfl, rfl⟩ (.inl rfl) (.inr rfl) (.inl rfl) (.inl rfl)
  exact (loaded.trans slot).trans (aborted_erase (s := (s.withBooking e.booking fun b => { b with state := .loaded }).withSlot e.slot
    fun r => { r with queued := false }) e)

theorem abortEntry_aborted (s : State) (e : QueueEntry) (cause : AbortCause) : Aborted s (s.abortEntry e cause) [e.booking] :=
  aborted_of_tables (abortEntry_tables s e cause) (unqueued_aborted s e)

theorem abortEntry_bus (s : State) (e : QueueEntry) (cause : AbortCause) : (s.abortEntry e cause).bus = s.bus :=
  told_bus ((s.dequeue e).toLoaded e.booking) _ _ _ _

/-- The queue, the channels and the slot records after an entry is aborted. -/
theorem abortEntry_release (s : State) (e : QueueEntry) (cause : AbortCause) :
    (s.abortEntry e cause).release = { s.release with queue := s.release.queue.erase e } :=
  release_tables (abortEntry_tables s e cause)

theorem abortEntry_slot (s : State) (e : QueueEntry) (cause : AbortCause) (n : SlotNo) {α : Type} (f : SlotRec → α)
    (bare : ∀ r : SlotRec, f r.bare = f r) (kept : ∀ r : SlotRec, f { r with queued := false } = f r) :
    f ((s.abortEntry e cause).slot n) = f (s.slot n) := by
  rw [slot_congr (abortEntry_tables s e cause) n f bare]
  let z := s.withBooking e.booking fun b => { b with state := .loaded }
  change f ((z.withSlot e.slot fun r => { r with queued := false }).slot n) = f (s.slot n)
  by_cases here : n = e.slot
  · subst here
    rw [slot_withSlot_self, kept]
    rfl
  · rw [slot_withSlot_ne here]
    rfl

theorem abortEntry_unqueued (s : State) (e : QueueEntry) (cause : AbortCause) :
    ((s.abortEntry e cause).slot e.slot).queued = false := by
  rw [slot_congr (abortEntry_tables s e cause) e.slot SlotRec.queued fun _ => rfl]
  let z := s.withBooking e.booking fun b => { b with state := .loaded }
  change ((z.withSlot e.slot fun r => { r with queued := false }).slot e.slot).queued = false
  rw [slot_withSlot_self]

/-- The entries `l` have been aborted. -/
structure EntriesAborted (cause : AbortCause) (s t : State) (l : List QueueEntry) : Prop where
  aborted : Aborted s t (l.map (·.booking))
  release : t.release = { s.release with queue := l.foldl List.erase s.release.queue }
  unqueued : ∀ e ∈ l, (t.slot e.slot).queued = false
  channel : ∀ n, (t.slot n).channel = (s.slot n).channel
  last : ∀ n, (t.slot n).lastRelease = (s.slot n).lastRelease
  service : ∀ n, (t.slot n).service = (s.slot n).service
  bus : t.bus = s.bus
  told : ∃ rs, (∀ e ∈ l, s.abortReport e cause ∈ rs)
    ∧ ∀ bs m, s.queued bs m → m + l.length ≤ 32 → t.queued (rs ++ bs) (m + l.length)

theorem EntriesAborted.chan {cause : AbortCause} {s t : State} {l : List QueueEntry} (h : EntriesAborted cause s t l) (k : ChanNo) :
    t.chan k = s.chan k := by
  rw [State.chan, h.release]; rfl

theorem foldl_abortEntry (cause : AbortCause) (l : List QueueEntry) (s : State) :
    EntriesAborted cause s (l.foldl (fun s e => s.abortEntry e cause) s) l := by
  induction l generalizing s with
  | nil =>
    exact ⟨.refl s, rfl, fun _ there => absurd there List.not_mem_nil, fun _ => rfl, fun _ => rfl, fun _ => rfl, rfl,
      [], fun _ there => absurd there List.not_mem_nil, fun _ _ h _ => h⟩
  | cons e l ih =>
    have one := abortEntry_aborted s e cause
    have rest := ih (s.abortEntry e cause)
    obtain ⟨rs, named, queues⟩ := rest.told
    rw [List.foldl_cons]
    refine ⟨one.trans rest.aborted, ?_, fun d there => ?_, fun n => ?_, fun n => ?_, fun n => ?_, ?_, rs ++ [s.abortReport e cause],
      fun d there => ?_, fun bs m held room => ?_⟩
    · rw [rest.release, abortEntry_release]; rfl
    · rcases List.mem_cons.mp there with rfl | later
      · exact (rest.aborted.queued d.slot).elim (fun same => same.trans (abortEntry_unqueued s d cause)) id
      · exact rest.unqueued d later
    · exact (rest.channel n).trans (abortEntry_slot s e cause n SlotRec.channel (fun _ => rfl) fun _ => rfl)
    · exact (rest.last n).trans (abortEntry_slot s e cause n SlotRec.lastRelease (fun _ => rfl) fun _ => rfl)
    · exact (rest.service n).trans (abortEntry_slot s e cause n SlotRec.service (fun _ => rfl) fun _ => rfl)
    · exact rest.bus.trans (abortEntry_bus s e cause)
    · rcases List.mem_cons.mp there with rfl | later
      · exact List.mem_append_right _ (List.mem_singleton_self _)
      · have same : (s.abortEntry e cause).abortReport d cause = s.abortReport d cause := by
          rw [State.abortReport, State.abortReport, one.relInfo]
        exact List.mem_append_left _ (same ▸ named d later)
    · rw [List.length_cons] at room ⊢
      have step := queues _ _ (abortEntry_queued held (by omega) e cause) (by omega)
      rw [List.append_cons] at step
      exact queued_mono step (by omega)

/-- Erasing every member of a list that has a property leaves those without it. -/
theorem not_mem_foldl_erase {α : Type} [DecidableEq α] (l : List α) (p : α → Bool) {a : α} (hit : p a = true) :
    a ∉ (l.filter p).foldl List.erase l := by
  rw [← List.diff_eq_foldl, ← List.count_pos_iff, List.count_diff, List.count_filter hit]
  omega

/-- Every queue entry on the slots is aborted. -/
theorem abortEntries_aborts (on : SlotNo → Bool) (cause : AbortCause) (s : State) :
    EntriesAborted cause s (s.abortEntries on cause) (s.release.queue.filter fun e => on e.slot) :=
  foldl_abortEntry cause _ s

theorem abortEntries_gone (on : SlotNo → Bool) (cause : AbortCause) (s : State) :
    ∀ e ∈ (s.abortEntries on cause).release.queue, on e.slot = false := by
  intro e there
  rw [(abortEntries_aborts on cause s).release] at there
  by_contra hit
  exact not_mem_foldl_erase s.release.queue (fun e => on e.slot) (a := e) (by simpa using hit) there

end Sys2Proof.Machine
end

section
/-! SUPPORT. The arbiter's turns (R83): what they can change, and where. -/

namespace Sys2Proof.Machine

/-- Some entry of the Release Queue names the slot. -/
def State.waitsFor (s : State) (n : SlotNo) : Prop := ∃ e ∈ s.release.queue, e.slot = n

/-- `t` is reached from `s` by turns of the arbiter, each of which takes an entry out of the queue. -/
structure Grants (s t : State) : Prop where
  keys : Undisturbed s t []
  chan : ∀ k n, (t.chan k).slot? = some n → (s.chan k).slot? = some n ∨ s.waitsFor n
  queue : t.release.queue.Sublist s.release.queue
  channel : ∀ n, ¬ s.waitsFor n → (t.slot n).channel = (s.slot n).channel
  queued : ∀ n, (t.slot n).queued = (s.slot n).queued ∨ (t.slot n).queued = false
  service : ∀ n, (t.slot n).service = (s.slot n).service
  last : ∀ n, (t.slot n).lastRelease = (s.slot n).lastRelease
  bookings : ∃ ns, t.bookings.map Booking.bare = (s.bookings.map (Booking.loadedIf ns)).map Booking.bare
  latches : ∀ l ∈ t.bus.latches, l ∈ s.bus.latches ∨ s.waitsFor l.slot
  told : ∀ bs m, s.queued bs m → m + s.release.queue.length ≤ 32 → t.queued bs (m + s.release.queue.length)

theorem Grants.refl (s : State) : Grants s s where
  keys := .refl s []
  chan _ _ h := .inl h
  queue := .refl _
  channel _ _ := rfl
  queued _ := .inl rfl
  service _ := rfl
  last _ := rfl
  bookings := ⟨[], by rw [map_loadedIf_bare]; simp [Booking.loadedIf_nil]⟩
  latches _ h := .inl h
  told _ _ h _ := queued_mono h (Nat.le_add_right _ _)

section
variable {s t u : State}

theorem waitsFor_mono (shorter : t.release.queue.Sublist s.release.queue) {n : SlotNo} (h : t.waitsFor n) : s.waitsFor n := by
  obtain ⟨e, there, same⟩ := h
  exact ⟨e, shorter.subset there, same⟩

/-- One turn, then others. -/
theorem Grants.trans (h : Grants s t) (k : Grants t u) (one : ∀ bs m, s.queued bs m → m + 1 ≤ 32 → t.queued bs (m + 1))
    (shorter : t.release.queue.length + 1 ≤ s.release.queue.length) : Grants s u where
  keys := h.keys.trans k.keys
  chan c n held := (k.chan c n held).elim (h.chan c n) fun waits => .inr (waitsFor_mono h.queue waits)
  queue := k.queue.trans h.queue
  channel n idle := (k.channel n fun waits => idle (waitsFor_mono h.queue waits)).trans (h.channel n idle)
  queued n := (k.queued n).elim (fun same => by rw [same]; exact h.queued n) .inr
  service n := (k.service n).trans (h.service n)
  last n := (k.last n).trans (h.last n)
  bookings := by
    obtain ⟨ns, first⟩ := h.bookings
    obtain ⟨ms, second⟩ := k.bookings
    have both : (s.bookings.map (Booking.loadedIf ns)).map (Booking.loadedIf ms) = s.bookings.map (Booking.loadedIf (ns ++ ms)) := by
      rw [List.map_map]
      exact List.map_congr_left fun b _ => Booking.loadedIf_append ns ms b
    exact ⟨ns ++ ms, by rw [second, map_loadedIf_bare, first, ← map_loadedIf_bare, both]⟩
  latches l there := (k.latches l there).elim (h.latches l) fun waits => .inr (waitsFor_mono h.queue waits)
  told bs m held room := queued_mono (k.told bs (m + 1) (one bs m held (by omega)) (by omega)) (by omega)

end

/-! ### One turn -/

section
variable (s : State) (e : QueueEntry) (c : ChanNo)

theorem grant_link : (s.grant e c).link = s.link := by
  obtain ⟨bus, same⟩ := addLatch_kept
    (((s.setRelease { s.release with queue := s.release.queue.erase e }).putChan c (.opening e.slot e.booking)).modSlotLamp e.slot
      fun r => { r with queued := false, channel := some c }) e.slot .openIt (some c)
  rw [State.grant, same]
  exact modSlotLamp_link _ _ _

theorem addLatch_only (n : SlotNo) (dir : LatchDir) (o : Option ChanNo) :
    ∀ l ∈ (s.addLatch n dir o).bus.latches, l ∈ s.bus.latches ∨ l.slot = n := by
  intro l there
  unfold State.addLatch at there
  split at there
  · rcases List.mem_append.mp there with old | new
    · exact .inl old
    · rw [List.mem_singleton.mp new]
      exact .inr rfl
  · exact .inl there

theorem grant_latches : ∀ l ∈ (s.grant e c).bus.latches, l ∈ s.bus.latches ∨ l.slot = e.slot := by
  let z := ((s.setRelease { s.release with queue := s.release.queue.erase e }).putChan c (.opening e.slot e.booking)).modSlotLamp
    e.slot fun r => { r with queued := false, channel := some c }
  have bus : z.bus = s.bus := (modSlotLamp_untold _ _ _).bus
  have only := addLatch_only z e.slot .openIt (some c)
  rw [bus] at only
  exact only

/-- The slot records after a grant: only the entry's slot is changed, in its mark and its channel. -/
theorem grant_slot (n : SlotNo) {α : Type} (f : SlotRec → α) (bare : ∀ r : SlotRec, f r.bare = f r)
    (kept : n = e.slot → f { s.slot n with queued := false, channel := some c } = f (s.slot n)) :
    f ((s.grant e c).slot n) = f (s.slot n) := by
  rw [slot_congr (grantMade_tables s e c) n f bare]
  let z := (s.setRelease { s.release with queue := s.release.queue.erase e }).withChan c (.opening e.slot e.booking)
  change f ((z.withSlot e.slot fun r => { r with queued := false, channel := some c }).slot n) = f (s.slot n)
  by_cases here : n = e.slot
  · subst here
    rw [slot_withSlot_self]
    exact kept rfl
  · rw [slot_withSlot_ne here]
    rfl

theorem grant_grants (there : e ∈ s.release.queue) : Grants s (s.grant e c) := by
  have same := grantMade_tables s e c
  have waits : s.waitsFor e.slot := ⟨e, there, rfl⟩
  have base := Grants.refl s
  refine ⟨grant_undisturbed s e c, fun k n held => ?_, ?_, fun n idle => ?_, fun n => ?_, fun n => ?_, fun n => ?_, ?_, fun l at_ => ?_,
    fun bs m held _ => queued_congr (grant_link s e c) (queued_mono held (Nat.le_add_right _ _))⟩
  · have chan : (s.grant e c).chan k = if k = c then .opening e.slot e.booking else s.chan k :=
      (chan_congr same k).trans (chan_withChan (s := s.setRelease { s.release with queue := s.release.queue.erase e }) c k _)
    rw [chan] at held
    split at held
    · cases held
      exact .inr waits
    · exact .inl held
  · rw [release_tables same]
    exact List.erase_sublist
  · exact grant_slot s e c n SlotRec.channel (fun _ => rfl) fun here => absurd (here ▸ waits) idle
  · by_cases here : n = e.slot
    · refine .inr ?_
      rw [slot_congr same n SlotRec.queued fun _ => rfl, here]
      let z := (s.setRelease { s.release with queue := s.release.queue.erase e }).withChan c (.opening e.slot e.booking)
      change ((z.withSlot e.slot fun r => { r with queued := false, channel := some c }).slot e.slot).queued = false
      rw [slot_withSlot_self]
    · exact .inl (grant_slot s e c n SlotRec.queued (fun _ => rfl) fun eq => absurd eq here)
  · exact grant_slot s e c n SlotRec.service (fun _ => rfl) fun _ => rfl
  · exact grant_slot s e c n SlotRec.lastRelease (fun _ => rfl) fun _ => rfl
  · obtain ⟨ns, loaded⟩ := base.bookings
    exact ⟨ns, (congrArg State.bookings same).trans loaded⟩
  · exact (grant_latches s e c l at_).imp_right fun eq => by rw [eq]; exact waits

theorem abortEntry_grants (cause : AbortCause) (there : e ∈ s.release.queue) : Grants s (s.abortEntry e cause) := by
  have aborted := abortEntry_aborted s e cause
  have length : 1 ≤ s.release.queue.length := List.length_pos_of_mem there
  refine ⟨abortEntry_undisturbed s e cause, fun k n held => ?_, aborted.queue,
    fun n _ => abortEntry_slot s e cause n SlotRec.channel (fun _ => rfl) fun _ => rfl, aborted.queued,
    fun n => abortEntry_slot s e cause n SlotRec.service (fun _ => rfl) fun _ => rfl,
    fun n => abortEntry_slot s e cause n SlotRec.lastRelease (fun _ => rfl) fun _ => rfl, ⟨_, aborted.bookings⟩,
    fun l at_ => .inl (by rwa [abortEntry_bus] at at_), fun bs m held room => ?_⟩
  · refine .inl ?_
    rcases aborted.chan k with same | free
    · rwa [← same]
    · rw [free] at held
      cases held
  · exact queued_mono (queued_weaken (abortEntry_queued held (by omega) e cause) (List.subset_cons_self _ _)) (by omega)

end

theorem arbiterTurns_grants (fuel : Nat) (s : State) : Grants s (State.arbiterTurns fuel s) := by
  induction fuel generalizing s with
  | zero => exact .refl s
  | succ fuel ih =>
    unfold State.arbiterTurns
    split
    · exact .refl s
    · next e rest queue =>
      have there : e ∈ s.release.queue := by rw [queue]; exact List.mem_cons_self
      have erased : (s.release.queue.erase e).length + 1 = s.release.queue.length := by
        rw [List.length_erase_of_mem there]
        have := List.length_pos_of_mem there
        omega
      split
      · split
        · exact .refl s
        · next c _ =>
          split
          · refine (grant_grants s e c there).trans (ih _) (fun bs m held _ => ?_) ?_
            · exact queued_congr (grant_link s e c) (queued_mono held (Nat.le_succ _))
            · rw [release_tables (grantMade_tables s e c)]
              exact erased.le
          · refine (abortEntry_grants s e .grantCheck there).trans (ih _) (fun bs m held room => ?_) ?_
            · exact queued_weaken (abortEntry_queued held room e .grantCheck) (List.subset_cons_self _ _)
            · rw [abortEntry_release]
              exact erased.le
      · exact .refl s

theorem arbiter_grants (s : State) : Grants s s.arbiter := arbiterTurns_grants _ s

end Sys2Proof.Machine
end

section
/-! SUPPORT. A module that leaves ONLINE (R36, R38, R8, R93): its slots UNKNOWN, its channels freed, its entries aborted. -/

namespace Sys2Proof.Machine

/-! ### Slots lost -/

theorem SlotRec.lost_eq (r : SlotRec) (time : Option Nat) :
    r.lost time =
      if r.occ ≠ .unknown then { r with occ := .unknown, tag := if r.occ = .held then r.tag else none, since := time } else r := by
  unfold SlotRec.lost
  cases occ : r.occ <;> simp

theorem SlotRec.lost_occ (r : SlotRec) (time : Option Nat) : (r.lost time).occ = .unknown := by
  rw [SlotRec.lost_eq]
  split
  · rfl
  · next h => exact not_not.mp h

theorem SlotRec.lost_lost (r : SlotRec) (time : Option Nat) : (r.lost time).lost time = r.lost time := by
  rw [SlotRec.lost_eq (r.lost time), if_neg (not_not.mpr (r.lost_occ time))]

theorem SlotRec.lost_bare (r : SlotRec) (time : Option Nat) : (r.lost time).bare = r.bare.lost time := by
  rw [SlotRec.lost_eq, SlotRec.lost_eq]
  change _ = if r.occ ≠ .unknown then _ else _
  split <;> rfl

/-- A loss keeps all of a record but the occupancy, the tag and the time. -/
theorem SlotRec.lost_kept (r : SlotRec) (time : Option Nat) {α : Type} (f : SlotRec → α)
    (kept : ∀ (o : Occupancy) (k t : Option Nat), f { r with occ := o, tag := k, since := t } = f r) : f (r.lost time) = f r := by
  rw [SlotRec.lost_eq]
  split
  · exact kept _ _ _
  · rfl

/-- The slots of a module. -/
def moduleSlots (m : ModIx) : List SlotNo := positions.map fun p => slotAt m p

theorem slotsUnknown_eq (s : State) (m : ModIx) :
    s.slotsUnknown m = (moduleSlots m).foldl (fun t n => t.modSlotLamp n fun r => r.lost s.time) s := by
  have clock (t : State) (n : SlotNo) (f : SlotRec → SlotRec) : (t.modSlotLamp n f).time = t.time :=
    show (t.modSlotLamp n f).tables.time = (t.modSlot n f).tables.time from congrArg State.time (modSlotLamp_tables t n f)
  have each (l : List (Fin 16)) (t : State) (same : t.time = s.time) :
      l.foldl (fun t p => t.modSlotLamp (slotAt m p) fun r => r.lost t.time) t =
        l.foldl (fun t p => t.modSlotLamp (slotAt m p) fun r => r.lost s.time) t := by
    induction l generalizing t with
    | nil => rfl
    | cons p l ih =>
      rw [List.foldl_cons, List.foldl_cons, same]
      exact ih _ ((clock _ _ _).trans same)
  rw [moduleSlots, List.foldl_map]
  exact each positions s rfl

theorem withSlots_form (s : State) (l : List SlotNo) (f : SlotRec → SlotRec) (hf : ∀ r, (f r).bare = f r.bare) :
    (s.withSlots l f).tables = s.tables.withSlots l f := by
  simp only [State.withSlots, State.tables, State.mk.injEq, true_and, and_true]
  ext k hk
  simp only [Vector.getElem_map, Vector.getElem_ofFn, State.slot, Fin.getElem_fin]
  split
  · exact hf _
  · rfl

theorem slotsUnknown_form (s : State) (m : ModIx) :
    (s.slotsUnknown m).tables = (s.withSlots (moduleSlots m) fun r => r.lost s.time).tables := by
  rw [slotsUnknown_eq, foldl_modSlotLamp_form _ _ (fun r => r.lost_bare _) fun r => r.lost_lost _,
    withSlots_form _ _ _ fun r => r.lost_bare _]

theorem slotsUnknown_untold (s : State) (m : ModIx) : Untold s (s.slotsUnknown m) := by
  rw [slotsUnknown_eq]
  generalize s.time = time
  induction moduleSlots m generalizing s with
  | nil => exact .refl s
  | cons n l ih => exact (modSlotLamp_untold s n _).trans (ih _)

theorem slotsUnknown_alertOf (s : State) (m : ModIx) (x : Subject) : (s.slotsUnknown m).alertOf x = s.alertOf x := by
  have kept (r : SlotRec) : (r.lost s.time).alert = r.alert := r.lost_kept s.time SlotRec.alert fun _ _ _ => rfl
  rw [slotsUnknown_eq]
  generalize s.time = time at kept
  induction moduleSlots m generalizing s with
  | nil => rfl
  | cons n l ih => exact (ih _).trans (alertOf_modSlotLamp s n kept x)

/-! ### The unit leaves ONLINE -/

/-- The state of a unit that has left ONLINE, before the aborts: its state, its commands dropped, its transaction stale. -/
def State.unitLeft (s : State) (u : UnitIx) (new : UnitState) : State :=
  ((s.putUnit u { s.unit u with state := new }).dropCommands u).markStale u

/-- The same for a module, with its slots UNKNOWN. -/
def State.offline (s : State) (m : ModIx) (new : UnitState) : State := (s.unitLeft (modUnit m) new).slotsUnknown m

theorem leaveOnline_module (s : State) (m : ModIx) (new : UnitState) :
    s.leaveOnline (modUnit m) new =
      ((s.offline m new).abortChannels (fun n => moduleOf n == m) .moduleOffline).abortEntries (fun n => moduleOf n == m)
        .moduleOffline := by
  unfold State.leaveOnline
  rw [unitMod_modUnit]
  rfl

theorem leaveOnline_chute (s : State) (new : UnitState) : s.leaveOnline chuteIx new = s.unitLeft chuteIx new := rfl

section
variable (s : State) (u : UnitIx) (new : UnitState)

theorem unitLeft_tables : (s.unitLeft u new).tables = (s.withUnit u fun r => { r with state := new }).tables := by
  unfold State.unitLeft
  rw [markStale_tables]
  unfold State.dropCommands
  let t := s.putUnit u { s.unit u with state := new }
  exact putUnit_tables (t.setBus { t.bus with latches := t.bus.latches.filter fun l => modUnit (moduleOf l.slot) != u }) u
    { t.unit u with lampsWanted := false } rfl

theorem markStale_latches (t : State) : (t.markStale u).bus.latches = t.bus.latches := by
  unfold State.markStale
  split
  · split <;> rfl
  · rfl

theorem unitLeft_latches : (s.unitLeft u new).bus.latches = s.bus.latches.filter fun l => modUnit (moduleOf l.slot) != u :=
  markStale_latches u _

theorem markStale_kept (t : State) : ∃ bus : BusMaster, t.markStale u = t.setBus bus := by
  unfold State.markStale
  split
  · split
    · exact ⟨_, rfl⟩
    · exact ⟨t.bus, rfl⟩
  · exact ⟨t.bus, rfl⟩

theorem unitLeft_ports : (s.unitLeft u new).link = s.link ∧ (s.unitLeft u new).kiosk = s.kiosk
    ∧ (s.unitLeft u new).alerts = s.alerts ∧ (s.unitLeft u new).policy = s.policy := by
  obtain ⟨bus, same⟩ := markStale_kept u ((s.putUnit u { s.unit u with state := new }).dropCommands u)
  rw [State.unitLeft, same]
  exact ⟨rfl, rfl, rfl, rfl⟩

theorem unitLeft_alertOf (x : Subject) : (s.unitLeft u new).alertOf x = s.alertOf x := by
  obtain ⟨bus, same⟩ := markStale_kept u ((s.putUnit u { s.unit u with state := new }).dropCommands u)
  rw [State.unitLeft, same]
  refine (alertOf_congr (s := (s.putUnit u { s.unit u with state := new }).dropCommands u) rfl rfl rfl rfl rfl rfl x).trans ?_
  let t := s.putUnit u { s.unit u with state := new }
  have left : t.alertOf x = s.alertOf x := alertOf_putUnit s u { s.unit u with state := new } rfl x
  exact (alertOf_putUnit (t.setBus _) u { t.unit u with lampsWanted := false } rfl x).trans
    ((alertOf_congr (s := t) rfl rfl rfl rfl rfl rfl x).trans left)

end

section
variable (s : State) (m : ModIx) (new : UnitState)

theorem offline_tables :
    (s.offline m new).tables =
      ((s.withUnit (modUnit m) fun r => { r with state := new }).withSlots (moduleSlots m) fun r => r.lost s.time).tables := by
  have left := unitLeft_tables s (modUnit m) new
  have time : (s.unitLeft (modUnit m) new).time = s.time := (time_congr left).trans rfl
  rw [State.offline, slotsUnknown_form, time, withSlots_form _ _ _ fun r => r.lost_bare _, left,
    withSlots_form _ _ _ fun r => r.lost_bare _]

theorem offline_latches :
    (s.offline m new).bus.latches = s.bus.latches.filter fun l => modUnit (moduleOf l.slot) != modUnit m := by
  rw [State.offline, (slotsUnknown_untold _ m).bus]
  exact unitLeft_latches _ _ _

theorem offline_ports : (s.offline m new).link = s.link ∧ (s.offline m new).kiosk = s.kiosk := by
  obtain ⟨link, kiosk, -⟩ := unitLeft_ports s (modUnit m) new
  have quiet := slotsUnknown_untold (s.unitLeft (modUnit m) new) m
  exact ⟨quiet.link.trans link, quiet.kiosk.trans kiosk⟩

theorem offline_alertOf (x : Subject) : (s.offline m new).alertOf x = s.alertOf x :=
  (slotsUnknown_alertOf _ m x).trans (unitLeft_alertOf s (modUnit m) new x)

theorem unit_withSlots (t : State) (l : List SlotNo) (f : SlotRec → SlotRec) (u : UnitIx) : (t.withSlots l f).unit u = t.unit u := by
  simp only [State.unit, State.withSlots]

theorem withSlots_release (t : State) (l : List SlotNo) (f : SlotRec → SlotRec) :
    (t.withSlots l f).release = t.release ∧ (t.withSlots l f).bookings = t.bookings := by
  simp only [State.withSlots, and_self]

theorem offline_release : (s.offline m new).release = s.release :=
  (release_tables (offline_tables s m new)).trans (withSlots_release _ _ _).1

theorem offline_bookings : (s.offline m new).bookings.map Booking.bare = s.bookings.map Booking.bare := by
  rw [bookings_bare (offline_tables s m new), (withSlots_release _ _ _).2]
  rfl

theorem offline_chan (k : ChanNo) : (s.offline m new).chan k = s.chan k := by
  rw [State.chan, offline_release]; rfl

/-- A module's slot after it has left ONLINE. -/
theorem offline_slot (n : SlotNo) {α : Type} (f : SlotRec → α) (bare : ∀ r : SlotRec, f r.bare = f r) :
    f ((s.offline m new).slot n) = f (if moduleOf n = m then (s.slot n).lost s.time else s.slot n) := by
  rw [slot_congr (offline_tables s m new) n f bare, slot_withSlots]
  have own : n ∈ moduleSlots m ↔ moduleOf n = m := mem_module_slots
  simp only [own]
  rfl

theorem offline_unit (u : UnitIx) {α : Type} (f : UnitRec → α) (bare : ∀ r : UnitRec, f r.bare = f r) :
    f ((s.offline m new).unit u) = f (if u = modUnit m then { s.unit u with state := new } else s.unit u) := by
  rw [unit_congr (offline_tables s m new) u f bare, unit_withSlots, unit_withUnit]
  split
  · next eq => rw [eq]
  · rfl

end

end Sys2Proof.Machine
end

section
/-! SUPPORT. The third miss of an ONLINE unit (R36, R41, R93). -/

namespace Sys2Proof.Machine

/-! ### A module retired as its count rises (R38) -/

/-- A state with the records of another but for unit records. -/
structure UnitsOnly (s t : State) : Prop where
  slots : ∀ n, (t.slot n).bare = (s.slot n).bare
  release : t.release = s.release
  bookings : t.bookings.map Booking.bare = s.bookings.map Booking.bare
  bus : t.bus = s.bus
  kiosk : t.kiosk = s.kiosk

theorem UnitsOnly.refl (s : State) : UnitsOnly s s := ⟨fun _ => rfl, rfl, rfl, rfl, rfl⟩

theorem UnitsOnly.trans {s t u : State} (h : UnitsOnly s t) (k : UnitsOnly t u) : UnitsOnly s u :=
  ⟨fun n => (k.slots n).trans (h.slots n), k.release.trans h.release, k.bookings.trans h.bookings, k.bus.trans h.bus,
    k.kiosk.trans h.kiosk⟩

theorem unitsOnly_of_tables {s t : State} (same : t.tables = s.tables) (bus : t.bus = s.bus) (kiosk : t.kiosk = s.kiosk) :
    UnitsOnly s t := ⟨slot_bare same, release_tables same, congrArg State.bookings same, bus, kiosk⟩

theorem UnitsOnly.slot {s t : State} (h : UnitsOnly s t) (n : SlotNo) {α : Type} (f : SlotRec → α)
    (bare : ∀ r : SlotRec, f r.bare = f r) : f (t.slot n) = f (s.slot n) := by
  rw [← bare, h.slots, bare]

/-- A RECOVERY module is retired. -/
theorem retire_recovery {s : State} {m : ModIx} (state : (s.unit (modUnit m)).state = .recovery) :
    s.retire m = (s.withUnit (modUnit m) fun r => { r with state := .retired, retry := none }).moduleState (modUnit m) .recovery := by
  unfold State.retire
  simp only [state]
  rfl

theorem fullNow_counted {s : State} {m : ModIx} {before : Nat} (full : s.fullNow m before = true) :
    16 ≤ (s.unit (modUnit m)).quarantined := by
  rw [State.fullNow, Bool.and_eq_true, decide_eq_true_eq, decide_eq_true_eq] at full
  exact full.2

theorem retireIfRisen_recovery {s : State} {m : ModIx} (state : (s.unit (modUnit m)).state = .recovery) (before : Nat) :
    UnitsOnly s (s.retireIfRisen m before)
      ∧ (((s.retireIfRisen m before).unit (modUnit m)).state = .recovery
        ∨ ((s.retireIfRisen m before).unit (modUnit m)).state = .retired
          ∧ 16 ≤ ((s.retireIfRisen m before).unit (modUnit m)).quarantined)
      ∧ ∀ bs k, s.queued bs k → k + 1 ≤ 32 → (s.retireIfRisen m before).queued bs (k + 1) := by
  unfold State.retireIfRisen
  split
  · next full =>
    rw [retire_recovery state]
    have unit : ((s.withUnit (modUnit m) fun r => { r with state := .retired, retry := none }).moduleState (modUnit m) .recovery).unit
        (modUnit m) = { s.unit (modUnit m) with state := .retired, retry := none } :=
      unit_withUnit_self s (modUnit m) fun r => { r with state := .retired, retry := none }
    refine ⟨⟨fun _ => rfl, rfl, rfl, rfl, rfl⟩, .inr ?_, fun bs k held room => ?_⟩
    · rw [unit]
      exact ⟨rfl, fullNow_counted full⟩
    · exact queued_weaken (queued_report (s := s.withUnit (modUnit m) _) held room _) (List.subset_cons_self _ _)
  · exact ⟨.refl s, .inl state, fun _ _ held _ => queued_mono held (Nat.le_succ _)⟩

/-! ### Bookings LOADED -/

/-- A booking of the number, if there is one, is LOADED. -/
def State.loadedAt (s : State) (k : Nat) : Prop := ∀ b : Booking, s.booking? k = some b → b.state = .loaded

section
variable {s t : State} {ns : List Nat}

theorem booking?_of_loaded (h : t.bookings.map Booking.bare = (s.bookings.map (Booking.loadedIf ns)).map Booking.bare) (k : Nat) :
    (t.booking? k).map Booking.bare = ((s.booking? k).map (Booking.loadedIf ns)).map Booking.bare := by
  have bare (l : List Booking) : (l.find? fun b => b.number == k).map Booking.bare = (l.map Booking.bare).find? fun b => b.number == k := by
    rw [List.find?_map]; rfl
  rw [State.booking?, State.booking?, bare, h, ← bare, find?_loadedIf]

theorem loadedAt_of_mem (h : t.bookings.map Booking.bare = (s.bookings.map (Booking.loadedIf ns)).map Booking.bare) {k : Nat}
    (there : k ∈ ns) : t.loadedAt k := by
  intro b found
  have same := booking?_of_loaded h k
  rw [found] at same
  cases before : s.booking? k with
  | none => rw [before] at same; cases same
  | some c =>
    rw [before] at same
    have number : c.number = k := booking?_number before
    have loaded : (c.loadedIf ns).state = .loaded := by rw [Booking.loadedIf, if_pos (number ▸ there)]
    exact (congrArg Booking.state (Option.some.inj same)).trans loaded

theorem loadedAt_mono (h : t.bookings.map Booking.bare = (s.bookings.map (Booking.loadedIf ns)).map Booking.bare) {k : Nat}
    (loaded : s.loadedAt k) : t.loadedAt k := by
  intro b found
  have same := booking?_of_loaded h k
  rw [found] at same
  cases before : s.booking? k with
  | none => rw [before] at same; cases same
  | some c =>
    rw [before] at same
    have state : (c.loadedIf ns).state = .loaded := by
      unfold Booking.loadedIf
      split
      · rfl
      · exact loaded c before
    exact (congrArg Booking.state (Option.some.inj same)).trans state

/-- A booking whose number is none of those set LOADED is as it was. -/
theorem booking?_of_not_mem (h : t.bookings.map Booking.bare = (s.bookings.map (Booking.loadedIf ns)).map Booking.bare) {k : Nat}
    (other : k ∉ ns) : (t.booking? k).map Booking.bare = (s.booking? k).map Booking.bare := by
  rw [booking?_of_loaded h]
  cases before : s.booking? k with
  | none => rfl
  | some c =>
    have number : c.number = k := booking?_number before
    rw [Option.map_some, Booking.loadedIf, if_neg (number ▸ other)]

end

theorem length_foldl_erase {α : Type} [DecidableEq α] {l q : List α} (sub : l.Subperm q) :
    (l.foldl List.erase q).length + l.length = q.length := by
  induction l generalizing q with
  | nil => rfl
  | cons a l ih =>
    have there : a ∈ q := sub.subset List.mem_cons_self
    have rest : l.Subperm (q.erase a) := by
      have := sub.erase a
      rwa [List.erase_cons_head] at this
    have step := ih rest
    rw [List.length_erase_of_mem there] at step
    have positive := List.length_pos_of_mem there
    rw [List.foldl_cons, List.length_cons]
    omega

/-! ### The aborts of a module that leaves ONLINE -/

/-- The module's slots. -/
def onModule (m : ModIx) (n : SlotNo) : Bool := moduleOf n == m

section
variable (s : State) (m : ModIx) (new : UnitState)

/-- The channels of the module freed. -/
def State.channelsLost : State := (s.offline m new).abortChannels (onModule m) .moduleOffline

theorem leaveOnline_eq : s.leaveOnline (modUnit m) new = (s.channelsLost m new).abortEntries (onModule m) .moduleOffline :=
  leaveOnline_module s m new

theorem channelsLost_aborts :
    ChannelsAborted (onModule m) .moduleOffline (s.offline m new) (s.channelsLost m new) allChannels :=
  abortChannels_aborts _ _ _

theorem entriesLost_aborts :
    EntriesAborted .moduleOffline (s.channelsLost m new) (s.leaveOnline (modUnit m) new)
      (s.release.queue.filter fun e => onModule m e.slot) := by
  have aborts := abortEntries_aborts (onModule m) .moduleOffline (s.channelsLost m new)
  rw [(channelsLost_aborts s m new).queue, offline_release, ← leaveOnline_eq] at aborts
  exact aborts

theorem leaveOnline_gone : ∀ e ∈ (s.leaveOnline (modUnit m) new).release.queue, onModule m e.slot = false := by
  rw [leaveOnline_eq]
  exact abortEntries_gone _ _ _

theorem leaveOnline_chan (k : ChanNo) (n : SlotNo) (held : ((s.leaveOnline (modUnit m) new).chan k).slot? = some n) :
    onModule m n = false := by
  have channels := channelsLost_aborts s m new
  obtain ⟨ns, aborted, -⟩ := channels.aborted
  rw [(entriesLost_aborts s m new).chan] at held
  by_contra hit
  rcases aborted.chan k with eq | free
  · have freed := (channels.freed k (mem_allChannels k) n (by rw [← eq]; exact held) (by simpa using hit)).1
    rw [freed] at held
    cases held
  · rw [free] at held
    cases held

theorem leaveOnline_bus : (s.leaveOnline (modUnit m) new).bus = (s.offline m new).bus :=
  (entriesLost_aborts s m new).bus.trans (channelsLost_aborts s m new).bus

/-- The aborts together. -/
theorem leaveOnline_aborted : ∃ ns, Aborted (s.offline m new) (s.leaveOnline (modUnit m) new) ns := by
  obtain ⟨ns, aborted, -⟩ := (channelsLost_aborts s m new).aborted
  exact ⟨_, aborted.trans (entriesLost_aborts s m new).aborted⟩

theorem offline_relInfo (b : Nat) (n : SlotNo) : (s.offline m new).relInfo b n = s.relInfo b n := by
  have same := offline_tables s m new
  rw [relInfo_congr same]
  simp only [State.relInfo, State.booking?, (withSlots_release _ _ _).2]
  rfl

theorem offline_sourceOf (b : Nat) : (s.offline m new).sourceOf b = s.sourceOf b := by
  have same := offline_tables s m new
  rw [sourceOf_congr same]
  simp only [State.sourceOf, State.booking?, (withSlots_release _ _ _).2]
  rfl

/-- The reports of the aborts wait. -/
theorem leaveOnline_queued (busy : s.linkBusy) (few : s.link.reports.length ≤ 8)
    (room : (s.release.queue.filter fun e => onModule m e.slot).length ≤ 16) :
    ∃ rs, (∀ e ∈ s.release.queue, onModule m e.slot = true → s.abortReport e .moduleOffline ∈ rs)
      ∧ (∀ k n b phase, (s.chan k).uses n b phase → onModule m n = true → s.abortedReport n b phase .moduleOffline ∈ rs)
      ∧ (s.leaveOnline (modUnit m) new).queued rs (12 + (s.release.queue.filter fun e => onModule m e.slot).length) := by
  have channels := channelsLost_aborts s m new
  obtain ⟨rs, named, queues⟩ := channels.told
  obtain ⟨qs, named', queues'⟩ := (entriesLost_aborts s m new).told
  obtain ⟨ns, aborted, -⟩ := channels.aborted
  have info := offline_relInfo s m new
  have source := offline_sourceOf s m new
  have start : (s.offline m new).queued [] 8 := queued_congr (offline_ports s m new).1 (queued_start busy few)
  refine ⟨qs ++ (rs ++ []), fun e there hit => ?_, fun k n b phase uses hit => ?_, ?_⟩
  · have report : (s.channelsLost m new).abortReport e .moduleOffline = s.abortReport e .moduleOffline := by
      rw [State.abortReport, State.abortReport, aborted.relInfo, info]
    rw [← report]
    exact List.mem_append_left _ (named' e (List.mem_filter.mpr ⟨there, hit⟩))
  · have report : (s.offline m new).abortedReport n b phase .moduleOffline = s.abortedReport n b phase .moduleOffline := by
      rw [State.abortedReport, State.abortedReport, info, source]
    rw [← report]
    exact List.mem_append_right _ (List.mem_append_left _ (named k (mem_allChannels k) n b phase (by rw [offline_chan]; exact uses) hit))
  · have first := queues [] 8 start (by decide)
    exact queues' _ _ first (by have : allChannels.length = 4 := rfl; omega)

end

end Sys2Proof.Machine
end

section
/-! SUPPORT. What is left of a unit, its slots and their releases after its third miss (R36, R41, R93). -/

namespace Sys2Proof.Machine

/-! ### The steps of the recovery -/

/-- The record of a unit that has missed three times, before it leaves ONLINE. -/
def State.thrice (s : State) (u : UnitIx) : State :=
  s.withUnit u fun r => { r with retry := some 2, resync := false, misses := Config.missLimit }

/-- MODULE_LOST raised, and MODULE_STATE queued. -/
def State.lossTold (s : State) (u : UnitIx) : State := (s.raiseAlert (.module u) .moduleLost).moduleState u .online

theorem recover_module (s : State) (m : ModIx) :
    s.recover (modUnit m) =
      ((((s.thrice (modUnit m)).leaveOnline (modUnit m) .recovery).lossTold (modUnit m)).retireIfRisen m (s.quarantinedOf m)).arbiter := by
  unfold State.recover
  rw [unitMod_modUnit]
  rfl

theorem recover_chute (s : State) : s.recover chuteIx = ((s.thrice chuteIx).unitLeft chuteIx .recovery).lossTold chuteIx := rfl

/-- Every unit is a slot module or the chute unit. -/
theorem module_or_chute (u : UnitIx) : (∃ m : ModIx, u = modUnit m) ∨ u = chuteIx := by revert u; decide

theorem lossTold_tables (s : State) (u : UnitIx) : (s.lossTold u).tables = s.tables := by
  rw [State.lossTold, moduleState_tables, raiseAlert_tables]

theorem lossTold_ports (s : State) (u : UnitIx) : (s.lossTold u).kiosk = s.kiosk ∧ (s.lossTold u).bus = s.bus :=
  (alert_kiosk s.kiosk s.bus).raise _ _ ⟨rfl, rfl⟩

theorem lossTold_queued {bs : List ReportBody} {k : Nat} {s : State} (h : s.queued bs k) (room : k + 3 ≤ 32) (u : UnitIx) :
    (s.lossTold u).queued bs (k + 3) :=
  queued_weaken (queued_report (queued_raise h (by omega) _ _) (by omega) _) (List.subset_cons_self _ _)

theorem lossTold_lastReport {s : State} (busy : s.linkBusy) (u : UnitIx) :
    (s.lossTold u).lastReport = some (.moduleState u .online (s.unit u).state (s.unit u).attempts) := by
  have held : (s.raiseAlert (.module u) .moduleLost).link.tx ≠ .idle := by
    rw [((raiseAlert_calm s (.module u) .moduleLost).held (linkBusy_sends busy)).1]
    exact linkBusy_sends busy
  have state := unit_congr (raiseAlert_tables s (.module u) .moduleLost) u UnitRec.state fun _ => rfl
  have attempts := unit_congr (raiseAlert_tables s (.module u) .moduleLost) u UnitRec.attempts fun _ => rfl
  rw [State.lossTold, State.moduleState, queueReport_lastReport _ held, state, attempts]

theorem lossTold_cls {s : State} {u : UnitIx} (enabled : (s.policyOf .moduleLost).enabled = true)
    (fresh : (s.unit u).alert.acked ≠ some .moduleLost) : ((s.lossTold u).unit u).alert.cls = some .moduleLost := by
  obtain ⟨g, after, cls⟩ := raiseAlert_cls (s := s) (x := .module u) rfl enabled fresh
  exact (congrArg AlertFields.cls (Option.some.inj after)).trans cls

/-- The third miss, as the miss of an ONLINE unit. -/
theorem miss_third {s : State} {u : UnitIx} {c : BusCmd} {i : Instr} (missed : s.missedBy u c i) (noProbe : c ≠ .probe)
    (online : (s.unit u).state = .online) (second : 2 ≤ (s.unit u).misses) : s.miss = s.endFlight.recover u := by
  rw [miss_online missed noProbe online]
  exact if_pos (show 3 ≤ (s.unit u).misses + 1 by omega)

/-! ### A loss with nothing on the unit's slots -/

section
variable {s : State}

/-- With no channel on the slots none is freed. -/
theorem abortChannels_quiet {on : SlotNo → Bool} (off : ∀ (k : ChanNo) (n : SlotNo), (s.chan k).slot? = some n → on n = false)
    (cause : AbortCause) : s.abortChannels on cause = s := by
  have each (c : ChanNo) : State.abortOn on cause s c = s := by
    unfold State.abortOn
    cases slot : (s.chan c).slot? with
    | none => rfl
    | some n => exact if_neg (by simp [off c n slot])
  have fold (l : List ChanNo) : l.foldl (State.abortOn on cause) s = s := by
    induction l with
    | nil => rfl
    | cons c l ih => rw [List.foldl_cons, each, ih]
  exact fold allChannels

/-- With no entry on the slots none is aborted. -/
theorem abortEntries_quiet {on : SlotNo → Bool} (off : ∀ e ∈ s.release.queue, on e.slot = false) (cause : AbortCause) :
    s.abortEntries on cause = s := by
  have none_ : s.release.queue.filter (fun e => on e.slot) = [] :=
    List.filter_eq_nil_iff.mpr fun e there => by simp [off e there]
  rw [State.abortEntries, none_]
  rfl

variable {m : ModIx}

/-- With no channel and no entry on the module nothing is aborted. -/
theorem leaveOnline_quiet (new : UnitState) (channels : ∀ (k : ChanNo) (n : SlotNo), (s.chan k).slot? = some n → moduleOf n ≠ m)
    (entries : ∀ e ∈ s.release.queue, moduleOf e.slot ≠ m) : s.leaveOnline (modUnit m) new = s.offline m new := by
  have free : s.channelsLost m new = s.offline m new :=
    abortChannels_quiet (fun k n held => beq_false_of_ne (channels k n (by rwa [offline_chan] at held))) _
  have none_ (e : QueueEntry) (there : e ∈ (s.offline m new).release.queue) : onModule m e.slot = false := by
    rw [offline_release] at there
    exact beq_false_of_ne (entries e there)
  rw [leaveOnline_eq, free]
  exact abortEntries_quiet none_ .moduleOffline

theorem retireIfRisen_same {m : ModIx} (before : Nat) (same : (s.unit (modUnit m)).quarantined = before) :
    s.retireIfRisen m before = s := retireIfRisen_not_full (.inr same)

end

/-- The records after a loss with nothing on the slots. -/
def State.lostUnit (s : State) (u : UnitIx) : State :=
  { s.withUnit u fun r => { r with state := .recovery, retry := some 2, misses := 3, resync := false } with
    slots := Vector.ofFn fun n : SlotNo =>
      let r : SlotRec := s.slot n
      if modUnit (moduleOf n) = u ∧ r.occ ≠ Occupancy.unknown then
        { r with occ := Occupancy.unknown, tag := if r.occ = Occupancy.held then r.tag else none, since := s.time }
      else r }

theorem modUnit_inj {m k : ModIx} : modUnit m = modUnit k ↔ m = k := by revert m k; decide

theorem withUnit_time (s : State) (u : UnitIx) (f : UnitRec → UnitRec) : (s.withUnit u f).time = s.time := rfl

theorem lostUnit_module (s : State) (m : ModIx) :
    s.lostUnit (modUnit m) =
      ((s.thrice (modUnit m)).withUnit (modUnit m) fun r => { r with state := .recovery }).withSlots (moduleSlots m) fun r =>
        r.lost s.time := by
  have slots : (Vector.ofFn fun n : SlotNo => if n ∈ moduleSlots m then (s.slot n).lost s.time else s.slot n) =
      Vector.ofFn fun n : SlotNo =>
        if modUnit (moduleOf n) = modUnit m ∧ (s.slot n).occ ≠ Occupancy.unknown then
          { s.slot n with occ := Occupancy.unknown, tag := if (s.slot n).occ = Occupancy.held then (s.slot n).tag else none,
                          since := s.time }
        else s.slot n := by
    refine congrArg Vector.ofFn (funext fun n => ?_)
    have own : n ∈ moduleSlots m ↔ modUnit (moduleOf n) = modUnit m := mem_module_slots.trans modUnit_inj.symm
    by_cases here : modUnit (moduleOf n) = modUnit m
    · rw [if_pos (own.mpr here), SlotRec.lost_eq]
      by_cases known : (s.slot n).occ ≠ .unknown
      · rw [if_pos known, if_pos (show modUnit (moduleOf n) = modUnit m ∧ (s.slot n).occ ≠ .unknown from ⟨here, known⟩)]
      · rw [if_neg known, if_neg (show ¬ (modUnit (moduleOf n) = modUnit m ∧ (s.slot n).occ ≠ .unknown) from fun both => known both.2)]
    · rw [if_neg (fun there => here (own.mp there)), if_neg fun both => here both.1]
  rw [State.thrice, withUnit_withUnit, State.lostUnit, State.withSlots, ← slots]
  rfl

theorem lostUnit_chute (s : State) :
    s.lostUnit chuteIx = (s.thrice chuteIx).withUnit chuteIx fun r => { r with state := .recovery } := by
  have slots : (Vector.ofFn fun n : SlotNo =>
        if modUnit (moduleOf n) = chuteIx ∧ (s.slot n).occ ≠ Occupancy.unknown then
          { s.slot n with occ := Occupancy.unknown, tag := if (s.slot n).occ = Occupancy.held then (s.slot n).tag else none,
                          since := s.time }
        else s.slot n) = s.slots := by
    ext k hk
    rw [Vector.getElem_ofFn, if_neg fun both => modUnit_ne_chute _ both.1]
    rfl
  rw [State.thrice, withUnit_withUnit, State.lostUnit]
  dsimp only
  rw [slots]
  rfl

end Sys2Proof.Machine
end

section
/-! SUPPORT. The third miss, in every case (R36, R93, R49, R80, R98). -/

namespace Sys2Proof.Machine

/-! ### Nothing on the slots -/

/-- The state of a loss with nothing on the unit's slots, before MODULE_LOST. -/
structure QuietLoss (s : State) (u : UnitIx) (w : State) : Prop where
  whole : s.recover u = w.lossTold u
  tables : w.tables = (s.lostUnit u).tables
  latches : w.bus.latches = s.bus.latches.filter fun l => modUnit (moduleOf l.slot) != u
  link : w.link = s.link
  fields : ∀ x, w.alertOf x = s.alertOf x

theorem quietLoss_module {s : State} {m : ModIx} (granted : s.granted)
    (channels : ∀ (k : ChanNo) (n : SlotNo), (s.chan k).slot? = some n → moduleOf n ≠ m)
    (entries : ∀ e ∈ s.release.queue, moduleOf e.slot ≠ m) :
    QuietLoss s (modUnit m) ((s.thrice (modUnit m)).offline m .recovery) := by
  have tables : ((s.thrice (modUnit m)).offline m .recovery).tables = (s.lostUnit (modUnit m)).tables := by
    rw [offline_tables, lostUnit_module, State.thrice, withUnit_time]
  refine ⟨?_, tables, offline_latches _ m _, (offline_ports _ m _).1, fun x => (offline_alertOf _ m _ x).trans ?_⟩
  · have leaves := leaveOnline_quiet (s := s.thrice (modUnit m)) .recovery channels entries
    have told := lossTold_tables ((s.thrice (modUnit m)).offline m .recovery) (modUnit m)
    have same : (((s.thrice (modUnit m)).offline m .recovery).lossTold (modUnit m)).release = s.release :=
      (release_tables told).trans (offline_release _ m _)
    have count : ((((s.thrice (modUnit m)).offline m .recovery).lossTold (modUnit m)).unit (modUnit m)).quarantined
        = s.quarantinedOf m := by
      rw [unit_congr told (modUnit m) UnitRec.quarantined fun _ => rfl,
        offline_unit _ m _ (modUnit m) UnitRec.quarantined fun _ => rfl, if_pos rfl, State.thrice, unit_withUnit_self]
      rfl
    rw [recover_module, leaves, retireIfRisen_same _ count, arbiter_granted (granted_congr same granted)]
  · exact alertOf_putUnit s (modUnit m) { s.unit (modUnit m) with retry := some 2, resync := false, misses := Config.missLimit } rfl x

theorem quietLoss_chute (s : State) : QuietLoss s chuteIx ((s.thrice chuteIx).unitLeft chuteIx .recovery) where
  whole := recover_chute s
  tables := by rw [unitLeft_tables, lostUnit_chute]
  latches := unitLeft_latches _ _ _
  link := (unitLeft_ports _ _ _).1
  fields x := (unitLeft_alertOf _ _ _ x).trans
    (alertOf_putUnit s chuteIx { s.unit chuteIx with retry := some 2, resync := false, misses := Config.missLimit } rfl x)

section
variable {s w : State} {u : UnitIx}

theorem lostUnit_kept (s : State) (u : UnitIx) :
    (s.lostUnit u).units = (s.withUnit u fun r => { r with state := .recovery, retry := some 2, misses := 3, resync := false }).units
      ∧ (s.lostUnit u).policy = s.policy := by
  simp only [State.lostUnit, State.withUnit, and_self]

theorem lostUnit_unit (s : State) (u : UnitIx) :
    (s.lostUnit u).unit u = { s.unit u with state := .recovery, retry := some 2, misses := 3, resync := false } := by
  rw [State.unit, (lostUnit_kept s u).1]
  exact unit_withUnit_self s u fun r => { r with state := .recovery, retry := some 2, misses := 3, resync := false }

/-- What R36 says of a loss with nothing on the slots. -/
theorem QuietLoss.conclusion (h : QuietLoss s u w) :
    (s.recover u).tables = (s.lostUnit u).tables
      ∧ (∀ l ∈ (s.recover u).bus.latches, modUnit (moduleOf l.slot) ≠ u)
      ∧ ((s.policyOf .moduleLost).enabled = true → (s.unit u).alert.acked ≠ some .moduleLost →
          ((s.recover u).unit u).alert.cls = some .moduleLost)
      ∧ (s.linkBusy → (s.recover u).lastReport = some (.moduleState u .online .recovery (s.unit u).attempts)) := by
  obtain ⟨whole, tables, latches, link, fields⟩ := h
  rw [whole]
  refine ⟨(lossTold_tables w u).trans tables, fun l there => ?_, fun enabled fresh => lossTold_cls ?_ ?_, fun busy => ?_⟩
  · rw [(lossTold_ports w u).2, latches] at there
    exact bne_iff_ne.mp (List.mem_filter.mp there).2
  · have policy : w.policy = s.policy := by
      have same := congrArg State.policy tables
      exact (show w.policy = (s.lostUnit u).policy from same).trans (lostUnit_kept s u).2
    rw [State.policyOf, policy]
    exact enabled
  · have same : (w.unit u).alert = (s.unit u).alert := Option.some.inj (fields (.module u))
    rw [same]
    exact fresh
  · have state := (unit_congr tables u UnitRec.state fun _ => rfl).trans (congrArg UnitRec.state (lostUnit_unit s u))
    have attempts := (unit_congr tables u UnitRec.attempts fun _ => rfl).trans (congrArg UnitRec.attempts (lostUnit_unit s u))
    rw [lossTold_lastReport (by rw [State.linkBusy, link]; exact busy), state, attempts]

end

/-! ### A loss with releases on the module -/

section
variable (s : State) (m : ModIx)

/-- The module has left ONLINE. -/
def State.lossLeft : State := (s.thrice (modUnit m)).leaveOnline (modUnit m) .recovery

/-- The loss before the arbiter's turns. -/
def State.lossSettled : State := ((s.lossLeft m).lossTold (modUnit m)).retireIfRisen m (s.quarantinedOf m)

theorem recover_settled : s.recover (modUnit m) = (s.lossSettled m).arbiter := recover_module s m

theorem lossLeft_state : ((s.lossLeft m).unit (modUnit m)).state = .recovery := by
  obtain ⟨ns, aborted⟩ := leaveOnline_aborted (s.thrice (modUnit m)) m .recovery
  rw [State.lossLeft, aborted.state, offline_unit _ m _ (modUnit m) UnitRec.state fun _ => rfl, if_pos rfl]

theorem lossSettled_only :
    UnitsOnly (s.lossLeft m) (s.lossSettled m)
      ∧ (((s.lossSettled m).unit (modUnit m)).state = .recovery
        ∨ ((s.lossSettled m).unit (modUnit m)).state = .retired ∧ 16 ≤ ((s.lossSettled m).unit (modUnit m)).quarantined)
      ∧ ∀ bs k, (s.lossLeft m).queued bs k → k + 4 ≤ 32 → (s.lossSettled m).queued bs (k + 4) := by
  have told := lossTold_tables (s.lossLeft m) (modUnit m)
  obtain ⟨kiosk, bus⟩ := lossTold_ports (s.lossLeft m) (modUnit m)
  have state : (((s.lossLeft m).lossTold (modUnit m)).unit (modUnit m)).state = .recovery :=
    (unit_congr told (modUnit m) UnitRec.state fun _ => rfl).trans (lossLeft_state s m)
  obtain ⟨only, outcome, queues⟩ := retireIfRisen_recovery state (s.quarantinedOf m)
  refine ⟨(unitsOnly_of_tables told bus kiosk).trans only, outcome, fun bs k held room => ?_⟩
  exact queues bs (k + 3) (lossTold_queued held (by omega) _) (by omega)

theorem recover_state :
    ((s.recover (modUnit m)).unit (modUnit m)).state = .recovery
      ∨ ((s.recover (modUnit m)).unit (modUnit m)).state = .retired
        ∧ 16 ≤ ((s.recover (modUnit m)).unit (modUnit m)).quarantined := by
  have kept := (arbiter_grants (s.lossSettled m)).keys.units (modUnit m)
  have state : ((s.recover (modUnit m)).unit (modUnit m)).state = ((s.lossSettled m).unit (modUnit m)).state := by
    rw [recover_settled]
    exact show ((s.lossSettled m).arbiter.unit (modUnit m)).bare.state = ((s.lossSettled m).unit (modUnit m)).bare.state by rw [kept]
  have count : ((s.recover (modUnit m)).unit (modUnit m)).quarantined = ((s.lossSettled m).unit (modUnit m)).quarantined := by
    rw [recover_settled]
    exact show ((s.lossSettled m).arbiter.unit (modUnit m)).bare.quarantined = ((s.lossSettled m).unit (modUnit m)).bare.quarantined by rw [kept]
  rw [state, count]
  exact (lossSettled_only s m).2.1

theorem lossSettled_gone : ∀ e ∈ (s.lossSettled m).release.queue, onModule m e.slot = false := by
  rw [(lossSettled_only s m).1.release]
  exact leaveOnline_gone (s.thrice (modUnit m)) m .recovery

/-- No entry that waits for the arbiter names a slot of the module. -/
theorem lossSettled_idle {n : SlotNo} (own : onModule m n = true) : ¬ (s.lossSettled m).waitsFor n := by
  rintro ⟨e, there, rfl⟩
  rw [lossSettled_gone s m e there] at own
  cases own

theorem recover_chan (k : ChanNo) (n : SlotNo) (held : ((s.recover (modUnit m)).chan k).slot? = some n) : onModule m n = false := by
  rw [recover_settled] at held
  rcases (arbiter_grants (s.lossSettled m)).chan k n held with before | waits
  · rw [State.chan, (lossSettled_only s m).1.release] at before
    exact leaveOnline_chan (s.thrice (modUnit m)) m .recovery k n before
  · by_contra own
    exact lossSettled_idle s m (by simpa using own) waits

theorem recover_gone : ∀ e ∈ (s.recover (modUnit m)).release.queue, onModule m e.slot = false := by
  rw [recover_settled]
  exact fun e there => lossSettled_gone s m e ((arbiter_grants (s.lossSettled m)).queue.subset there)

theorem recover_latches : ∀ l ∈ (s.recover (modUnit m)).bus.latches, onModule m l.slot = false := by
  intro l there
  rw [recover_settled] at there
  rcases (arbiter_grants (s.lossSettled m)).latches l there with before | waits
  · rw [(lossSettled_only s m).1.bus, State.lossLeft, leaveOnline_bus, offline_latches] at before
    have apart := bne_iff_ne.mp (List.mem_filter.mp before).2
    exact beq_false_of_ne fun own => apart (congrArg modUnit own)
  · by_contra own
    exact lossSettled_idle s m (by simpa using own) waits

/-- A booking that the aborts have set LOADED stays so. -/
theorem recover_loadedAt {k : Nat} (loaded : (s.lossLeft m).loadedAt k) : (s.recover (modUnit m)).loadedAt k := by
  have only := (lossSettled_only s m).1.bookings
  have settled : (s.lossSettled m).loadedAt k := by
    refine loadedAt_mono (ns := []) (only.trans ?_) loaded
    rw [map_loadedIf_bare]
    simp [Booking.loadedIf_nil]
  obtain ⟨ns, bookings⟩ := (arbiter_grants (s.lossSettled m)).bookings
  rw [recover_settled]
  exact loadedAt_mono bookings settled

/-- The slot records of the module stay as the aborts have left them. -/
theorem recover_slot {n : SlotNo} (own : onModule m n = true) :
    ((s.recover (modUnit m)).slot n).channel = ((s.lossLeft m).slot n).channel
      ∧ ((s.recover (modUnit m)).slot n).service = ((s.lossLeft m).slot n).service
      ∧ ((s.recover (modUnit m)).slot n).lastRelease = ((s.lossLeft m).slot n).lastRelease
      ∧ (((s.lossLeft m).slot n).queued = false → ((s.recover (modUnit m)).slot n).queued = false) := by
  have grants := arbiter_grants (s.lossSettled m)
  have only := (lossSettled_only s m).1
  rw [recover_settled]
  refine ⟨(grants.channel n (lossSettled_idle s m own)).trans (only.slot n SlotRec.channel fun _ => rfl),
    (grants.service n).trans (only.slot n SlotRec.service fun _ => rfl),
    (grants.last n).trans (only.slot n SlotRec.lastRelease fun _ => rfl), fun none_ => ?_⟩
  exact (grants.queued n).elim (fun same => same.trans ((only.slot n SlotRec.queued fun _ => rfl).trans none_)) id

/-- The reports of the aborts still wait at the end. -/
theorem recover_reports (busy : s.linkBusy) (few : s.link.reports.length ≤ 8) (short : s.release.queue.length ≤ 16) :
    (∀ e ∈ s.release.queue, onModule m e.slot = true →
        s.abortReport e .moduleOffline ∈ (s.recover (modUnit m)).link.reports.map (·.body))
      ∧ ∀ k n b phase, (s.chan k).uses n b phase → onModule m n = true →
          s.abortedReport n b phase .moduleOffline ∈ (s.recover (modUnit m)).link.reports.map (·.body) := by
  have part : (s.release.queue.filter fun e => onModule m e.slot).length ≤ 16 := (List.length_filter_le _ _).trans short
  obtain ⟨rs, entries, releases, held⟩ := leaveOnline_queued (s.thrice (modUnit m)) m .recovery busy few part
  obtain ⟨only, -, queues⟩ := lossSettled_only s m
  have rest : (s.lossSettled m).release.queue.length + (s.release.queue.filter fun e => onModule m e.slot).length
      = s.release.queue.length := by
    have release := (entriesLost_aborts (s.thrice (modUnit m)) m .recovery).release
    have queue : ((s.thrice (modUnit m)).channelsLost m .recovery).release.queue = s.release.queue := by
      rw [(channelsLost_aborts _ m _).queue, offline_release]
      rfl
    rw [only.release, State.lossLeft, release, queue]
    exact length_foldl_erase List.filter_sublist.subperm
  have settled := queues rs _ held (by show 12 + (s.release.queue.filter _).length + 4 ≤ 32; omega)
  have final := (arbiter_grants (s.lossSettled m)).told rs _ settled (by
    show 12 + (s.release.queue.filter fun e => onModule m e.slot).length + 4 + _ ≤ 32; omega)
  rw [recover_settled]
  exact ⟨fun e there own => final.2.1 _ (entries e there own), fun k n b phase uses own => final.2.1 _ (releases k n b phase uses own)⟩

/-- What becomes of an entry on the module's slots. -/
theorem recover_entry {e : QueueEntry} (there : e ∈ s.release.queue) (own : onModule m e.slot = true) :
    (s.recover (modUnit m)).loadedAt e.booking ∧ ((s.recover (modUnit m)).slot e.slot).queued = false := by
  have entries := entriesLost_aborts (s.thrice (modUnit m)) m .recovery
  have listed : e ∈ (s.thrice (modUnit m)).release.queue.filter fun e => onModule m e.slot := List.mem_filter.mpr ⟨there, own⟩
  refine ⟨recover_loadedAt s m ?_, (recover_slot s m own).2.2.2 (entries.unqueued e listed)⟩
  exact loadedAt_of_mem entries.aborted.bookings (List.mem_map_of_mem listed)

/-- What becomes of a channel on the module's slots. -/
theorem recover_channel {k : ChanNo} {n : SlotNo} (held : (s.chan k).slot? = some n) (own : onModule m n = true) :
    ((s.recover (modUnit m)).slot n).channel = none
      ∧ ((s.slot n).service = .quarantinePending → ((s.recover (modUnit m)).slot n).service = .quarantined) := by
  have channels := channelsLost_aborts (s.thrice (modUnit m)) m .recovery
  have entries := entriesLost_aborts (s.thrice (modUnit m)) m .recovery
  obtain ⟨-, none_, quarantined⟩ := channels.freed k (mem_allChannels k) n (by rw [offline_chan]; exact held) own
  obtain ⟨channel, service, -, -⟩ := recover_slot s m own
  refine ⟨channel.trans ((entries.channel n).trans none_), fun pending => service.trans ((entries.service n).trans (quarantined ?_))⟩
  rw [offline_slot (s.thrice (modUnit m)) m .recovery n SlotRec.service fun _ => rfl, if_pos (beq_iff_eq.mp own),
    SlotRec.lost_kept _ _ SlotRec.service fun _ _ _ => rfl]
  exact pending

/-- What becomes of a release on the module's slots, its channel the only one of its slot. -/
theorem recover_release {k : ChanNo} {n : SlotNo} {b : Nat} {phase : ReleasePhase} (uses : (s.chan k).uses n b phase)
    (own : onModule m n = true) (alone : ∀ k' : ChanNo, (s.chan k').slot? = some n → k' = k) :
    (s.recover (modUnit m)).loadedAt b ∧ ((s.recover (modUnit m)).slot n).lastRelease = some b := by
  have channels := channelsLost_aborts (s.thrice (modUnit m)) m .recovery
  have entries := entriesLost_aborts (s.thrice (modUnit m)) m .recovery
  have chan (j : ChanNo) : ((s.thrice (modUnit m)).offline m .recovery).chan j = s.chan j := offline_chan _ m _ j
  obtain ⟨ns, aborted, numbers⟩ := channels.aborted
  refine ⟨recover_loadedAt s m (loadedAt_mono entries.aborted.bookings (loadedAt_of_mem aborted.bookings ?_)), ?_⟩
  · exact (numbers b).mpr ⟨k, mem_allChannels k, n, phase, own, by rw [chan]; exact uses⟩
  · obtain ⟨k', b', phase', uses', last⟩ := channels.last k (mem_allChannels k) n b phase (by rw [chan]; exact uses) own
    rw [chan] at uses'
    obtain rfl := alone k' (Channel.uses_slot uses')
    obtain ⟨-, rfl, -⟩ := Channel.uses_unique uses' uses
    exact (recover_slot s m own).2.2.1.trans ((entries.last n).trans last)

/-! ### With an empty queue -/

theorem recover_empty (empty : s.release.queue = []) :
    UnitsOnly ((s.thrice (modUnit m)).channelsLost m .recovery) (s.recover (modUnit m)) := by
  have queue : ((s.thrice (modUnit m)).channelsLost m .recovery).release.queue = [] := by
    rw [(channelsLost_aborts _ m _).queue, offline_release]
    exact empty
  have left : s.lossLeft m = (s.thrice (modUnit m)).channelsLost m .recovery := by
    rw [State.lossLeft, leaveOnline_eq]
    exact abortEntries_quiet (fun e there => by rw [queue] at there; exact absurd there List.not_mem_nil) _
  have only := (lossSettled_only s m).1
  have idle : (s.lossSettled m).granted := .inl (by rw [only.release, left, queue])
  rw [recover_settled, arbiter_granted idle, ← left]
  exact only

/-- The notice of a kiosk release, with nothing in the Release Queue. -/
theorem recover_notice {k : ChanNo} {n : SlotNo} {b : Nat} {phase : ReleasePhase} (uses : (s.chan k).uses n b phase)
    (own : onModule m n = true) (source : s.sourceOf b = some .kiosk) (busy : s.kioskBusy) (none_ : s.kiosk.notices = [])
    (empty : s.release.queue = []) : { booking := b, event := .aborted } ∈ (s.recover (modUnit m)).kiosk.notices := by
  obtain ⟨xs, placed, notices⟩ := (channelsLost_aborts (s.thrice (modUnit m)) m .recovery).noticed
  have start : ((s.thrice (modUnit m)).offline m .recovery).noticed [] 0 :=
    noticed_congr (offline_ports _ m _).2 ⟨busy, fun _ there => absurd there List.not_mem_nil, by
      show s.kiosk.notices.length ≤ 0
      rw [none_]; exact le_refl 0⟩
  have waits := (notices [] 0 start (by decide)).2.1
  rw [(recover_empty s m empty).kiosk]
  refine waits _ (List.mem_append_left _ (placed k (mem_allChannels k) n b phase ?_ own ?_))
  · rw [offline_chan]; exact uses
  · rw [offline_sourceOf]; exact source

/-- The booking of a channel in CLOSING is as before, where nothing else has it. -/
theorem recover_closing {k : ChanNo} {n : SlotNo} {b : Nat} {why : CloseReason} (chan : s.chan k = .closing n b why)
    (empty : s.release.queue = []) (alone : ∀ k' : ChanNo, k' ≠ k → (s.chan k').booking? ≠ some b) :
    ((s.recover (modUnit m)).booking? b).map Booking.bare = (s.booking? b).map Booking.bare := by
  obtain ⟨ns, aborted, numbers⟩ := (channelsLost_aborts (s.thrice (modUnit m)) m .recovery).aborted
  have other : b ∉ ns := by
    rw [numbers]
    rintro ⟨k', -, n', phase, -, uses⟩
    rw [offline_chan] at uses
    change (s.chan k').uses n' b phase at uses
    by_cases same : k' = k
    · subst same
      rw [chan] at uses
      obtain ⟨eq, -⟩ | ⟨⟨d, eq⟩, -⟩ := uses <;> cases eq
    · refine alone k' same ?_
      obtain ⟨eq, -⟩ | ⟨⟨d, eq⟩, -⟩ := uses <;> (rw [eq]; rfl)
  have bookings := (recover_empty s m empty).bookings.trans aborted.bookings
  rw [map_loadedIf_bare, offline_bookings, ← map_loadedIf_bare] at bookings
  exact booking?_of_not_mem bookings other

end

end Sys2Proof.Machine
end

section
/-! SUPPORT. The third miss as its obligation states it. -/

namespace Sys2Proof.Machine

/-- The bus's next command leaves the records that a loss has set, and adds no LATCH command. -/
theorem chooseCommand_after (s : State) :
    (∀ n, s.chooseCommand.slot n = s.slot n) ∧ s.chooseCommand.release = s.release ∧ (∀ k, s.chooseCommand.booking? k = s.booking? k)
      ∧ s.chooseCommand.kiosk = s.kiosk ∧ s.chooseCommand.link = s.link
      ∧ ∀ u, (s.chooseCommand.unit u).state = (s.unit u).state ∧ (s.chooseCommand.unit u).quarantined = (s.unit u).quarantined
        ∧ (s.chooseCommand.unit u).alert = (s.unit u).alert := by
  have same := chooseCommand_tables s
  obtain ⟨-, -, -, bookings, -, link⟩ := chooseCommand_records s
  exact ⟨slot_afterChoice s, release_tables same, fun k => by rw [State.booking?, bookings]; rfl, (chooseCommand_kept s).1, link,
    fun u => ⟨unit_congr same u UnitRec.state fun _ => rfl, unit_congr same u UnitRec.quarantined fun _ => rfl,
      unit_alert_chooseCommand s u⟩⟩

theorem onModule_iff {m : ModIx} {n : SlotNo} : onModule m n = true ↔ modUnit (moduleOf n) = modUnit m := by
  rw [onModule, beq_iff_eq, modUnit_inj]

theorem not_onModule {m : ModIx} {n : SlotNo} (off : onModule m n = false) : modUnit (moduleOf n) ≠ modUnit m := by
  intro own
  rw [onModule_iff.mpr own] at off
  cases off

theorem exec_third {s : State} {u : UnitIx} {c : BusCmd} {i : Instr} (missed : s.missedBy u c i) (noProbe : c ≠ .probe)
    (online : (s.unit u).state = .online) (second : 2 ≤ (s.unit u).misses) :
    exec i s = .next (s.endFlight.recover u).chooseCommand := by
  obtain ⟨f, meaning, event⟩ := missedBy_event missed
  rw [meaning, State.event, if_neg (by simp [missed.1]), event, miss_third missed noProbe online second]

/-- A loss with nothing on the unit's slots. -/
theorem recover_quiet {s : State} {u : UnitIx} (granted : s.granted)
    (channels : ∀ (k : ChanNo) (n : SlotNo), (s.chan k).slot? = some n → modUnit (moduleOf n) ≠ u)
    (entries : ∀ e ∈ s.release.queue, modUnit (moduleOf e.slot) ≠ u) : ∃ w, QuietLoss s u w := by
  obtain ⟨m, rfl⟩ | rfl := module_or_chute u
  · exact ⟨_, quietLoss_module granted (fun k n held own => channels k n held (congrArg modUnit own))
      fun e there own => entries e there (congrArg modUnit own)⟩
  · exact ⟨_, quietLoss_chute s⟩

/-- The chute unit has no slot. -/
theorem recover_chute_state (s : State) : ((s.recover chuteIx).unit chuteIx).state = .recovery := by
  rw [recover_chute, unit_congr (lossTold_tables _ chuteIx) chuteIx UnitRec.state fun _ => rfl,
    unit_congr (unitLeft_tables _ chuteIx .recovery) chuteIx UnitRec.state fun _ => rfl, unit_withUnit_self]

/-- What is stated of a loss in every case, of the state `z` it ends in. -/
def State.losesUnit (s : State) (u : UnitIx) (z : State) : Prop :=
  let on : SlotNo → Prop := fun n => modUnit (moduleOf n) = u
  ((z.unit u).state = .recovery ∨ (z.unit u).state = .retired ∧ 16 ≤ (z.unit u).quarantined)
    ∧ (∀ (k : ChanNo) (n : SlotNo), (z.chan k).slot? = some n → ¬ on n) ∧ (∀ e ∈ z.release.queue, ¬ on e.slot)
    ∧ (∀ l ∈ z.bus.latches, ¬ on l.slot)
    ∧ (∀ e ∈ s.release.queue, on e.slot → z.loadedAt e.booking ∧ (z.slot e.slot).queued = false
        ∧ (s.linkBusy → s.link.reports.length ≤ 8 → s.release.queue.length ≤ 16 →
            s.abortReport e .moduleOffline ∈ z.link.reports.map (·.body)))
    ∧ ∀ (k : ChanNo) (n : SlotNo), (s.chan k).slot? = some n → on n → (∀ k' : ChanNo, (s.chan k').slot? = some n → k' = k) →
        ((z.slot n).channel = none ∧ ((s.slot n).service = .quarantinePending → (z.slot n).service = .quarantined))
        ∧ (∀ (b : Nat) (phase : ReleasePhase), (s.chan k).uses n b phase →
            z.loadedAt b ∧ (z.slot n).lastRelease = some b
            ∧ (s.linkBusy → s.link.reports.length ≤ 8 → s.release.queue.length ≤ 16 →
                s.abortedReport n b phase .moduleOffline ∈ z.link.reports.map (·.body))
            ∧ (s.sourceOf b = some .kiosk → s.kioskBusy → s.kiosk.notices = [] → s.release.queue = [] →
                { booking := b, event := .aborted } ∈ z.kiosk.notices))
        ∧ ∀ (b : Nat) (why : CloseReason), s.chan k = .closing n b why → s.release.queue = [] →
            (∀ k' : ChanNo, k' ≠ k → (s.chan k').booking? ≠ some b) →
            (z.booking? b).map Booking.bare = (s.booking? b).map Booking.bare

theorem losesUnit_module (s : State) (m : ModIx) : s.losesUnit (modUnit m) (s.recover (modUnit m)) := by
  have own {n : SlotNo} (on : modUnit (moduleOf n) = modUnit m) : onModule m n = true := onModule_iff.mpr on
  refine ⟨recover_state s m, fun k n held => not_onModule (recover_chan s m k n held), fun e there => not_onModule (recover_gone s m e there),
    fun l there => not_onModule (recover_latches s m l there), fun e there on => ?_, fun k n held on alone => ⟨?_, fun b phase uses => ?_,
      fun b why chan empty others => recover_closing s m chan empty others⟩⟩
  · obtain ⟨loaded, unqueued⟩ := recover_entry s m there (own on)
    exact ⟨loaded, unqueued, fun busy few short => (recover_reports s m busy few short).1 e there (own on)⟩
  · exact recover_channel s m held (own on)
  · obtain ⟨loaded, last⟩ := recover_release s m uses (own on) alone
    exact ⟨loaded, last, fun busy few short => (recover_reports s m busy few short).2 k n b phase uses (own on),
      fun source busy none_ empty => recover_notice s m uses (own on) source busy none_ empty⟩

theorem losesUnit_chute (s : State) : s.losesUnit chuteIx (s.recover chuteIx) := by
  have never {n : SlotNo} : modUnit (moduleOf n) ≠ chuteIx := modUnit_ne_chute _
  exact ⟨.inl (recover_chute_state s), fun _ _ _ => never, fun _ _ => never, fun _ _ => never, fun _ _ on => absurd on never,
    fun _ _ _ on => absurd on never⟩

theorem losesUnit_recover (s : State) (u : UnitIx) : s.losesUnit u (s.recover u) := by
  obtain ⟨m, rfl⟩ | rfl := module_or_chute u
  · exact losesUnit_module s m
  · exact losesUnit_chute s

theorem losesUnit_chosen {s z : State} {u : UnitIx} (h : s.losesUnit u z) : s.losesUnit u z.chooseCommand := by
  obtain ⟨slots, release, bookings, kiosk, link, units⟩ := chooseCommand_after z
  have loaded (k : Nat) : z.chooseCommand.loadedAt k = z.loadedAt k := by rw [State.loadedAt, State.loadedAt, bookings]
  have chans (k : ChanNo) : z.chooseCommand.chan k = z.chan k := by rw [State.chan, State.chan, release]
  obtain ⟨state, channels, entries, latches, queued, held⟩ := h
  refine ⟨?_, ?_, ?_, fun l there => latches l (chooseCommand_latches z l there), ?_, ?_⟩
  · rw [(units u).1, (units u).2.1]; exact state
  · intro k n; rw [chans]; exact channels k n
  · rw [release]; exact entries
  · intro e; rw [loaded, slots, link]; exact queued e
  · intro k n; simp only [loaded, slots, link, kiosk, bookings]; exact held k n

/-- Settles O41: with nothing on the slots the loss is `QuietLoss`; else the aborts, the arbiter's turns and the bus's next command
leave what is stated of the module's slots. -/
theorem theThirdMissLosesTheUnit : Obligations.TheThirdMissLosesTheUnit := by
  intro s u c i missed noProbe online second on
  have next := exec_third missed noProbe online second
  obtain ⟨slots, release, bookings, kiosk, link, units⟩ := chooseCommand_after (s.endFlight.recover u)
  refine ⟨fun granted channels entries => ?_, _, next, ?_⟩
  · obtain ⟨w, quiet⟩ := recover_quiet (s := s.endFlight) granted channels entries
    obtain ⟨tables, latches, cls, report⟩ := quiet.conclusion
    refine ⟨_, next, (chooseCommand_tables _).trans tables, fun l there => latches l (chooseCommand_latches _ l there),
      fun enabled fresh => ?_, fun busy => ?_⟩
    · rw [(units u).2.2]
      exact cls enabled fresh
    · rw [State.lastReport, link]
      exact report busy
  · obtain ⟨state, channels, entries, latches, queued, held⟩ := losesUnit_chosen (losesUnit_recover s.endFlight u)
    refine ⟨state, channels, entries, latches, fun info is => ?_⟩
    subst is
    exact ⟨queued, held⟩

end Sys2Proof.Machine
end

section
/-! SUPPORT. Entry to HOLD for the units (R40): every unit dark, the slots of the modules that were ONLINE UNKNOWN. -/

namespace Sys2Proof.Machine

/-- The units `l` of `s` are dark in `t`, with the slots of the modules of `l` that were ONLINE lost. -/
structure Darkened (s t : State) (l : List UnitIx) : Prop where
  units : ∀ u, (t.unit u).bare = if u ∈ l then (s.unit u).darken.bare else (s.unit u).bare
  slots : ∀ n, (t.slot n).bare =
    if modUnit (moduleOf n) ∈ l ∧ s.slotOnline n = true then ((s.slot n).lost s.time).bare else (s.slot n).bare
  release : t.release = s.release
  bookings : t.bookings.map Booking.bare = s.bookings.map Booking.bare
  rest : t.elsewhere = s.elsewhere
  bus : t.bus = s.bus

theorem Darkened.refl (s : State) : Darkened s s [] where
  units _ := (if_neg List.not_mem_nil).symm
  slots _ := (if_neg fun both => List.not_mem_nil both.1).symm
  release := rfl
  bookings := rfl
  rest := rfl
  bus := rfl

theorem elsewhere_time {s t : State} (same : t.elsewhere = s.elsewhere) : t.time = s.time :=
  show t.elsewhere.time = s.elsewhere.time from congrArg State.time same

theorem withUnit_elsewhere (s : State) (u : UnitIx) (f : UnitRec → UnitRec) : (s.withUnit u f).elsewhere = s.elsewhere := by
  unfold State.elsewhere State.tables
  rfl

theorem withSlots_elsewhere (s : State) (l : List SlotNo) (f : SlotRec → SlotRec) : (s.withSlots l f).elsewhere = s.elsewhere := by
  simp only [State.elsewhere, State.tables, State.withSlots]

/-- A record's loss seen through the fields that the tables keep. -/
theorem SlotRec.lost_bare_congr {r q : SlotRec} (same : r.bare = q.bare) (time : Option Nat) : (r.lost time).bare = (q.lost time).bare := by
  rw [SlotRec.lost_bare, SlotRec.lost_bare, same]

theorem UnitRec.darken_bare (r : UnitRec) : r.darken.bare = r.bare.darken.bare := by
  obtain ⟨state⟩ := r
  cases state <;> rfl

section
variable (s : State)

theorem darkenUnit_module (m : ModIx) :
    s.darkenUnit (modUnit m) =
      if s.online (modUnit m) then (s.withUnit (modUnit m) UnitRec.darken).slotsUnknown m else s.withUnit (modUnit m) UnitRec.darken := by
  unfold State.darkenUnit
  rw [unitMod_modUnit]
  rfl

theorem darkenUnit_chute : s.darkenUnit chuteIx = s.withUnit chuteIx UnitRec.darken := rfl

/-- The unit record of one unit darkened, the slots as they were. -/
theorem withUnit_darkened (u : UnitIx) (offline : ∀ n, modUnit (moduleOf n) = u → s.slotOnline n = false) :
    Darkened s (s.withUnit u UnitRec.darken) [u] where
  units v := by
    rw [unit_withUnit]
    by_cases same : v = u
    · rw [if_pos same, if_pos (List.mem_singleton.mpr same), same]
    · rw [if_neg same, if_neg fun there => same (List.mem_singleton.mp there)]
  slots n := by
    refine (if_neg ?_).symm
    rintro ⟨own, online⟩
    rw [offline n (List.mem_singleton.mp own)] at online
    cases online
  release := rfl
  bookings := rfl
  rest := withUnit_elsewhere _ _ _
  bus := rfl

theorem slotsUnknown_darkened {m : ModIx} (online : s.online (modUnit m) = true) :
    Darkened s ((s.withUnit (modUnit m) UnitRec.darken).slotsUnknown m) [modUnit m] where
  units v := by
    rw [unit_bare (slotsUnknown_form _ m), unit_withSlots, unit_withUnit]
    by_cases same : v = modUnit m
    · rw [if_pos same, if_pos (List.mem_singleton.mpr same), same]
    · rw [if_neg same, if_neg fun there => same (List.mem_singleton.mp there)]
  slots n := by
    rw [slot_bare (slotsUnknown_form _ m), slot_withSlots]
    have own : n ∈ moduleSlots m ↔ modUnit (moduleOf n) ∈ [modUnit m] := by
      rw [List.mem_singleton, modUnit_inj]; exact mem_module_slots
    by_cases here : n ∈ moduleSlots m
    · have slot : s.slotOnline n = true := by
        rw [State.slotOnline, List.mem_singleton.mp (own.mp here)]; exact online
      rw [if_pos here, if_pos ⟨own.mp here, slot⟩]
      rfl
    · rw [if_neg here, if_neg fun both => here (own.mpr both.1)]
      rfl
  release := (release_tables (slotsUnknown_form _ m)).trans (withSlots_release _ _ _).1
  bookings := by rw [bookings_bare (slotsUnknown_form _ m), (withSlots_release _ _ _).2]; rfl
  rest := (elsewhere_congr (slotsUnknown_form _ m)).trans ((withSlots_elsewhere _ _ _).trans (withUnit_elsewhere _ _ _))
  bus := (slotsUnknown_untold _ m).bus

theorem darkenUnit_darkened (u : UnitIx) : Darkened s (s.darkenUnit u) [u] := by
  obtain ⟨m, rfl⟩ | rfl := module_or_chute u
  · rw [darkenUnit_module]
    split
    · next online => exact slotsUnknown_darkened s online
    · next offline =>
      refine withUnit_darkened s _ fun n own => ?_
      rw [State.slotOnline, own]
      simpa using offline
  · rw [darkenUnit_chute]
    exact withUnit_darkened s _ fun n own => absurd own (modUnit_ne_chute _)

end

/-- One unit, then others. -/
theorem Darkened.cons {s t w : State} {u : UnitIx} {l : List UnitIx} (h : Darkened s t [u]) (k : Darkened t w l) (fresh : u ∉ l) :
    Darkened s w (u :: l) where
  units v := by
    rw [k.units]
    by_cases later : v ∈ l
    · have other : v ≠ u := fun eq => fresh (eq ▸ later)
      have same : (t.unit v).bare = (s.unit v).bare := by rw [h.units, if_neg fun there => other (List.mem_singleton.mp there)]
      rw [if_pos later, if_pos (List.mem_cons_of_mem _ later), UnitRec.darken_bare, same, ← UnitRec.darken_bare]
    · rw [if_neg later, h.units]
      by_cases here : v = u
      · rw [if_pos (List.mem_singleton.mpr here), if_pos (here ▸ List.mem_cons_self)]
      · rw [if_neg fun there => here (List.mem_singleton.mp there), if_neg fun there => (List.mem_cons.mp there).elim here later]
  slots n := by
    rw [k.slots]
    by_cases later : modUnit (moduleOf n) ∈ l
    · have other : modUnit (moduleOf n) ≠ u := fun eq => fresh (eq ▸ later)
      have unit : (t.unit (modUnit (moduleOf n))).bare = (s.unit (modUnit (moduleOf n))).bare := by
        rw [h.units, if_neg fun there => other (List.mem_singleton.mp there)]
      have state : (t.unit (modUnit (moduleOf n))).state = (s.unit (modUnit (moduleOf n))).state :=
        show (t.unit (modUnit (moduleOf n))).bare.state = (s.unit (modUnit (moduleOf n))).bare.state by rw [unit]
      have online : t.slotOnline n = s.slotOnline n := by
        rw [State.slotOnline, State.slotOnline, State.online, State.online, state]
      have slot : (t.slot n).bare = (s.slot n).bare := by
        rw [h.slots, if_neg fun both => other (List.mem_singleton.mp both.1)]
      rw [online, elsewhere_time h.rest, SlotRec.lost_bare_congr slot, slot]
      refine if_congr ?_ rfl rfl
      exact and_congr_left' ⟨List.mem_cons_of_mem _, fun _ => later⟩
    · rw [if_neg fun both => later both.1, h.slots]
      refine if_congr ?_ rfl rfl
      refine and_congr_left' ⟨fun there => List.mem_cons.mpr (.inl (List.mem_singleton.mp there)), fun there => ?_⟩
      exact List.mem_singleton.mpr ((List.mem_cons.mp there).resolve_right later)
  release := k.release.trans h.release
  bookings := k.bookings.trans h.bookings
  rest := k.rest.trans h.rest
  bus := k.bus.trans h.bus

theorem foldl_darkenUnit {l : List UnitIx} (nodup : l.Nodup) (s : State) : Darkened s (l.foldl State.darkenUnit s) l := by
  induction l generalizing s with
  | nil => exact .refl s
  | cons u l ih =>
    obtain ⟨fresh, rest⟩ := List.nodup_cons.mp nodup
    exact (darkenUnit_darkened s u).cons (ih rest _) fresh

/-- Every unit dark. -/
theorem allUnits_darkened (s : State) : Darkened s (allUnits.foldl State.darkenUnit s) allUnits :=
  foldl_darkenUnit (allUnits_ascending.imp fun lt => ne_of_lt lt) s

end Sys2Proof.Machine
end

section
/-! SUPPORT. Entry to HOLD (R165, R94, R40). -/

namespace Sys2Proof.Machine

/-! ### The modules that stand full (R38) -/

/-- No unit is ONLINE, PROBING or in RECOVERY. -/
def State.allDark (s : State) : Prop :=
  ∀ u, (s.unit u).state ≠ .online ∧ (s.unit u).state ≠ .probing ∧ (s.unit u).state ≠ .recovery

/-- The records of a state but for retire marks. -/
structure MarksOnly (s t : State) : Prop where
  only : UnitsOnly s t
  state : ∀ u, (t.unit u).state = (s.unit u).state
  rest : t.elsewhere = s.elsewhere

theorem MarksOnly.refl (s : State) : MarksOnly s s := ⟨.refl s, fun _ => rfl, rfl⟩

theorem MarksOnly.trans {s t u : State} (h : MarksOnly s t) (k : MarksOnly t u) : MarksOnly s u :=
  ⟨h.only.trans k.only, fun x => (k.state x).trans (h.state x), k.rest.trans h.rest⟩

theorem retire_marks {s : State} (dark : s.allDark) (m : ModIx) : MarksOnly s (s.retire m) := by
  obtain ⟨online, probing, recovery⟩ := dark (modUnit m)
  unfold State.retire
  dsimp only
  split
  · next state => exact absurd state online
  · next state => exact absurd state probing
  · next state => exact absurd state recovery
  · refine ⟨⟨fun _ => rfl, rfl, rfl, rfl, rfl⟩, fun u => ?_, withUnit_elsewhere s (modUnit m) fun r => { r with retireMark := true }⟩
    have read := unit_withUnit s (modUnit m) u fun r => { r with retireMark := true }
    refine (congrArg UnitRec.state read).trans ?_
    split
    · next eq => rw [eq]
    · rfl
  · exact .refl s

theorem retireIfRisen_marks {s : State} (dark : s.allDark) (m : ModIx) (before : Nat) : MarksOnly s (s.retireIfRisen m before) := by
  unfold State.retireIfRisen
  split
  · exact retire_marks dark m
  · exact .refl s

theorem markFull_marks {s : State} (dark : s.allDark) (before : State) : MarksOnly s (s.markFull before) := by
  unfold State.markFull
  generalize modules = l
  induction l generalizing s with
  | nil => exact .refl s
  | cons m l ih =>
    have one := retireIfRisen_marks dark m (before.quarantinedOf m)
    exact one.trans (ih fun u => by rw [one.state]; exact dark u)

/-! ### The end of a session, and SUPPLY -/

/-- The tables of a state but for conditions, session and Directory are those of another. -/
theorem records_kept {s t : State} {a : Vector CondRec 6} {b : Session} {c : List KeyEntry}
    (h : t.tables = { s.tables with conds := a, session := b, directory := c }) :
    t.tables = ({ s with conds := t.conds, session := t.session, directory := t.directory } : State).tables := by
  have conds : t.conds.map CondRec.bare = a := congrArg State.conds h
  have session : t.session = b := congrArg State.session h
  have directory : t.directory.map KeyEntry.bare = c := congrArg State.directory h
  rw [h, ← conds, ← session, ← directory]
  rfl

theorem condTo_kept (s : State) (c : Condition) (b : Bool) : ∃ a, s.condTo c b = { s with conds := a } := ⟨_, rfl⟩

theorem endSession_kept (s : State) :
    (∃ a b c, (s.endSession .hold).tables = { s.tables with conds := a, session := b, directory := c })
      ∧ (s.endSession .hold).session.remaining = none := by
  have form := endSession_form s .hold
  have judged : s.tables.sessionEnded.overrunJudged .hold = s.tables.sessionEnded.panelJudged := if_neg (by simp)
  rw [judged] at form
  obtain ⟨a, conds⟩ := condTo_kept s.tables.sessionEnded .panelOpen
    (s.tables.sessionEnded.mode.panelOpen && s.tables.sessionEnded.session.remaining.isNone
      && !(s.tables.sessionEnded.cond .serviceOverrun).active)
  have panel : s.tables.sessionEnded.panelJudged = { s.tables.sessionEnded with conds := a } := conds
  rw [panel] at form
  exact ⟨⟨a, _, _, form⟩, congrArg (fun t : State => t.session.remaining) form⟩

theorem leftBehind_bus (s : State) (r : Removal) : (s.leftBehind r).bus = s.bus := by
  unfold State.leftBehind
  dsimp only
  split
  · exact (setMissing_ports _ _).2
  · rfl

theorem beginCond_bus (s : State) (c : Condition) : (s.beginCond c).bus = s.bus :=
  ((alert_kiosk s.kiosk s.bus).raise (s := s.putCond c { s.cond c with active := true }) _ _ ⟨rfl, rfl⟩).2

theorem judgePanel_bus (s : State) : s.judgePanel.bus = s.bus := by
  unfold State.judgePanel State.judgeCond
  split
  · rfl
  · split
    · exact beginCond_bus s _
    · exact ((alert_kiosk s.kiosk s.bus).withdraw (s := s.putCond .panelOpen { s.cond .panelOpen with active := false }) _ _
        ⟨rfl, rfl⟩).2

theorem endSession_bus (s : State) : (s.endSession .hold).bus = s.bus := by
  have left (l : List Removal) (t : State) : (l.foldl State.leftBehind t).bus = t.bus := by
    induction l generalizing t with
    | nil => rfl
    | cons r l ih => exact (ih _).trans (leftBehind_bus t r)
  unfold State.endSession
  dsimp only
  rw [if_neg (by simp), judgePanel_bus]
  exact left _ _

/-! ### The stages of the entry -/

section
variable (s : State)

/-- The level LOST and the budget 0. -/
def State.holdBegun : State := ((s.setLevel .lost).supplyState (some s.mode.level) 0).setBudget 0

/-- The units dark. -/
def State.holdDark : State := s.holdBegun.unitsDark

/-- Every release aborted, and the full modules marked. -/
def State.holdFreed : State := ((s.holdDark.abortChannels (fun _ => true) .hold).abortEntries (fun _ => true) .hold).markFull s

/-- The session ended. -/
def State.holdQuieted : State := if s.holdFreed.inSession then s.holdFreed.endSession .hold else s.holdFreed

theorem enterHold_eq : s.enterHold = s.holdQuieted.beginCond .supply := rfl

theorem holdBegun_tables :
    s.holdBegun.tables =
      ({ s with mode := { s.mode with level := .lost }, release := { s.release with budget := 0 } } : State).tables := rfl

/-- The state in which the units are darkened one after the other. -/
def State.busSilent : State := s.setBus { s.bus with latches := [], lastPolled := none, flight := none }

/-- The units darkened one after the other. -/
def State.darkened : State := allUnits.foldl State.darkenUnit s

theorem unitsDark_eq : s.unitsDark = s.busSilent.darkened.setChute { s.busSilent.darkened.chute with confirmed := .locked } := by
  unfold State.unitsDark State.darkened State.busSilent
  rfl

theorem darkened_dark : Darkened s s.darkened allUnits := allUnits_darkened s

/-- The units dark, as the tables have it. -/
theorem unitsDark_dark : Darkened s.busSilent s.busSilent.darkened allUnits := darkened_dark _

theorem holdDark_unit (u : UnitIx) : (s.holdDark.unit u).bare = (s.unit u).darken.bare := by
  have dark := (unitsDark_dark s.holdBegun).units u
  rw [if_pos (mem_allUnits u)] at dark
  rw [State.holdDark, unitsDark_eq]
  generalize s.holdBegun.busSilent.darkened = d at dark ⊢
  exact dark

theorem holdDark_slot (n : SlotNo) :
    (s.holdDark.slot n).bare = if s.slotOnline n = true then ((s.slot n).lost s.time).bare else (s.slot n).bare := by
  have dark := (unitsDark_dark s.holdBegun).slots n
  rw [if_congr (and_iff_right (mem_allUnits (modUnit (moduleOf n)))) rfl rfl] at dark
  rw [State.holdDark, unitsDark_eq]
  generalize s.holdBegun.busSilent.darkened = d at dark ⊢
  exact dark

theorem holdDark_release : s.holdDark.release = { s.release with budget := 0 } := by
  have dark := (unitsDark_dark s.holdBegun).release
  rw [State.holdDark, unitsDark_eq]
  generalize s.holdBegun.busSilent.darkened = d at dark ⊢
  exact dark

theorem holdDark_bookings : s.holdDark.bookings.map Booking.bare = s.bookings.map Booking.bare := by
  have dark := (unitsDark_dark s.holdBegun).bookings
  rw [State.holdDark, unitsDark_eq]
  generalize s.holdBegun.busSilent.darkened = d at dark ⊢
  exact dark

theorem holdDark_bus : s.holdDark.bus.latches = [] ∧ s.holdDark.bus.lastPolled = none ∧ s.holdDark.bus.flight = none := by
  have bus := (unitsDark_dark s.holdBegun).bus
  rw [State.holdDark, unitsDark_eq]
  generalize s.holdBegun.busSilent.darkened = d at bus ⊢
  change d.bus.latches = [] ∧ d.bus.lastPolled = none ∧ d.bus.flight = none
  rw [bus]
  exact ⟨rfl, rfl, rfl⟩

theorem holdDark_rest :
    s.holdDark.elsewhere =
      { s.elsewhere with
        mode := { s.mode with level := .lost }, release := { s.elsewhere.release with budget := 0 }
        chute := { s.chute with confirmed := .locked } } := by
  have rest := (unitsDark_dark s.holdBegun).rest
  rw [State.holdDark, unitsDark_eq]
  generalize s.holdBegun.busSilent.darkened = d at rest
  have chute : d.chute = s.chute :=
    show d.elsewhere.chute = s.holdBegun.busSilent.elsewhere.chute from congrArg State.chute rest
  rw [chute]
  exact congrArg (fun t : State => { t with chute := { s.chute with confirmed := .locked } }) rest

theorem state_of_bare {r q : UnitRec} (same : r.bare = q.bare) : r.state = q.state :=
  show r.bare.state = q.bare.state from congrArg UnitRec.state same

/-- The occupancy and the tag of a record. -/
def SlotRec.key (r : SlotRec) : Occupancy × Option Nat := (r.occ, r.tag)

theorem key_of_bare {r q : SlotRec} (same : r.bare = q.bare) : r.key = q.key :=
  show r.bare.key = q.bare.key from congrArg SlotRec.key same

theorem UnitRec.darken_dark (r : UnitRec) :
    r.darken.state ≠ .online ∧ r.darken.state ≠ .probing ∧ r.darken.state ≠ .recovery := by
  obtain ⟨state⟩ := r
  cases state <;> exact ⟨UnitState.noConfusion, UnitState.noConfusion, UnitState.noConfusion⟩

theorem holdDark_dark : s.holdDark.allDark := by
  intro u
  rw [state_of_bare (holdDark_unit s u)]
  exact (s.unit u).darken_dark

end

end Sys2Proof.Machine
end

section
/-! SUPPORT. What entry to HOLD leaves (R165, R94, R40, R8). -/

namespace Sys2Proof.Machine

theorem elsewhere_budget {s t : State} (same : t.elsewhere = s.elsewhere) : t.release.budget = s.release.budget :=
  show t.elsewhere.release.budget = s.elsewhere.release.budget by rw [same]

theorem keyAt_eq (s : State) (n : SlotNo) : s.keyAt n = (s.slot n).key := rfl

theorem condTo_session {s t : State} {c : Condition} {b : Bool} (form : t.tables = s.tables.condTo c b) : t.session = s.session :=
  show t.tables.session = (s.tables.condTo c b).session from congrArg State.session form

section
variable (s : State)

/-! ### Every release aborted -/

def State.holdChannels : State := s.holdDark.abortChannels (fun _ => true) .hold

def State.holdEntries : State := s.holdChannels.abortEntries (fun _ => true) .hold

theorem holdChannels_aborts : ChannelsAborted (fun _ => true) .hold s.holdDark s.holdChannels allChannels :=
  abortChannels_aborts _ _ _

theorem holdEntries_aborts : EntriesAborted .hold s.holdChannels s.holdEntries s.release.queue := by
  have aborts := abortEntries_aborts (fun _ => true) .hold s.holdChannels
  rw [(holdChannels_aborts s).queue, holdDark_release, List.filter_true] at aborts
  exact aborts

/-- The bookings of the channels in use and of the queue. -/
theorem holdEntries_aborted :
    ∃ ns, Aborted s.holdDark s.holdEntries ns
      ∧ ∀ b, b ∈ ns ↔ (∃ k n phase, (s.chan k).uses n b phase) ∨ ∃ e ∈ s.release.queue, e.booking = b := by
  obtain ⟨ns, aborted, numbers⟩ := (holdChannels_aborts s).aborted
  have chan (k : ChanNo) : s.holdDark.chan k = s.chan k := by rw [State.chan, holdDark_release]; rfl
  refine ⟨_, aborted.trans (holdEntries_aborts s).aborted, fun b => ?_⟩
  rw [List.mem_append, numbers, List.mem_map]
  refine or_congr ⟨?_, ?_⟩ Iff.rfl
  · rintro ⟨k, -, n, phase, -, uses⟩
    exact ⟨k, n, phase, by rwa [← chan]⟩
  · rintro ⟨k, n, phase, uses⟩
    exact ⟨k, mem_allChannels k, n, phase, rfl, by rwa [chan]⟩

theorem holdEntries_chan (k : ChanNo) : s.holdEntries.chan k = .free := by
  rw [(holdEntries_aborts s).chan]
  obtain ⟨ns, aborted, -⟩ := (holdChannels_aborts s).aborted
  rcases aborted.chan k with same | free
  · cases slot : (s.holdDark.chan k).slot? with
    | none =>
      rw [same]
      cases chan : s.holdDark.chan k with
      | free => rfl
      | opening n b => rw [chan] at slot; cases slot
      | opened n b d => rw [chan] at slot; cases slot
      | closing n b why => rw [chan] at slot; cases slot
    | some n => exact ((holdChannels_aborts s).freed k (mem_allChannels k) n slot rfl).1
  · exact free

theorem holdEntries_queue : s.holdEntries.release.queue = [] := by
  refine List.eq_nil_iff_forall_not_mem.mpr fun e there => ?_
  rw [State.holdEntries] at there
  have off := abortEntries_gone (fun _ => true) .hold s.holdChannels e there
  cases off

theorem holdEntries_budget : s.holdEntries.release.budget = 0 := by
  obtain ⟨ns, aborted, -⟩ := holdEntries_aborted s
  rw [elsewhere_budget aborted.rest, holdDark_release]

theorem holdEntries_dark : s.holdEntries.allDark := by
  obtain ⟨ns, aborted, -⟩ := holdEntries_aborted s
  intro u
  rw [aborted.state]
  exact holdDark_dark s u

theorem holdFreed_marks : MarksOnly s.holdEntries s.holdFreed := markFull_marks (holdEntries_dark s) s

/-! ### What is left when the releases are gone -/

theorem holdFreed_release : s.holdFreed.release.budget = 0 ∧ s.holdFreed.release.queue = [] ∧ ∀ k, s.holdFreed.chan k = .free := by
  have same := (holdFreed_marks s).only.release
  refine ⟨by rw [same]; exact holdEntries_budget s, by rw [same]; exact holdEntries_queue s, fun k => ?_⟩
  rw [State.chan, same]
  exact holdEntries_chan s k

theorem holdFreed_bus : s.holdFreed.bus.latches = [] ∧ s.holdFreed.bus.lastPolled = none ∧ s.holdFreed.bus.flight = none := by
  rw [(holdFreed_marks s).only.bus, (holdEntries_aborts s).bus, (holdChannels_aborts s).bus]
  exact holdDark_bus s

theorem holdFreed_state (u : UnitIx) : (s.holdFreed.unit u).state = (s.unit u).darken.state := by
  obtain ⟨ns, aborted, -⟩ := holdEntries_aborted s
  rw [(holdFreed_marks s).state, aborted.state]
  exact state_of_bare (holdDark_unit s u)

theorem holdFreed_key (n : SlotNo) :
    s.holdFreed.keyAt n = if s.slotOnline n = true then ((s.slot n).lost s.time).key else (s.slot n).key := by
  obtain ⟨ns, aborted, -⟩ := holdEntries_aborted s
  rw [keyAt_eq, key_of_bare ((holdFreed_marks s).only.slots n), ← keyAt_eq, aborted.keys, keyAt_eq]
  have dark := holdDark_slot s n
  split
  · next online => rw [if_pos online] at dark; exact key_of_bare dark
  · next offline => rw [if_neg offline] at dark; exact key_of_bare dark

theorem holdFreed_bookings :
    ∃ ns, s.holdFreed.bookings.map Booking.bare = (s.bookings.map (Booking.loadedIf ns)).map Booking.bare
      ∧ ∀ b, b ∈ ns ↔ (∃ k n phase, (s.chan k).uses n b phase) ∨ ∃ e ∈ s.release.queue, e.booking = b := by
  obtain ⟨ns, aborted, numbers⟩ := holdEntries_aborted s
  refine ⟨ns, ?_, numbers⟩
  rw [(holdFreed_marks s).only.bookings, aborted.bookings, map_loadedIf_bare, holdDark_bookings, ← map_loadedIf_bare]

theorem holdFreed_rest :
    s.holdFreed.elsewhere =
      { s.elsewhere with
        mode := { s.mode with level := .lost }, release := { s.elsewhere.release with budget := 0 }
        chute := { s.chute with confirmed := .locked } } := by
  obtain ⟨ns, aborted, -⟩ := holdEntries_aborted s
  exact (holdFreed_marks s).rest.trans (aborted.rest.trans (holdDark_rest s))

/-! ### The end of the entry -/

theorem holdQuieted_kept :
    (∃ a b c, s.holdQuieted.tables = { s.holdFreed.tables with conds := a, session := b, directory := c })
      ∧ s.holdQuieted.session.remaining = none ∧ s.holdQuieted.bus = s.holdFreed.bus := by
  unfold State.holdQuieted
  split
  · obtain ⟨kept, remaining⟩ := endSession_kept s.holdFreed
    exact ⟨kept, remaining, endSession_bus _⟩
  · next none_ =>
    exact ⟨⟨_, _, _, rfl⟩, Option.not_isSome_iff_eq_none.mp none_, rfl⟩

theorem enterHold_kept :
    (∃ a b c, s.enterHold.tables = { s.holdFreed.tables with conds := a, session := b, directory := c })
      ∧ s.enterHold.session.remaining = none ∧ (s.enterHold.cond .supply).active = true ∧ s.enterHold.bus = s.holdFreed.bus := by
  obtain ⟨⟨a, b, c, kept⟩, remaining, bus⟩ := holdQuieted_kept s
  have form := beginCond_form s.holdQuieted .supply
  rw [enterHold_eq]
  refine ⟨?_, ?_, ?_, (beginCond_bus _ _).trans bus⟩
  · obtain ⟨d, conds⟩ := condTo_kept s.holdQuieted.tables .supply true
    rw [form, conds, kept]
    exact ⟨d, b, c, rfl⟩
  · rw [condTo_session form]
    exact remaining
  · have active := cond_active (form.trans (condTo_form s.holdQuieted .supply true).symm) .supply
    rw [active, State.condTo, cond_putCond, if_pos rfl]

end

/-! ### The records of the state after entry, one by one -/

section
variable {s f z : State} {a : Vector CondRec 6} {b : Session} {c : List KeyEntry}

theorem blocks_kept (h : z.tables = { f.tables with conds := a, session := b, directory := c }) :
    z.mode = f.mode ∧ z.pins = f.pins ∧ z.release = f.release ∧ z.chute = f.chute ∧ z.time = f.time ∧ z.params = f.params
      ∧ z.policy = f.policy ∧ z.dueList = f.dueList ∧ z.alerts.mask = f.alerts.mask
      ∧ z.bin.entries.map DropEntry.bare = f.bin.entries.map DropEntry.bare ∧ z.bin.nextDrop = f.bin.nextDrop :=
  ⟨(congrArg State.mode h :), (congrArg State.pins h :), (congrArg State.release h :), (congrArg State.chute h :), (congrArg State.time h :),
    (congrArg State.params h :), (congrArg State.policy h :), (congrArg State.dueList h :), (congrArg (fun t : State => t.alerts.mask) h :),
    (congrArg (fun t : State => t.bin.entries) h :), (congrArg (fun t : State => t.bin.nextDrop) h :)⟩

theorem records_read (h : z.tables = { f.tables with conds := a, session := b, directory := c }) :
    z.bookings.map Booking.bare = f.bookings.map Booking.bare ∧ (∀ n, z.keyAt n = f.keyAt n) ∧ ∀ u, (z.unit u).state = (f.unit u).state := by
  have same := records_kept h
  exact ⟨(congrArg State.bookings h :), fun n => (key_of_bare (slot_bare same n)), fun u => state_of_bare (unit_bare same u)⟩

theorem elsewhere_blocks
    (h : f.elsewhere =
      { s.elsewhere with
        mode := { s.mode with level := .lost }, release := { s.elsewhere.release with budget := 0 }
        chute := { s.chute with confirmed := .locked } }) :
    f.mode = { s.mode with level := .lost } ∧ f.pins = s.pins ∧ f.chute = { s.chute with confirmed := .locked } ∧ f.time = s.time
      ∧ f.params = s.params ∧ f.policy = s.policy ∧ f.dueList = s.dueList ∧ f.alerts.mask = s.alerts.mask
      ∧ f.bin.entries.map DropEntry.bare = s.bin.entries.map DropEntry.bare ∧ f.bin.nextDrop = s.bin.nextDrop :=
  ⟨(congrArg State.mode h :), (congrArg State.pins h :), (congrArg State.chute h :), (congrArg State.time h :),
    (congrArg State.params h :), (congrArg State.policy h :), (congrArg State.dueList h :), (congrArg (fun t : State => t.alerts.mask) h :),
    (congrArg (fun t : State => t.bin.entries) h :), (congrArg (fun t : State => t.bin.nextDrop) h :)⟩

end

/-- Whether a channel uses a booking (R63), as a test. -/
def Channel.usesBooking (b : Nat) : Channel → Bool
  | .opening _ k => k == b
  | .opened _ k _ => k == b
  | _ => false

theorem Channel.uses_iff (x : Channel) (b : Nat) : (∃ n phase, x.uses n b phase) ↔ x.usesBooking b = true := by
  cases x with
  | free => exact ⟨fun ⟨n, phase, uses⟩ => absurd (Channel.uses_slot uses) nofun, fun no => absurd no Bool.false_ne_true⟩
  | opening n k =>
    refine ⟨fun ⟨m, phase, uses⟩ => ?_, fun same => ⟨n, .opening, .inl ⟨?_, rfl⟩⟩⟩
    · obtain ⟨eq, -⟩ | ⟨⟨d, eq⟩, -⟩ := uses <;> cases eq
      exact beq_iff_eq.mpr rfl
    · rw [beq_iff_eq.mp same]
  | opened n k d =>
    refine ⟨fun ⟨m, phase, uses⟩ => ?_, fun same => ⟨n, .opened, .inr ⟨⟨d, ?_⟩, rfl⟩⟩⟩
    · obtain ⟨eq, -⟩ | ⟨⟨e, eq⟩, -⟩ := uses <;> cases eq
      exact beq_iff_eq.mpr rfl
    · rw [beq_iff_eq.mp same]
  | closing n k why =>
    refine ⟨fun ⟨m, phase, uses⟩ => ?_, fun no => absurd no Bool.false_ne_true⟩
    obtain ⟨eq, -⟩ | ⟨⟨e, eq⟩, -⟩ := uses <;> cases eq

theorem supplyTo_lost {s : State} (live : s.mode.level ≠ .lost) (supb : Bool) :
    s.supplyTo false supb = (s.setPins { s.pins with supa := false, supb }).enterHold :=
  (if_neg fun same => live same.symm).trans (if_pos rfl)

theorem chooseCommand_hold {s : State} (level : s.mode.level = .lost) : s.chooseCommand = s :=
  if_pos (by simp [State.hold, level])

theorem SlotRec.lost_key (r : SlotRec) (time : Option Nat) :
    (r.lost time).key = (.unknown, if r.occ = .held ∨ r.occ = .unknown then r.tag else none) := by
  unfold SlotRec.lost SlotRec.key
  cases occ : r.occ <;> simp [occ]

theorem UnitRec.darken_state (r : UnitRec) :
    r.darken.state = (match r.state with
      | .probing => .dark
      | .online => .dark
      | .recovery => .dark
      | x => x) := by
  obtain ⟨state⟩ := r
  cases state <;> rfl

/-- Settles O31: the aborts of `holdFreed`, then what the end of the session and SUPPLY keep. -/
theorem holdEntryFreesAndDarkens : Obligations.HoldEntryFreesAndDarkens := by
  intro s supb running live
  let p : State := s.setPins { s.pins with supa := false, supb }
  obtain ⟨⟨a, b, c, kept⟩, remaining, active, bus⟩ := enterHold_kept p
  obtain ⟨mode, pins, release, chute, time, params, policy, dueList, mask, bin, nextDrop⟩ := blocks_kept kept
  obtain ⟨bookings, keys, states⟩ := records_read kept
  obtain ⟨mode', pins', chute', time', params', policy', dueList', mask', bin', nextDrop'⟩ := elsewhere_blocks (holdFreed_rest p)
  obtain ⟨budget, queue, chans⟩ := holdFreed_release p
  obtain ⟨latches, polled, flight⟩ := holdFreed_bus p
  obtain ⟨ns, loaded, numbers⟩ := holdFreed_bookings p
  have level : p.enterHold.mode.level = .lost := by rw [mode, mode']
  have next : exec (.holdEntry supb) s = .next p.enterHold := by
    have event : exec (.holdEntry supb) s = .next (s.event fun s => s.supplyTo false supb) := rfl
    rw [event, State.event, if_neg (by simp [running]), supplyTo_lost live, chooseCommand_hold level]
  refine ⟨p.enterHold, next, mode.trans mode', pins.trans pins', ?_, ?_, fun k => ?_, ?_, ?_, ?_, chute.trans chute', fun u => ?_,
    fun n => ?_, ?_, remaining, active, time.trans time', params.trans params', policy.trans policy', dueList.trans dueList',
    mask.trans mask', bin.trans bin', nextDrop.trans nextDrop'⟩
  · rw [release]; exact budget
  · rw [release]; exact queue
  · rw [State.chan, release]; exact chans k
  · rw [bus]; exact flight
  · rw [bus]; exact latches
  · rw [bus]; exact polled
  · rw [states, holdFreed_state]
    exact UnitRec.darken_state (s.unit u)
  · have key := (keys n).trans (holdFreed_key p n)
    rw [SlotRec.lost_key] at key
    exact key
  · rw [bookings, loaded, List.map_map]
    refine List.map_congr_left fun k _ => congrArg Booking.bare ?_
    have used : k.number ∈ ns ↔ (s.release.queue.any fun e => e.booking == k.number) = true
        ∨ (allChannels.any fun c => (s.chan c).usesBooking k.number) = true := by
      rw [numbers, or_comm, List.any_eq_true, List.any_eq_true]
      refine or_congr (exists_congr fun e => and_congr_right fun _ => beq_iff_eq.symm) (exists_congr fun c => ?_)
      rw [← Channel.uses_iff (s.chan c) k.number]
      exact (and_iff_right (mem_allChannels c)).symm
    exact if_congr (used.trans Bool.or_eq_true_iff.symm) rfl rfl

end Sys2Proof.Machine
end

section
/-! SUPPORT. SLOT_QUARANTINE and the retirement of a full module (R52, R38). -/

namespace Sys2Proof.Machine

/-! ### A module retired (R38) -/

/-- What becomes of a module's state as its count rises to 16 (R38). -/
def UnitState.full : UnitState → UnitState
  | .online => .retired
  | .probing => .retired
  | .recovery => .retired
  | x => x

/-- `t` is reached from `s`, in which the count of module `m` has risen to 16, by what R38 asks. -/
structure Retires (s t : State) (m : ModIx) : Prop where
  counted : (s.unit (modUnit m)).quarantined ≤ (t.unit (modUnit m)).quarantined
  service : ∀ n, (s.slot n).service = .quarantined → (t.slot n).service = .quarantined
  state : (t.unit (modUnit m)).state = UnitState.full (s.unit (modUnit m)).state
  mark : (s.unit (modUnit m)).state = .dark → (t.unit (modUnit m)).retireMark = true
  lost : (s.unit (modUnit m)).state = .online → ∀ n, moduleOf n = m → (t.slot n).occ = .unknown

theorem occ_of_keyAt {s t : State} {n : SlotNo} (same : t.keyAt n = s.keyAt n) : (t.slot n).occ = (s.slot n).occ :=
  congrArg Prod.fst same

section
variable {s t : State} {m : ModIx}

/-- What is said of a retirement rests on the slot records and the unit's. -/
theorem Retires.congr {v : State} (h : Retires s t m) (slots : ∀ n, (v.slot n).bare = (t.slot n).bare)
    (unit : (v.unit (modUnit m)).bare = (t.unit (modUnit m)).bare) : Retires s v m where
  counted := h.counted.trans
    (show (t.unit (modUnit m)).bare.quarantined = (v.unit (modUnit m)).bare.quarantined from congrArg UnitRec.quarantined unit.symm).le
  service n was := (congrArg SlotRec.service (slots n)).trans (h.service n was)
  state := (congrArg UnitRec.state unit).trans h.state
  mark dark := (congrArg UnitRec.retireMark unit).trans (h.mark dark)
  lost online n own := (congrArg SlotRec.occ (slots n)).trans (h.lost online n own)

theorem Retires.of_tables {v : State} (h : Retires s t m) (same : v.tables = t.tables) : Retires s v m :=
  h.congr (slot_bare same) (unit_bare same _)

/-- A unit record alone has changed. -/
theorem retires_withUnit {f : UnitRec → UnitRec} (counted : (f (s.unit (modUnit m))).quarantined = (s.unit (modUnit m)).quarantined)
    (state : (f (s.unit (modUnit m))).state = UnitState.full (s.unit (modUnit m)).state)
    (mark : (s.unit (modUnit m)).state = .dark → (f (s.unit (modUnit m))).retireMark = true)
    (offline : (s.unit (modUnit m)).state ≠ .online) : Retires s (s.withUnit (modUnit m) f) m := by
  have unit := unit_withUnit_self s (modUnit m) f
  refine ⟨?_, fun _ was => was, ?_, ?_, fun online => absurd online offline⟩
  · rw [unit, counted]
  · rw [unit, state]
  · rw [unit]; exact mark

theorem retire_online (state : (s.unit (modUnit m)).state = .online) :
    s.retire m = (s.leaveOnline (modUnit m) .retired).moduleState (modUnit m) .online := by
  unfold State.retire
  simp only [state]

theorem leaveOnline_retires (state : (s.unit (modUnit m)).state = .online) :
    Retires s (s.leaveOnline (modUnit m) .retired) m := by
  obtain ⟨ns, aborted⟩ := leaveOnline_aborted s m .retired
  have unit {α : Type} (f : UnitRec → α) (bare : ∀ r : UnitRec, f r.bare = f r) :
      f ((s.offline m .retired).unit (modUnit m)) = f { s.unit (modUnit m) with state := .retired } := by
    rw [offline_unit s m .retired (modUnit m) f bare, if_pos rfl]
  refine ⟨?_, fun n was => ?_, ?_, fun dark => ?_, fun _ n own => ?_⟩
  · exact (unit UnitRec.quarantined fun _ => rfl).ge.trans (aborted.counted _)
  · have kept : ((s.offline m .retired).slot n).service = .quarantined := by
      rw [offline_slot s m .retired n SlotRec.service fun _ => rfl, ← was]
      split
      · exact SlotRec.lost_kept _ _ SlotRec.service fun _ _ _ => rfl
      · rfl
    rcases aborted.service n with same | ⟨-, out⟩
    · exact same.trans kept
    · exact out
  · rw [aborted.state, unit UnitRec.state fun _ => rfl, state]
    rfl
  · rw [state] at dark
    cases dark
  · rw [occ_of_keyAt (aborted.keys n), offline_slot s m .retired n SlotRec.occ fun _ => rfl, if_pos own]
    exact SlotRec.lost_occ _ _

/-- A PROBING module retired, before the START report. -/
def State.probeEnded (s : State) (m : ModIx) : State :=
  (s.markStale (modUnit m)).withUnit (modUnit m) fun r => { r with state := .retired, cause := none }

theorem retire_probing (state : (s.unit (modUnit m)).state = .probing) :
    s.retire m = ((s.probeEnded m).moduleState (modUnit m) .probing).startCheck := by
  obtain ⟨bus, same⟩ := markStale_kept (modUnit m) s
  unfold State.retire State.probeEnded
  simp only [state, same]
  rfl

theorem probeEnded_tables (s : State) (m : ModIx) :
    (s.probeEnded m).tables = (s.withUnit (modUnit m) fun r => { r with state := .retired, cause := none }).tables := by
  obtain ⟨bus, same⟩ := markStale_kept (modUnit m) s
  rw [State.probeEnded, same]
  rfl

theorem startCheck_retires {v : State} (h : Retires s v m) : Retires s v.startCheck m := by
  obtain ⟨reported, same⟩ := startCheck_tables v
  exact h.congr (fun n => (slot_bare same n).trans rfl) ((unit_bare same _).trans rfl)

theorem retire_dark (state : (s.unit (modUnit m)).state = .dark) :
    s.retire m = s.withUnit (modUnit m) fun r => { r with retireMark := true } := by
  unfold State.retire
  simp only [state]
  rw [← state]
  rfl

theorem retires_refl (kept : UnitState.full (s.unit (modUnit m)).state = (s.unit (modUnit m)).state)
    (lit : (s.unit (modUnit m)).state ≠ .dark) (offline : (s.unit (modUnit m)).state ≠ .online) : Retires s s m :=
  ⟨le_refl _, fun _ was => was, kept.symm, fun dark => absurd dark lit, fun online => absurd online offline⟩

/-- R38, by the state of the unit. -/
theorem retire_retires (s : State) (m : ModIx) : Retires s (s.retire m) m := by
  cases state : (s.unit (modUnit m)).state with
  | online =>
    rw [retire_online state]
    exact (leaveOnline_retires state).of_tables (moduleState_tables _ _ _)
  | probing =>
    rw [retire_probing state]
    refine startCheck_retires (Retires.of_tables ?_ ((moduleState_tables _ _ _).trans (probeEnded_tables s m)))
    exact retires_withUnit rfl (by rw [state]; rfl) (by rw [state]; nofun) (by rw [state]; decide)
  | recovery =>
    rw [retire_recovery state]
    refine Retires.of_tables ?_ (moduleState_tables _ _ _)
    exact retires_withUnit rfl (by rw [state]; rfl) (by rw [state]; nofun) (by rw [state]; decide)
  | dark =>
    rw [retire_dark state]
    exact retires_withUnit rfl (by rw [state]; rfl) (fun _ => rfl) (by rw [state]; decide)
  | absent =>
    have same : s.retire m = s := by unfold State.retire; simp only [state]
    rw [same]
    exact retires_refl (by rw [state]; rfl) (by rw [state]; decide) (by rw [state]; decide)
  | retired =>
    have same : s.retire m = s := by unfold State.retire; simp only [state]
    rw [same]
    exact retires_refl (by rw [state]; rfl) (by rw [state]; decide) (by rw [state]; decide)

/-- The arbiter's turns leave a retirement as it is. -/
theorem Retires.arbiter (h : Retires s t m) : Retires s t.arbiter m := by
  have grants := arbiter_grants t
  have unit := grants.keys.units (modUnit m)
  have occ (n : SlotNo) : (t.arbiter.slot n).occ = (t.slot n).occ := occ_of_keyAt (grants.keys.keys n List.not_mem_nil)
  exact ⟨h.counted.trans
      (show (t.unit (modUnit m)).bare.quarantined = (t.arbiter.unit (modUnit m)).bare.quarantined from congrArg UnitRec.quarantined unit.symm).le,
    fun n was => (grants.service n).trans (h.service n was), (congrArg UnitRec.state unit).trans h.state,
    fun dark => (congrArg UnitRec.retireMark unit).trans (h.mark dark), fun online n own => (occ n).trans (h.lost online n own)⟩

end

/-! ### SLOT_QUARANTINE (R52) -/

section
variable (s : State) (n : SlotNo)

/-- The slot out of service with MANUAL, and the report of it. -/
def State.markedManual : State := (s.quarantine n (some .manual)).reportFault n none .manual none

theorem markedManual_tables : (s.markedManual n).tables = (s.outOfService n (joinFault (some .manual))).tables := by
  rw [State.markedManual, State.reportFault, queueReport_tables, quarantine_form, outOfService_form]

theorem markedManual_tx (held : s.link.tx ≠ .idle) : (s.markedManual n).link.tx ≠ .idle := by
  have calm := (quarantine_calm s n (some .manual)).trans (reportFault_calm _ n none .manual none)
  rw [State.markedManual, (calm.held held).1]
  exact held

theorem markedManual_lastReport (held : s.link.tx ≠ .idle) :
    (s.markedManual n).lastReport = some (.slotFault
      { slot := n, booking := none, kind := .manual, service := .quarantined, slow := (s.slot n).slow, latch := none }) := by
  obtain ⟨service, slow⟩ := quarantine_slot s n (some .manual)
  have sends : (s.quarantine n (some .manual)).link.tx ≠ .idle := by rwa [quarantine_link]
  rw [State.markedManual, State.reportFault, queueReport_lastReport _ sends, service, slow]

theorem manualQuarantine_eq :
    s.manualQuarantine n =
      if (s.markedManual n).fullNow (moduleOf n) (s.quarantinedOf (moduleOf n)) then ((s.markedManual n).retire (moduleOf n)).arbiter
      else s.markedManual n := rfl

theorem outOfService_slot (f : FaultSet → FaultSet) :
    (s.outOfService n f).slot n = { s.slot n with service := .quarantined, faults := f (s.slot n).faults } :=
  slot_withSlot_self s n fun r => { r with service := .quarantined, faults := f r.faults }

theorem outOfService_unit (f : FaultSet → FaultSet) :
    (s.outOfService n f).unit (modUnit (moduleOf n)) =
      { s.unit (modUnit (moduleOf n)) with
        quarantined := if (s.slot n).service = .quarantined then (s.unit (modUnit (moduleOf n))).quarantined
          else (s.unit (modUnit (moduleOf n))).quarantined + 1 } :=
  unit_withUnit_self (s.withSlot n fun r => { r with service := .quarantined, faults := f r.faults }) (modUnit (moduleOf n)) fun x =>
    { x with quarantined := if (s.slot n).service = .quarantined then x.quarantined else x.quarantined + 1 }

theorem markedManual_quarantined :
    ((s.markedManual n).unit (modUnit (moduleOf n))).quarantined =
      if (s.slot n).service = .quarantined then s.quarantinedOf (moduleOf n) else s.quarantinedOf (moduleOf n) + 1 := by
  rw [unit_congr (markedManual_tables s n) _ UnitRec.quarantined fun _ => rfl, outOfService_unit]
  rfl

variable {s n}

theorem manualQuarantine_below (below : (s.slot n).service = .quarantined ∨ s.quarantinedOf (moduleOf n) + 1 < 16) :
    s.manualQuarantine n = s.markedManual n := by
  rw [manualQuarantine_eq, State.fullNow, markedManual_quarantined]
  refine if_neg fun full => ?_
  rw [Bool.and_eq_true, decide_eq_true_eq, decide_eq_true_eq, Config.moduleSlots] at full
  obtain ⟨before, after⟩ := full
  split at after
  · omega
  · next serves => exact absurd (below.resolve_left serves) (by omega)

/-- The sixteenth slot out of service: R38 for its module. -/
theorem manualQuarantine_full (serves : (s.slot n).service ≠ .quarantined) (count : s.quarantinedOf (moduleOf n) = 15) :
    Retires (s.markedManual n) (s.manualQuarantine n) (moduleOf n) := by
  have full : (s.markedManual n).fullNow (moduleOf n) (s.quarantinedOf (moduleOf n)) = true := by
    rw [State.fullNow, markedManual_quarantined, if_neg serves, count]
    rfl
  rw [manualQuarantine_eq, if_pos full]
  exact (retire_retires _ _).arbiter

theorem slotQuarantine_busy (busy : (s.slot n).channel ≠ none ∨ (s.slot n).queued = true) :
    s.slotQuarantine n.val = s.refuse .wrongState := by
  rw [State.slotQuarantine, dif_pos n.isLt]
  exact if_pos (busy.imp_left Option.isSome_iff_ne_none.mpr)

theorem slotQuarantine_idle (channel : (s.slot n).channel = none) (queued : (s.slot n).queued = false) :
    s.slotQuarantine n.val = (s.manualQuarantine n).accept := by
  rw [State.slotQuarantine, dif_pos n.isLt]
  exact if_neg (by simp [channel, queued])

end

theorem slotQuarantine_range (s : State) {n : Nat} (beyond : 383 < n) : s.slotQuarantine n = s.refuse .badField :=
  dif_neg (by omega)

theorem finish_tables (s : State) (a : Answer) : (s.finish a).tables = s.tables := chooseCommand_tables _

/-- Settles O23: `markedManual` takes the slot out of service, and `Retires` says what the sixteenth of a module does. -/
theorem slotQuarantineTakesASlotOutOfService : Obligations.SlotQuarantineTakesASlotOutOfService := by
  intro s tag body n hears read
  refine ⟨fun beyond => ?_, fun m number => ?_⟩
  · exact served_of_refused (kind := 0x0F) (owner := fun n s => s.slotQuarantine n) hears rfl read (slotQuarantine_range _ beyond)
  · subst number
    intro u r
    have same := frameBegin_tables s
    rw [heard_eq] at same
    have channel : (s.frameBegin.slot m).channel = r.channel := slot_congr same m SlotRec.channel fun _ => rfl
    have queued : (s.frameBegin.slot m).queued = r.queued := slot_congr same m SlotRec.queued fun _ => rfl
    have service : (s.frameBegin.slot m).service = r.service := slot_congr same m SlotRec.service fun _ => rfl
    have slow : (s.frameBegin.slot m).slow = r.slow := slot_congr same m SlotRec.slow fun _ => rfl
    have count : s.frameBegin.quarantinedOf (moduleOf m) = (s.unit u).quarantined := unit_congr same u UnitRec.quarantined fun _ => rfl
    have sends := frameBegin_tx s
    refine ⟨fun busy => ?_, fun free none_ below => ?_, fun free none_ serves fifteen => ?_⟩
    · rw [← channel, ← queued] at busy
      exact served_of_refused (kind := 0x0F) (owner := fun n s => s.slotQuarantine n) hears rfl read (slotQuarantine_busy busy)
    · have whole : s.frameBegin.slotQuarantine m.val = (s.frameBegin.markedManual m).accept := by
        rw [slotQuarantine_idle (channel.trans free) (queued.trans none_), manualQuarantine_below (by rw [service, count]; exact below)]
      have tables : (s.frameBegin.slotQuarantine m.val).1.tables =
          (s.heard.outOfService m (joinFault (some .manual))).tables := by
        rw [whole]
        refine (markedManual_tables _ m).trans ?_
        rw [outOfService_form, frameBegin_tables, ← outOfService_form]
      obtain ⟨next, answered⟩ := answered_of_owner (i := .slotQuarantine tag body) (tag := tag) (kind := 0x0F) (owner := fun n s => s.slotQuarantine n) (r := .of .ok) hears rfl read
        ((slotQuarantine_calm _ _).linkKept sends) (congrArg Prod.snd whole) tables
      refine ⟨_, next, ?_, ?_⟩
      · have same : (s.heard.slot m).service = r.service := by rw [heard_eq]; rfl
        rw [State.outOfService, same] at answered
        exact answered
      · have last := markedManual_lastReport s.frameBegin m sends
        rw [slow] at last
        rw [whole]
        exact (finish_lastReport _ (markedManual_tx _ m sends)).trans last
    · have whole := slotQuarantine_idle (channel.trans free) (queued.trans none_)
      have final := exec_takeRequest (kind := 0x0F) (owner := fun n s => s.slotQuarantine n) hears (rfl : exec (.slotQuarantine tag body) s = _) read
      rw [whole] at final
      rw [← service] at serves
      have retires := manualQuarantine_full serves (count.trans fifteen)
      have marked := markedManual_tables s.frameBegin m
      have markedSlot : ((s.frameBegin.markedManual m).slot m).service = .quarantined := by
        rw [slot_congr marked m SlotRec.service fun _ => rfl, outOfService_slot]
      have markedCount : ((s.frameBegin.markedManual m).unit u).quarantined = 16 := by
        rw [markedManual_quarantined, if_neg serves, count, fifteen]
      have markedState : ((s.frameBegin.markedManual m).unit u).state = (s.unit u).state := by
        rw [unit_congr marked u UnitRec.state fun _ => rfl, outOfService_unit]
        exact unit_congr same u UnitRec.state fun _ => rfl
      obtain ⟨counted, kept, state, mark, lost⟩ := retires.of_tables (finish_tables _ _)
      rw [markedState] at state mark lost
      exact ⟨_, final, markedCount.ge.trans counted, kept m markedSlot, state, mark, lost⟩

end Sys2Proof.Machine
end
